-- ==== Sys2Proof/Word.lean ====
section
/-!
DEFINITION. The word types of the model and their plainest arithmetic (R4, R5: little-endian fields, two's complement).
-/
namespace Sys2Proof

/-- One byte (R4). -/
abbrev Byte := BitVec 8

/-- One 32-bit register of the BAR0, BAR2 or BAR4 windows (R472). -/
abbrev Word := BitVec 32

/-- A data word of a loop tile, 24 bits. -/
abbrev DWord := BitVec 24

/-- A 56-bit accumulator of a loop tile. -/
abbrev Acc := BitVec 56

end Sys2Proof
end

