-- ==== Sys2Proof/Machine/Types/Common.lean ====
section
/-!
DEFINITION. Data shared by every block: sparse tables, event records, what leaves the device, request transports.
-/
namespace Sys2Proof.Machine

/-- A sparse table of values by number, in one canonical form: keys strictly rising and no entry equal to
what an unlisted key reads as. Register files, memories and instance tables are all of this kind. -/
abbrev Tab (α : Type) := List (Nat × α)

/-- One event record (R408, Table 18-1) without its index and CRC, which follow from it. -/
structure Record where
  /-- FRAME, bytes 0 to 5: major frame number, 0xFFFF_FFFF_FFFF outside a time base. -/
  frame : Nat := 0
  /-- ORDER, bytes 6 and 7 (R410). -/
  order : Nat := 0
  /-- CODE, bytes 8 and 9 (R413). -/
  code : Nat := 0
  /-- SOURCE, bytes 10 and 11 (R409). -/
  source : Nat := 0xFFFF
  /-- REPEAT, bytes 12 and 13 (R412). -/
  rep : Nat := 0
  /-- FLAGS, bytes 14 and 15. -/
  flags : Nat := 0
  /-- P0, bytes 16 to 19. -/
  p0 : Nat := 0
  /-- P1, bytes 20 to 23. -/
  p1 : Nat := 0
  /-- P2, bytes 24 to 27. -/
  p2 : Nat := 0
deriving DecidableEq, Repr, Inhabited

/-- The transport a request arrived on (Table 3-1). -/
inductive Via where
  | pcie
  /-- Ethernet port `port` (0 = P1), from UDP address `addr`. -/
  | eth (port : Nat) (addr : Nat)
  | spi
deriving DecidableEq, Repr, Inhabited

/-- Who makes a register access: the host through BAR0, BAR2 or BAR4 (Table 18-7), or Felade (R8, R9, R101). -/
inductive Bus where
  | felade
  | bar2
  | bar0
  | bar4
deriving DecidableEq, Repr, Inhabited

/-- One host request as it arrived (R64, R65): header and payload, and where and when. -/
structure Request where
  /-- Header (32 bytes) and payload as received. -/
  raw : List Byte := []
  /-- Transport. -/
  via : Via := .pcie
  /-- CLK_TIME cycle of the stamp (R47). -/
  stamp : Nat := 0
  /-- Major frame in which it was stamped. -/
  arr : Nat := 0
  /-- Taken from the pending store, so already answered (R83). -/
  held : Bool := false
  /-- Placed by the device as a lost action (R79): no answer is sent. -/
  lost : Bool := false
  /-- Taken from a replayed log (R56): no answer is sent. -/
  replay : Bool := false
  /-- Place in the session's order of requests, for responses in that order (R70). -/
  tok : Nat := 0
deriving DecidableEq, Repr, Inhabited

/-- A commit-log entry (R53, Table 2-10): class, minor index, source, order, body. -/
structure LogEntry where
  cls : Nat := 0
  minor : Nat := 0xFF
  source : Nat := 0
  order : Nat := 0
  body : List Byte := []
deriving DecidableEq, Repr, Inhabited

/-- A CAN or CAN FD frame (R377, Table 16-5). -/
structure CanFrame where
  /-- 11-bit or 29-bit identifier. -/
  ident : Nat := 0
  xtd : Bool := false
  rtr : Bool := false
  esi : Bool := false
  dlc : Nat := 0
  fdf : Bool := false
  brs : Bool := false
  data : List Byte := []
deriving DecidableEq, Repr, Inhabited

/-- What leaves the device on a pin, a link or a bus, or is signalled to the host: the observable output of a
command. `State.out` lists them, newest first. -/
inductive Out where
  /-- A response to a request of session `ses` (R66): slot or datagram bytes; for PCIe the host address of the slot (R70). -/
  | response (ses : Nat) (via : Via) (addr : Nat) (bytes : List Byte)
  /-- MSI-X vector raised (R72, R101). -/
  | msix (vector : Nat)
  /-- Bytes returned by an SPI transaction (R76). -/
  | spi (bytes : List Byte)
  /-- Commit-log datagram on Ethernet port `port` (R53). -/
  | logDatagram (port : Nat) (bytes : List Byte)
  /-- Drive-link frame on `port`, both lanes (R215, R221). -/
  | dlFrame (port : Nat) (bytes : List Byte)
  /-- Uplink of a drive-link module (R227). -/
  | dlUplink (port pos : Nat) (bytes : List Byte)
  /-- Cell-link frame of this device on both ports (R366), and a frame forwarded out of a port (R365). -/
  | clFrame (bytes : List Byte)
  | clForward (port : Nat) (bytes : List Byte)
  /-- Ethernet frame leaves port `port`, queue `q`, at a network time in ns (R362). -/
  | ethFrame (port q : Nat) (bytes : List Byte) (stamp : Rat)
  /-- PTP message leaves `port` (R350). -/
  | ptp (port : Nat) (kind : Nat) (body : List Byte)
  /-- Safe-message copy of connection `conn` leaves P3 (port 2) or P4 (port 3) (R320). -/
  | safeCopy (port conn : Nat) (bytes : List Byte)
  /-- CAN start of frame of buffer `buf` (R382). -/
  | canStart (ctl buf : Nat) (f : CanFrame)
  /-- Trace frame on the trace port (R421). -/
  | trace (bytes : List Byte)
  /-- The device resets itself (R424, R433) or raises RAIL_OFF_N (R445). -/
  | pin (name : String) (level : Bool)
  /-- Bytes written to flash slot `slot` (R97). -/
  | flashWrite (slot : Nat) (bytes : List Byte)
  /-- PMBus VOUT_COMMAND in mV (R432). -/
  | pmbus (mv : Nat)
deriving DecidableEq, Repr, Inhabited

end Sys2Proof.Machine
end

