-- ==== Sys2Proof/Machine/Types/Field.lean ====
section
/-!
DEFINITION. Data of the CAN FD controllers and of the field inputs and outputs that lies in no register (chapters 16
and 17).
-/
namespace Sys2Proof.Machine

/-- A received or transmitted frame element (Table 16-5). -/
structure CanElem where
  frame : CanFrame := {}
  filter : Nat := 0
  ofs : Nat := 0
  maj : Nat := 0
deriving DecidableEq, Repr, Inhabited

/-- A CAN FD controller beyond its registers. -/
structure CanCtl where
  /-- Receive FIFO, 64 frames, oldest first (R379). -/
  fifo : List CanElem := []
  /-- High-priority buffers 0 to 3 (R380). -/
  hp : Tab CanElem := []
  /-- Buffer whose frame has started and not ended (R383). -/
  started : Option Nat := none
  /-- Consecutive ACK errors and suspected collisions on one buffer's frame (R387, R388). -/
  ackErr : Tab Nat := []
  coll : Tab Nat := []
  /-- Frames dropped from the FIFO and overwritten in buffers since the last major boundary. -/
  ovfFifo : Nat := 0
  ovfHp : Nat := 0
  /-- Major frames to the end of BO_DELAY (R386). -/
  boLeft : Option Nat := none
  /-- Newest committed frame and frames committed since the last `io.read`, by receive object (R392, R393). -/
  recv : Tab CanElem := []
  recvCount : Tab Nat := []
  /-- Present data of the transmit objects, and objects made due by SEND (R391). -/
  objs : Tab (Option CanFrame) := []
  sendDue : List Nat := []
  /-- Frame to request when the started frame of the buffer ends (R391). -/
  after : Tab (Option CanFrame) := []
deriving DecidableEq, Repr, Inhabited

/-- A field output group beyond its registers (R402 to R404). -/
structure FoGrp where
  /-- Instant of the last feed or rearm, and whether the next feed is 0x5A. -/
  fedAt : Nat := 0
  next5A : Bool := false
deriving DecidableEq, Repr, Inhabited

/-- Field die (chapter 17). -/
structure Field where
  /-- Commands applied to the outputs, and the states of the switches (R399 to R404). -/
  applied : Word := 0
  level : Word := 0
  grp : Tab FoGrp := []
  /-- Cause and start of the hold window in force (R404). -/
  hold : Option (Nat × Nat) := none
  /-- Supplies as last measured, 0.1 V. -/
  volts : Tab Nat := []
deriving DecidableEq, Repr, Inhabited

end Sys2Proof.Machine
end

