-- ==== Sys2Proof/Machine/Types/Link.lean ====
section
/-!
DEFINITION. Data of the Lerwell drive link (chapter 09): the device's ports and positions, and the power modules.
-/
namespace Sys2Proof.Machine

/-- The image's entry for a position of a port (R234, R235). -/
structure ModCfg where
  present : Bool := false
  vendor : Nat := 0
  product : Nat := 0
  slot : Nat := 0
  genReq : Nat := 0
  /-- Axis contexts bound to module axes 0 and 1. -/
  axis0 : Option Nat := none
  axis1 : Option Nat := none
deriving DecidableEq, Repr, Inhabited

/-- Contents of a CAP record (Table 9-11). -/
structure Cap where
  vendor : Nat := 0
  product : Nat := 0
  serial : Nat := 0
  gens : Nat := 0
  axes : Nat := 0
  phases : Nat := 0
  fwd : Nat := 0
  tPrep : Nat := 0
  curLsb : Nat := 0
  speedShift : Nat := 0
deriving DecidableEq, Repr, Inhabited

/-- What the answer to a position's announcement is (R234): waiting for one, refused with a cause, CONFIG due, CONFIG sent. -/
inductive Offer where
  | wait | refuse (cause : Nat) | config | cmd
deriving DecidableEq, Repr, Inhabited

/-- Counts of both axes of a position (R229): last accepted U32 counts, 48-bit positions. -/
structure Counts where
  cnt0 : BitVec 32 := 0
  cnt1 : BitVec 32 := 0
  pos0 : Int := 0
  pos1 : Int := 0
deriving DecidableEq, Repr, Inhabited

/-- The device's state of one position of a port (R228, R229, R234), beyond DLn_POSk. -/
structure Pos where
  cap : Cap := {}
  joined : Bool := false
  offer : Offer := .wait
  /-- Cause raised for this announcement (MODULE_REFUSED once). -/
  told : Option Nat := none
  /-- Copy in use of this cycle: arrival in CLK_TIME cycles from the slot start, lane, bytes. -/
  used : Option (Int × Nat × List Byte) := none
  /-- In this cycle: a copy arrived, one was discarded. -/
  arrived : Bool := false
  edge : Bool := false
  /-- Arrival of the last discarded copy. -/
  lastOfs : Int := 0
  /-- REJOIN is being sent (R229). -/
  rejoining : Bool := false
  /-- Counts, and those before this cycle's copy. -/
  counts : Option Counts := none
  before : Option Counts := none
  /-- The last uplink reported FAULT or SAFE. -/
  repFault : Bool := false
deriving DecidableEq, Repr, Inhabited

/-- One drive-link port (R215, R217, R237), beyond DLn_STATUS and DLn_RING. -/
structure Port where
  broken : Bool := false
  /-- Consecutive cycles without a valid returned copy, by lane, and with both. -/
  miss0 : Nat := 0
  miss1 : Nat := 0
  both : Nat := 0
  /-- Copies returned in this cycle, by lane: marker valid, command frame of the cycle before valid. -/
  ret0 : Option (Bool × Bool) := none
  ret1 : Option (Bool × Bool) := none
  /-- A marker, a command frame has been sent whose return is awaited. -/
  sent : Bool := false
  cmdSent : Bool := false
  cmdDue : Bool := false
  brokenFor : Nat := 0
  slow : Bool := false
  pos : Tab Pos := []
deriving DecidableEq, Repr, Inhabited

/-- States of a module (Table 9-9). -/
inductive MState where
  | off | listen | announce | joined | safe
deriving DecidableEq, Repr, Inhabited

/-- A Lerwell power module (R217 to R233). Instants and delays are in ps of the device's time. -/
structure Module where
  st : MState := .off
  cap : Cap := {}
  /-- Safe identifiers of its axes (R231). -/
  safeId0 : Nat := 0
  safeId1 : Nat := 0
  position : Nat := 0
  /-- Last valid MINOR, and MINOR of this cycle (R218, R222). -/
  minor : Option Nat := none
  cycleMinor : Option Nat := none
  /-- Arrivals of the two copies of this cycle. -/
  tF : Option Int := none
  tV : Option Int := none
  /-- Progress of the full valid cycle (R233): marker with both copies and R_VALID, command frame. -/
  seenMarker : Bool := false
  seenCmd : Bool := false
  /-- The marker of this cycle follows them. -/
  full : Bool := false
  missed : Nat := 0
  /-- Delay d (R219), and R of the last valid marker, ps. -/
  delay : Option Rat := none
  ring : Rat := 0
  /-- The last two period boundaries, and how many are held. -/
  b1 : Rat := 0
  b2 : Rat := 0
  bCount : Nat := 0
  slip : Bool := false
  withheld : Bool := false
  /-- CONFIG taken: SLOT, GEN, UP_OFS, SAMPLE_OFS, AGE_MAX. -/
  slot : Nat := 0
  gen : Nat := 0
  upOfs : Nat := 0
  sampleOfs : Nat := 0
  ageMax : Nat := 4
  /-- Record received for the next period, record in force, command age. -/
  nextRec : Option (List Byte) := none
  rec_ : List Byte := []
  age : Nat := 0
  /-- Fault latched: code; its cause stands; its FAULT record was sent; CAP carries FAULT. -/
  fault : Option Nat := none
  faultCause : Bool := false
  faultSent : Bool := false
  capFault : Bool := false
  /-- What the module does with its record in force (R223): enables, brakes and calibration by axis; high-side on-intervals of the six
  phases in CLK_TIME cycles from the period start (generation 2), duties (generation 1). -/
  en : Nat := 0
  brk : Nat := 3
  cal : Bool := false
  phases : List (Option (Nat × Nat)) := []
  duties : List Nat := []
  /-- Calibration: sums of the six phase currents, samples taken, averages to send. -/
  calSum : List Int := []
  calNum : Nat := 0
  calSend : Bool := false
  /-- Safe position field sequence number (R231). -/
  safeSeq : Nat := 0
deriving DecidableEq, Repr, Inhabited

/-- What a module measures at its sample instant (Table 9-8). -/
structure ModSample where
  vbus : Nat := 0
  cur : List Int := []
  cnt0 : Nat := 0
  spd0 : Int := 0
  cnt1 : Nat := 0
  spd1 : Int := 0
  /-- Positions of the separate safe channel (R231) and bridge temperature (R227). -/
  safe0 : Nat := 0
  safe1 : Nat := 0
  temp : Int := 0
deriving DecidableEq, Repr, Inhabited

end Sys2Proof.Machine
end

