-- ==== Sys2Proof/Machine/Types/Motion.lean ====
section
/-!
DEFINITION. Data of groups, paths, arms, conveyors, Lynx and axes (chapters 05, 06 and 07), and the configuration
the image gives them. Real quantities are exact rationals (R13) in the units of Table 4-6.
-/
namespace Sys2Proof.Machine

/-- States of a group (R106); the number is that of `arm.status` (R129). -/
inductive GState where
  | disabled | homing | standstill | moving | stopping | faulted
deriving DecidableEq, Repr, Inhabited

/-- States of an axis (R158); the number is that of AXn_STATE.STATE (Table 7-10). -/
inductive AState where
  | disabled | enabled | faultHold | faulted
deriving DecidableEq, Repr, Inhabited

/-- Stop ramps of R119; `home` is the group's HOME ramp (R127). -/
inductive Ramp where
  | none | stop | quick
deriving DecidableEq, Repr, Inhabited

/-- A segment entry in a queue (R109, Table 5-3): the 64 bytes as appended, and its CONT partner's bytes (R111). -/
structure Entry where
  raw : List Byte := []
  cont : List Byte := []
deriving DecidableEq, Repr, Inhabited

/-- A point of a profile (R115): value and its first three time derivatives, per second. On a path the value is the path
parameter, whose integer part counts whole segments of the plan. -/
structure Knot where
  s : Rat := 0
  v : Rat := 0
  a : Rat := 0
  j : Rat := 0
deriving DecidableEq, Repr, Inhabited

/-- A planned segment: its entry, the axis positions at its ends, and the deviation of the blend at either end (R114), 0 for none. -/
structure Seg where
  raw : List Byte := []
  cont : List Byte := []
  from_ : List Rat := []
  to_ : List Rat := []
  blendIn : Rat := 0
  blendOut : Rat := 0
deriving DecidableEq, Repr, Inhabited

/-- One piece of a stop ramp (R119): constant jerk for a time. -/
structure RampPiece where
  dur : Rat := 0
  jerk : Rat := 0
deriving DecidableEq, Repr, Inhabited

/-- Homing method of an axis (Table 5-8). -/
inductive HomeMethod where
  | none | switch | index | switchIndex | stopCurrent | stopFerr | absSet | setHere
deriving DecidableEq, Repr, Inhabited

/-- One group's state (R104 to R128). -/
structure Group where
  st : GState := .disabled
  /-- Queue in the order of appending (R107). -/
  queue : List Entry := []
  /-- Entries finished or discarded in this major frame, free from the next (R107). -/
  freeing : Nat := 0
  /-- Entry in progress, none between entries and at standstill. -/
  cur : Option Entry := none
  /-- Path state in force, relative to the first segment of `segs`. -/
  path : Knot := {}
  /-- Plan: segments, profile from `planFrom`, time played of it, time up to which the planner has delivered, and the time at
  which each chain of the plan ends (R112, R115). -/
  segs : List Seg := []
  plan : List RampPiece := []
  planFrom : Knot := {}
  planTime : Rat := 0
  planUntil : Rat := 0
  /-- TCP pose at the start of the segment in progress, in the frame of its entry (columns and origin), and conveyor travel then. -/
  segStart : List Rat := []
  segTravel : Rat := 0
  /-- Stop ramp in force, its pieces and the time played of it (R119). -/
  ramp : Ramp := .none
  rampPieces : List RampPiece := []
  rampTime : Rat := 0
  rampFrom : Knot := {}
  /-- Pending marks of Table 5-1. -/
  pendDisable : Bool := false
  pendFault : Bool := false
  pendSs1 : Bool := false
  /-- Axis and fault code behind a pending fault (ARM_FAULTED), and Table 5-5 row of the stop. -/
  faultAxis : Nat := 0
  faultCode : Nat := 0
  stopRow : Nat := 0
  /-- Start gate open (R117), frames a WAIT has waited, frames a DWELL has run. -/
  gateOpen : Bool := false
  waited : Nat := 0
  dwelled : Nat := 0
  /-- Planning frame at whose boundary an immediate start opens the gate (R105). -/
  startPlan : Option Nat := none
  /-- Held start: frame S, CELL_ID of the issuer, GO committed or local start (R124 to R126). -/
  held : Option (Nat × Nat × Bool) := none
  /-- Override in 0.01 % (R118), time scale in force, target of its ramp and frames left. -/
  override_ : Nat := 10000
  scale : Rat := 1
  scaleTo : Rat := 1
  scaleLeft : Nat := 0
  /-- `seg.flush` acts: STANDSTILL at the end of the entry in progress (Table 5-5, R120). -/
  flushed : Bool := false
  /-- Fall-back being played (R115). -/
  starved : Bool := false
  /-- TAG of the entry in progress, and of the last one finished. -/
  tag : Nat := 0
  /-- GEAR or CAM run: engaged, part of the engagement done, slave and master positions of R122 and R123, slave speeds, phase and
  whole turns of a cam, GEAR_LIMITED raised. -/
  engaged : Bool := false
  engage : Rat := 0
  gearP0 : List Rat := []
  gearV : List Rat := []
  gearM0 : Rat := 0
  gearPrev : Rat := 0
  camTurns : Nat := 0
  gearLimited : Bool := false
  /-- Consecutive frames with a residual above IK_FAULT (R139), and its episode. -/
  ikOver : Nat := 0
  ikRaised : Bool := false
  ikPos : Rat := 0
  /-- Active payload set (R135). -/
  paySet : Nat := 0
  /-- Homing run: axis mask and stage (R127). -/
  homeMask : Nat := 0
  homeStage : Nat := 0
  /-- Conveyor claims: conveyor and product ID (R145). -/
  claims : Tab Nat := []
deriving DecidableEq, Repr, Inhabited

/-- Joint of an arm model (Table 6-1, Table 6-3); angles in 2^-24 rev, lengths in nm. -/
structure Joint where
  /-- 0 revolute, 1 prismatic, 2 carriage. -/
  kind : Nat := 0
  aPrev : Int := 0
  alphaPrev : Int := 0
  d : Int := 0
  theta : Int := 0
  offset : Int := 0
  posMin : Int := 0
  posMax : Int := 0
  vmax : Rat := 0
  amax : Rat := 0
  jmax : Rat := 0
  tmax : Rat := 0
  mass : Rat := 0
  com : List Int := []
  inertia : List Rat := []
  rotor : Rat := 0
  fc : Rat := 0
  fv : Rat := 0
  vband : Rat := 1
deriving DecidableEq, Repr, Inhabited

/-- A capsule (R134): ends and radius in nm, link frame number (13 = TCP). -/
structure Capsule where
  frame : Nat := 0
  p0 : List Int := []
  p1 : List Int := []
  radius : Int := 0
deriving DecidableEq, Repr, Inhabited

/-- A payload set (R135). -/
structure Payload where
  mass : Rat := 0
  com : List Int := []
  inertia : List Rat := []
  tcp : Option Capsule := none
deriving DecidableEq, Repr, Inhabited

/-- Limits of one ramp or plan (R119, R113) in SI units: linear and angular speed, acceleration and jerk, share of the joints'
limits. -/
structure RampCfg where
  vel : Rat := 0
  avel : Rat := 0
  acc : Rat := 0
  jerk : Rat := 0
  aacc : Rat := 0
  ajerk : Rat := 0
  jshare : Rat := 0
deriving DecidableEq, Repr, Inhabited

/-- Lynx thresholds of one arm and one kind of clearance, nm (R151). -/
structure Thresh where
  dStop : Rat := 0
  dFree : Rat := 1
deriving DecidableEq, Repr, Inhabited

/-- A group as the image configures it (chapters 05 and 06). -/
structure GroupCfg where
  /-- Axis contexts in the image's axis order, 1 to 12. -/
  axes : List Nat := []
  /-- START_MODE, default 1 explicit (R105). -/
  startMode : Nat := 1
  /-- SEG_CAP, default 8,192 (R107). -/
  segCap : Nat := 8192
  /-- LOOKAHEAD, default 64 (R112). -/
  lookahead : Nat := 64
  /-- OVR_FRAMES, default 80 (R118). -/
  ovrFrames : Nat := 80
  stop : RampCfg := {}
  quick : RampCfg := {}
  home : RampCfg := {}
  plan : RampCfg := {}
  /-- Arm model. -/
  joints : List Joint := []
  coupling : List (List Rat) := []
  solver : Nat := 0
  taskMask : Nat := 0
  wrot : Rat := 1/10
  w0 : Rat := 1/100
  l0 : Rat := 5/100
  ikTolPos : Rat := 1000
  ikTolRot : Rat := 16
  ikFaultPos : Rat := 100000
  ikFaultRot : Rat := 4096
  ikFaultFrames : Nat := 2
  carrMode : Nat := 0
  ffDyn : Nat := 2
  payloads : List Payload := []
  /-- PAYLOAD_SEL0 and PAYLOAD_SEL1: field output or none (R135). -/
  paySel0 : Option Nat := none
  paySel1 : Option Nat := none
  capsules : List Capsule := []
  basePos : List Int := []
  baseRot : List Rat := []
  gravity : List Rat := [0, 0, -980665/100000]
  /-- Lynx: thresholds for persons, arms, fixtures; floor, rise, priority, hold frames, zones (R151 to R153). -/
  thPerson : Thresh := {}
  thArm : Thresh := {}
  thFixture : Thresh := {}
  armPrio : Nat := 0
  armZones : Nat := 0
  brakeGrow : Rat := 0
  /-- TOOL_POS and TOOL_ROT (R130), WRIST_SING (R137), in-position window of CAM entries (R122). -/
  toolPos : List Int := []
  toolRot : List Rat := []
  wristSing : Nat := 23302
  inPos : Rat := 0
deriving DecidableEq, Repr, Inhabited

/-- A conveyor as the image configures it (Table 6-5). -/
structure ConvCfg where
  /-- 0 local feedback channel, 1 cell-link master. -/
  srcKind : Nat := 0
  srcIdx : Nat := 0
  scaleNum : Int := 1
  scaleDen : Nat := 1
  /-- ORIGIN_POS (nm) and ORIGIN_ROT. -/
  originPos : List Int := []
  originRot : List Rat := []
  vmax : Rat := 0
  amax : Rat := 0
  /-- Latch source 0 to 23, none 0xFF. -/
  sensor : Nat := 0xFF
  sensorPos : Int := 0
  minPitch : Int := 0
  exitPos : Int := 0
  verdictSrc : Nat := 0xFF
  verdictPos : Int := 0
  verdictLevel : Bool := true
  convRec : Bool := false
deriving DecidableEq, Repr, Inhabited

/-- A product on a conveyor (Table 6-6). -/
structure Product where
  id : Nat := 0
  u : Int := 0
  entry : Nat := 0
  flags : Nat := 0
  claim : Option Nat := none
deriving DecidableEq, Repr, Inhabited

/-- A gearing or conveyor master carried on the cell link (R110, R121): position and speed as committed. -/
structure Master where
  pos : Rat := 0
  vel : Rat := 0
  valid : Bool := false
deriving DecidableEq, Repr, Inhabited

/-- A conveyor's state (R141 to R145). -/
structure Conveyor where
  /-- Count at the start of the time base (ZERO). -/
  zero : Int := 0
  count : Int := 0
  /-- Travel c (nm) and speed v (nm/s), and the travel of the previous major frame. -/
  c : Rat := 0
  cPrev : Rat := 0
  v : Rat := 0
  overspeed : Bool := false
  /-- Products, oldest first, and the ID of the next. -/
  queue : List Product := []
  nextId : Nat := 1
deriving DecidableEq, Repr, Inhabited

/-- A trigger binding of the image (R147). -/
structure TrigCfg where
  conv : Nat := 0
  unit : Nat := 0
  kind : Nat := 0
  trigPos : Int := 0
  lead : Nat := 0
  /-- UNIT_MODE: 0 MISS or 1 LATE, as CMPn_CFG.MODE codes it (Table 11-3). -/
  mode : Nat := 0
deriving DecidableEq, Repr, Inhabited

/-- A trigger binding's state (R147): product served and whether its target is frozen. -/
structure Trig where
  serving : Option Nat := none
  frozen : Bool := false
  done : List Nat := []
deriving DecidableEq, Repr, Inhabited

/-- A cam table (R122): 1,024 points and RISE. -/
structure Cam where
  points : List Rat := []
  rise : Rat := 0
deriving DecidableEq, Repr, Inhabited

/-- A person track as Lynx sees it (R149, R150): source, position and velocity in W (nm, nm/s), radius, height. -/
structure Track where
  source : Nat := 0
  /-- Connection that delivered it (R328). -/
  conn : Nat := 0
  x : Int := 0
  y : Int := 0
  vx : Int := 0
  vy : Int := 0
  radius : Int := 0
  height : Int := 0
  frame : Nat := 0
deriving DecidableEq, Repr, Inhabited

/-- A joined member's capsule set as committed (R149, R153). -/
structure MemberArm where
  member : Nat := 0
  arm : Nat := 0
  /-- Capsules in W, and what R150 grows them by with the member's own values, nm. -/
  capsules : List Capsule := []
  grow : Rat := 0
  /-- ARM_PRIO and BRAKE_GROW of the arm. -/
  prio : Nat := 0
  brakeGrow : Rat := 0
  /-- Planning frame in which it was committed. -/
  plan : Nat := 0
deriving DecidableEq, Repr, Inhabited

/-- A biquad's state (R161). -/
structure BqState where
  x1 : Rat := 0
  x2 : Rat := 0
  y1 : Rat := 0
  y2 : Rat := 0
deriving DecidableEq, Repr, Inhabited

/-- A biquad's coefficients (R161). -/
structure Biquad where
  b0 : Rat := 1
  b1 : Rat := 0
  b2 : Rat := 0
  a1 : Rat := 0
  a2 : Rat := 0
deriving DecidableEq, Repr, Inhabited

/-- Kinds of an axis (Table 7-1). -/
inductive AKind where
  | remote | local_ | stepper | virtual
deriving DecidableEq, Repr, Inhabited

/-- An axis context as the image configures it (Table 7-3), with the defaults the table gives. -/
structure AxisCfg where
  kind : AKind := .virtual
  /-- Group and place in it, none for a free axis (R104). -/
  group : Option Nat := none
  stoGroup : Nat := 8
  /-- Remote: drive-link port × 16 + position, and axis 0 or 1 of the module. -/
  module : Nat := 0
  modAxis : Nat := 0
  /-- Local: bridge group. Stepper: channel. -/
  bridge : Nat := 0
  stepper : Nat := 0
  kp : Rat := 0
  kvff : Rat := 1
  ktff : Rat := 1
  vcmdMax : Rat := 0
  kv : Rat := 0
  tiV : Rat := 0
  f1 : Biquad := {}
  f2 : Biquad := {}
  n1 : Biquad := {}
  n2 : Biquad := {}
  affInertia : Rat := 0
  tMax : Rat := 0
  kt : Rat := 1
  elecScale : Rat := 1
  angleOffset : Int := 0
  phases : Nat := 3
  fbMotor : Nat := 0x40
  fbLoad : Nat := 0xFF
  gearRatio : Rat := 1
  /-- UNIT: false linear, true rotary (R157). -/
  rotary : Bool := true
  cntNum : Int := 1
  cntDen : Nat := 1
  lcntNum : Int := 1
  lcntDen : Nat := 1
  predCap : Bool := false
  rS : Rat := 0
  lD : Rat := 0
  lQ : Rat := 0
  psi : Rat := 0
  kpI : Rat := 0
  tiI : Rat := 0
  /-- Weights of the predictive law (R170). -/
  qI : Rat := 1
  qU : Rat := 1
  idRef : Rat := 0
  iMax : Rat := 0
  iTrip : Rat := 0
  modMax : Rat := 95/100
  decouple : Bool := true
  iqInterp : Bool := true
  vbusSrc : Nat := 0
  vbusFix : Rat := 0
  vbusSd : Nat := 0
  sdA : Nat := 0
  sdB : Nat := 0
  sdC : Nat := 0
  feLimit : Rat := 0
  feWarn : Rat := 0
  feTime : Nat := 8
  feReact : Bool := false
  velReact : Bool := false
  velTrip : Rat := 0
  ageLimit : Nat := 3
  dualDev : Rat := 0
  /-- BRAKE: field output, module brake bit (0x40) or none (0xFF) (R178). -/
  brake : Nat := 0xFF
  brakeFrames : Nat := 16
  axVmax : Rat := 0
  axAcc : Rat := 0
  axJerk : Rat := 0
  axQacc : Rat := 0
  axQjerk : Rat := 0
  posMin : Rat := 0
  posMax : Rat := 0
  modulo : Bool := false
  /-- Custom laws the image schedules for the axis (R179). -/
  laws : List Nat := []
  home : HomeMethod := .none
  homeStage : Nat := 0
  homeOffset : Int := 0
  homeValue : Int := 0
  homeTravel : Rat := 0
  homeBackoff : Rat := 0
  homeFelim : Rat := 0
  homeChan : Nat := 0
  homeSource : Nat := 0
  /-- Direction (reverse), search and creep speeds, HOME_ITHR (mA), HOME_FETHR, HOME_DWELL in major frames, HOME_ILIM (mA) of Table 5-8. -/
  homeRev : Bool := false
  homeSearch : Rat := 0
  homeCreep : Rat := 0
  homeIthr : Rat := 0
  homeFethr : Rat := 0
  homeDwell : Nat := 0
  homeIlim : Rat := 0
deriving DecidableEq, Repr, Inhabited

/-- Published values of an axis's laws (R164, R200, R201), and the loop state behind them. -/
structure Loop where
  integ : Rat := 0
  satT : Bool := false
  satDir : Int := 0
  f1 : BqState := {}
  f2 : BqState := {}
  n1 : BqState := {}
  n2 : BqState := {}
  tCmd : Rat := 0
  tFf : Rat := 0
  ev : Rat := 0
  iqRef : Rat := 0
  iqNext : Rat := 0
  iqPrev : Rat := 0
  /-- Reference of the newest minor frame, after R166. -/
  iqUsed : Rat := 0
  xd : Rat := 0
  xq : Rat := 0
  ed : Rat := 0
  eq : Rat := 0
  ud : Rat := 0
  uq : Rat := 0
  id : Rat := 0
  iq : Rat := 0
  /-- Duties of phases a, b, c as published (R167). -/
  duty : List Rat := []
  predU : Rat × Rat := (0, 0)
  predI : Rat × Rat := (0, 0)
deriving DecidableEq, Repr, Inhabited

/-- The newest sample of an axis (R172): position and speed in axis units, currents in mA, bus voltage in mV. -/
structure Sample where
  pos : Rat := 0
  speed : Rat := 0
  load : Rat := 0
  ia : Rat := 0
  ib : Rat := 0
  ic : Rat := 0
  vbus : Rat := 0
  cmdAge : Nat := 0
  valid : Bool := true
  fault : Bool := false
deriving DecidableEq, Repr, Inhabited

/-- One axis context's state (chapter 07). Torques are in N·m or N, currents in A, voltages in V, the loop's speeds in
rad/s or m/s. -/
structure Axis where
  st : AState := .disabled
  curLaw : Nat := 0
  outer : Nat := 0
  fault : Nat := 0
  lawIdx : Nat := 0
  /-- Events of AXn_FLAGS and AXn_SAT collected since the last register update (R185). -/
  flagAcc : Nat := 0
  satAcc : Nat := 0
  calValid : Bool := false
  /-- Current law and law index that run from the next major boundary (R180). -/
  lawPend : Option (Nat × Nat) := none
  /-- Setpoints in force, and those for the next major frame (R160), in position units, per second and per second². -/
  pSet : Rat := 0
  vSet : Rat := 0
  aSet : Rat := 0
  pNext : Rat := 0
  vNext : Rat := 0
  aNext : Rat := 0
  tDyn : Rat := 0
  /-- Commanded setpoint of the outer mode (Table 7-9). -/
  target : Int := 0
  /-- Position and speed of minor frame 0 (R160), following error (R174). -/
  pFb : Rat := 0
  vFb : Rat := 0
  fe : Rat := 0
  sample : Sample := {}
  /-- Its instant in CLK_TIME cycles, and its offset from the minor boundary. -/
  sampleAt : Nat := 0
  sampleOfs : Nat := 0
  /-- A sample was taken in the present minor frame, or found missing in it. -/
  fresh : Bool := false
  counted : Bool := false
  /-- d and q currents measured last, A. -/
  lastDq : Rat × Rat := (0, 0)
  age : Nat := 7
  agePeakStatus : Nat := 0
  agePeakReg : Nat := 0
  age0 : Nat := 0
  degraded : Bool := false
  degPeak : Nat := 0
  degMinors : Nat := 0
  feTimer : Nat := 0
  feWarned : Bool := false
  overI : Nat := 0
  /-- A fault raised in this major frame takes effect for the group at the next boundary (R176). -/
  newFault : Bool := false
  loop : Loop := {}
  homed : Bool := false
  /-- What homing adds to the position read (R127), phase of its method, position at its start, frames at the stop, latched position. -/
  homeOfs : Rat := 0
  homePhase : Nat := 0
  homeFrom : Rat := 0
  homeCount : Nat := 0
  homeLatch : Rat := 0
  homeReady : Bool := false
  /-- Dual-encoder offset d0 (R169). -/
  d0 : Rat := 0
  disablePend : Bool := false
  /-- Axis ramp of a free axis: pieces, time, start. -/
  rampPieces : List RampPiece := []
  rampTime : Rat := 0
  rampFrom : Knot := {}
  ramping : Bool := false
  outputsOn : Bool := false
  brakeOn : Bool := true
  /-- Major frames to brake release, and to torque removal (R159, R178). -/
  brakeWait : Option Nat := none
  torqueWait : Option Nat := none
  /-- Calibration: frames left, sums and number of samples, offsets in mA (R183). -/
  calLeft : Option Nat := none
  calSum : Rat × Rat × Rat := (0, 0, 0)
  calNum : Nat := 0
  calOfs : Rat × Rat × Rat := (0, 0, 0)
  /-- Custom law unloaded for the axis with cause; acts at the next boundary (R181). -/
  fallback : Option (Nat × Nat) := none
  /-- First run of a custom law since its selection (Table 8-7). -/
  first : Bool := false
  /-- SS1 request to both Badgers (R177). -/
  ss1Req : Bool := false
deriving DecidableEq, Repr, Inhabited

end Sys2Proof.Machine
end

