-- ==== Sys2Proof/Machine/Types/Power.lean ====
section
/-!
DEFINITION. Data of the local power stages, feedback channels, latches, compare units, step pairs and stepper
channels that lies in no register (chapters 10, 11 and 12).
-/
namespace Sys2Proof.Machine

/-- What the two pads of a PWM channel do in the present period (R239, R241, R250). Intervals are in steps of 156.25 ps
from the reload. -/
inductive Wave where
  /-- Both switches off. -/
  | off
  /-- High side off, low side on (SAFE_MODE 1). -/
  | lowOn
  /-- On-intervals of the high and of the low side. -/
  | run (high low : List (Nat × Nat))
deriving DecidableEq, Repr, Inhabited

/-- A bridge group beyond its registers (R244 to R252). -/
structure PwmGrp where
  /-- A transfer has been made since RUN was set (R250). -/
  xfer : Bool := false
  /-- The group switches in the present period. -/
  live : Bool := false
  /-- A transfer was made at the last reload (Table 10-2). -/
  moved : Bool := false
  /-- First clamp since the last major boundary: channel, written value. -/
  clamp : Option (Nat × Nat) := none
  /-- STALE and LATE_COMMIT since the last major boundary. -/
  newStale : Bool := false
  newLate : Bool := false
  /-- Trip since the last major boundary: inputs, MODE of the first (R252). -/
  newTrip : Bool := false
  tripIn : Nat := 0
  tripMode : Nat := 0
  /-- Consecutive periods without a low-side on-interval, by channel of the group (R243). -/
  lowMiss : Tab Nat := []
deriving DecidableEq, Repr, Inhabited

/-- An edge of a feedback channel as counted: time (CLK_TIME cycles), direction, count after it (R261). -/
structure FbEdge where
  at_ : Nat := 0
  rev : Bool := false
  count : Int := 0
deriving DecidableEq, Repr, Inhabited

/-- A sample of a feedback channel (R266). -/
structure FbSamp where
  count : Int := 0
  speed : Int := 0
  stat : Word := 0
  idx : Int := 0
  at_ : Nat := 0
deriving DecidableEq, Repr, Inhabited

/-- A feedback channel beyond its registers (R259 to R270). -/
structure FbCh where
  /-- FBn_POS, FBn_IDX, FBn_RAW; FBn_SPOS is the sample's count. -/
  pos : Int := 0
  idx : Int := 0
  raw : Int := 0
  /-- Levels of FB_A, FB_B, FB_Z after synchroniser and filter. -/
  a : Bool := false
  b : Bool := false
  z : Bool := false
  /-- Edges counted, newest first: those of the last 2 µs and the newest three. -/
  hist : List FbEdge := []
  /-- Instant of enabling, or of the last edge. -/
  since : Nat := 0
  /-- Edges in one direction since enabling, STANDSTILL or a reversal: 0, 1, 2, or 3 for more (Table 11-2). -/
  run : Nat := 0
  /-- Edges since the previous sample; count and last edge time at it (R267, R268). -/
  e : Nat := 0
  prevCount : Int := 0
  prevAt : Option Nat := none
  /-- Valid serial frames since enabling, newest first, at most two: instant, count (R270, R276). -/
  frames : List FbEdge := []
  rawPrev : Option Int := none
  /-- The newest serial frame had a status bit of ST_MASK set (R265, cause 3). -/
  stBad : Bool := false
  /-- VALID cleared since the last major boundary (R473). -/
  newInvalid : Bool := false
  /-- The newest sample. -/
  sample : FbSamp := {}
deriving DecidableEq, Repr, Inhabited

/-- A compare unit beyond its registers (R274 to R277). -/
structure Cmp where
  /-- Staged pair: target and ARM. -/
  staged : Option (Int × Bool) := none
  /-- Target as staged, and the count that fires the unit. -/
  target : Int := 0
  fireCount : Int := 0
  armed : Bool := false
  /-- Armed direction is reverse; none until motion decides (DIR 2 at standstill). -/
  rev : Option Bool := none
  /-- Predicted firing instant, and instant after detection of the target count (R276). -/
  plan : Option Nat := none
  detect : Option Nat := none
  /-- Result found since the last major boundary: 0 none, 2 fired, 3 behind, 4 fired late; count at arming. -/
  res : Nat := 0
  cntArm : Int := 0
  /-- Result carried by the block of minor frame 0 of the present major frame: state, FMAJ, FIRE (R266, R277). -/
  carry : Option (Nat × Nat × Nat) := none
deriving DecidableEq, Repr, Inhabited

/-- A step/direction pair beyond its registers (R279, R280). -/
structure StepPair where
  /-- STEPn_POS. -/
  pos : Int := 0
  /-- DIR level means reverse. -/
  rev : Bool := false
  /-- Starts of the pulses of the present period, CLK_TIME cycles from the reload. -/
  pulses : List Nat := []
  /-- Start of the last pulse, from the present reload. -/
  last : Option Int := none
  moved : Bool := false
deriving DecidableEq, Repr, Inhabited

/-- A stepper channel beyond its registers (R284 to R294). -/
structure Stepper where
  /-- m of the newest minor frame, of the last minor frame of the previous major frame, and m_set. -/
  m : Int := 0
  mPrev : Int := 0
  mSet : Int := 0
  /-- p_ref, and m at p_ref (R284, R296; log entry 22). -/
  pRef : Rat := 0
  mRef : Int := 0
  /-- Enabled once since power-on reset (R286). -/
  aligned : Bool := false
  /-- Full-step speed of the setpoints in force. -/
  vfs : Rat := 0
  /-- Consecutive major frames with v_set 0 (R290). -/
  still : Nat := 0
  /-- Minor frames each phase has decayed above 512, and episode raised (R292). -/
  decayA : Nat := 0
  decayB : Nat := 0
  starvedA : Bool := false
  starvedB : Bool := false
  /-- q of the previous minor frame (R294). -/
  q : Int := 0
deriving DecidableEq, Repr, Inhabited

/-- A stepper channel as the image configures it, beyond its registers (Table 12-3). -/
structure StepperCfg where
  axis : Nat := 0
  num : Int := 1
  den : Nat := 1
  amp : Rat := 0
  ampHold : Rat := 0
  holdFrames : Nat := 800
  kff : Rat := 0
  iPeak : Rat := 0
  sdA : Nat := 0xFF
  sdB : Nat := 0xFF
  drvRes : Nat := 16
  drvEn : Option Nat := none
deriving DecidableEq, Repr, Inhabited

end Sys2Proof.Machine
end

