-- ==== Sys2Proof/Machine/Types/Tiles.lean ====
section
/-!
DEFINITION. The state of a loop tile (chapter 08): memories, both register contexts, pipeline, slots.
-/
namespace Sys2Proof.Machine

/-- Destination of a pipelined register write (R193). -/
inductive TDest where
  | d (n : Fin 8)
  | a (n : Fin 2)
  | p (n : Fin 8)
  | m (n : Fin 4)
  /-- SETC destination 0 to 3: B0, B1, L0, L1. -/
  | c (n : Fin 4)
deriving DecidableEq, Repr, Inhabited

/-- A register write in flight (R193): it lands at the end of cycle `due - 1`, in the context that issued it. -/
structure TWrite where
  due : Nat
  event : Bool
  dest : TDest
  val : Acc
deriving DecidableEq, Repr, Inhabited

/-- What happens when the two delay slots have issued (R194). -/
inductive TAfter where
  | jump (target : BitVec 13)
  | slotEnd
deriving DecidableEq, Repr, Inhabited

/-- One register context of a tile (R187, Table 8-2), with the sequencing state R193 and R194 imply. -/
structure TCtx where
  /-- D0 to D7, 24 bits. -/
  d : Tab DWord := []
  /-- A0 and A1, 56 bits. -/
  a : Tab Acc := []
  /-- P0 to P7, 15 bits. -/
  p : Tab (BitVec 15) := []
  /-- M0 to M3, 15 bits signed. -/
  m : Tab (BitVec 15) := []
  /-- LC0 and LC1, 16 bits. -/
  lc0 : BitVec 16 := 0
  lc1 : BitVec 16 := 0
  /-- TSR.Z, TSR.N, TSR.SAT (Table 8-3). -/
  z : Bool := false
  n : Bool := false
  sat : Bool := false
  /-- TSR.L0_ACT and L1_ACT. -/
  l0act : Bool := false
  l1act : Bool := false
  /-- First and last address of the outer and the inner loop body (R194). -/
  l0start : BitVec 13 := 0
  l0end : BitVec 13 := 0
  l1start : BitVec 13 := 0
  l1end : BitVec 13 := 0
  /-- Address of the instruction that issues next. -/
  pc : BitVec 13 := 0
  /-- Delay slots outstanding (0, 1 or 2) and what follows them (R194). -/
  delay : Nat := 0
  after : TAfter := .slotEnd
deriving DecidableEq, Repr, Inhabited

/-- A slot of a tile's lists (R188, R202): which axis it serves, at which stage, by which law. -/
structure TSlot where
  axis : Nat := 0
  /-- false: outer stage; true: current stage (R202). -/
  current : Bool := true
  /-- Custom law index, or none for a Felade slot. -/
  law : Option Nat := none
  /-- Binding of that law, 0 to 3. -/
  binding : Nat := 0
  /-- Entry address of the slot's code. -/
  entry : BitVec 13 := 0
  /-- Worst-case cycles of a Felade slot program (R41). -/
  cycles : Nat := 0
deriving DecidableEq, Repr, Inhabited

/-- The custom-law slot a context is running (R203, R205). -/
structure TRun where
  slot : TSlot := {}
  /-- Cycles issued since the first instruction (R205). -/
  count : Nat := 0
  /-- PUB of grant 0 has issued (R199). -/
  published : Bool := false
  /-- Windows of the binding (R202): data, program, port slot, and the declared count. -/
  dataBase : Nat := 0
  dataLen : Nat := 0
  progBase : Nat := 0
  progLen : Nat := 0
  port : Nat := 0
  declared : Nat := 0
deriving DecidableEq, Repr, Inhabited

/-- What releases an entry of a tile's event table (R188). -/
inductive TTrigger where
  | uplinkEnd (port slot : Nat)
  | localBlock (group : Nat)
  | minorBoundary
deriving DecidableEq, Repr, Inhabited

/-- An entry of a tile's event table: trigger and chain of event slots (R188). -/
structure TEntry where
  trig : TTrigger := .minorBoundary
  chain : List TSlot := []
deriving DecidableEq, Repr, Inhabited

/-- One loop tile (R186 to R188). -/
structure Tile where
  /-- Program memory, 8,192 words of 32 bits (R186). -/
  prog : Tab Word := []
  /-- Data memory, 32,768 words of 24 bits (R186). -/
  data : Tab DWord := []
  main : TCtx := {}
  event : TCtx := {}
  /-- Circular buffers: B0, L0 of the main context and B1, L1 of the event context (R187). -/
  b0 : BitVec 15 := 0
  l0 : BitVec 15 := 0
  b1 : BitVec 15 := 0
  l1 : BitVec 15 := 0
  /-- The event context runs now (TSR.CTX). -/
  inEvent : Bool := false
  /-- Tile cycle counter. -/
  cyc : Nat := 0
  /-- Register writes in flight, in the order they land (R193). -/
  pipe : List TWrite := []
  /-- Slot run by the main and by the event context. -/
  mainRun : Option TRun := none
  eventRun : Option TRun := none
  /-- Slots still to run: of the main list and of the present event chain. -/
  mainNext : List TSlot := []
  chainNext : List TSlot := []
  /-- Event table entries whose trigger occurred while the event context ran (R188). -/
  heldTrig : List Nat := []
  /-- Main slot lists by minor index (R188). -/
  mainList : Tab (List TSlot) := []
  /-- Event table: 16 entries of trigger and chain (R188). -/
  events : Tab (Option TEntry) := []
  /-- Cycles used since the minor boundary (TILEn_USE). -/
  used : Nat := 0
deriving DecidableEq, Repr, Inhabited

/-- One binding of a custom law (R202). -/
structure LawBinding where
  axis : Nat := 0
  dataBase : Nat := 0
  dataLen : Nat := 0
  port : Nat := 0
  init : List DWord := []
deriving DecidableEq, Repr, Inhabited

/-- A custom law of the image (R202). -/
structure CustomLaw where
  tile : Nat := 0
  event : Bool := true
  current : Bool := true
  progBase : Nat := 0
  code : List Word := []
  declared : Nat := 1
  bindings : List LawBinding := []
deriving DecidableEq, Repr, Inhabited

/-- Pointer mode of a memory operand (Table 8-5): none, +1, −1, +Mm. -/
inductive PMode where
  | none
  | inc
  | dec
  | mod
deriving DecidableEq, Repr, Inhabited

/-- Memory operand of class M (Table 8-5). -/
structure MemOp where
  p : Fin 8 := 0
  mode : PMode := .none
  m : Fin 4 := 0
deriving DecidableEq, Repr, Inhabited

/-- Memory operands of class MM (Table 8-5): Pp, Pq with a shared Mm. -/
structure MemOp2 where
  p : Fin 8 := 0
  pmode : PMode := .none
  q : Fin 8 := 1
  qmode : PMode := .none
  m : Fin 4 := 0
deriving DecidableEq, Repr, Inhabited

end Sys2Proof.Machine
end

