-- ==== Sys2Proof/Machine/Types/Host.lean ====
section
/-!
DEFINITION. Data of frames and commit, host sessions, configuration images and the recorder (chapters 02, 03, 04, 18).
-/
namespace Sys2Proof.Machine

/-- Device states (HOST_STATUS.DEV_STATE, R72); OFF and DEEP have no code there (R429). -/
inductive DevState where
  | off | boot | selftest | safeTalk | configWait | ready | run | fault | armsIdle | standby | deep
deriving DecidableEq, Repr, Inhabited

/-- A frame input with its stamp (R46, R47, Table 2-5); class order of Table 2-8. -/
inductive FInput where
  /-- Badger stop demands of channel 0 (A) or 1 (B): its latched safe inputs, masks of groups
  with SS1 and with STO (R19, R301). -/
  | demand (ch : Nat) (latched ss1 sto : Nat)
  /-- Cell-link peer record (R371): sender, order on the link, major frame it was sent in, bytes. -/
  | peer (cell : Nat) (order : Nat) (sent : Nat) (bytes : List Byte)
  /-- Latch event (R272): source, captured position, CLK_TIME instant, level. -/
  | latch (src : Nat) (pos : Int) (instant : Nat) (level : Bool)
  /-- Field input snapshot (R397). -/
  | snapshot (states validity : Word)
  /-- CAN frame (R392). -/
  | can (ctl : Nat) (order : Nat) (e : CanElem)
  /-- Safe frame or person track (R319): port 2 (P3) or 3 (P4), connection, sequence, the PDU, and the frame as
  received. -/
  | safe (port conn seq : Nat) (bytes raw : List Byte)
deriving DecidableEq, Repr, Inhabited

/-- A frame input waiting for its cutoff. -/
structure Stamped where
  stamp : Nat := 0
  /-- Major frame in which it was stamped. -/
  frame : Nat := 0
  input : FInput := .snapshot 0 0
  /-- Taken from a replayed log (R56). -/
  replay : Bool := false
deriving DecidableEq, Repr, Inhabited

/-- Commands held in the pending store as one unit (R82, R83): their frame F and the requests. -/
structure Held where
  frame : Nat := 0
  reqs : List Request := []
deriving DecidableEq, Repr, Inhabited

/-- A command as it enters a sealed batch (R50): session, sequence, command code, payload, LATE flag, and the LATE or
OK status its answer carried. -/
structure Admitted where
  req : Request := {}
  status : Nat := 0
deriving DecidableEq, Repr, Inhabited

/-- A sealed batch (R50, R51). -/
structure Batch where
  frame : Nat := 0
  inputs : List Stamped := []
  reqs : List Admitted := []
deriving DecidableEq, Repr, Inhabited

/-- Escapement (R30 to R39), beyond ESC_*. -/
structure Esc where
  /-- Major frame number, 48 bits (R33). -/
  maj : Nat := 0
  /-- CLK_TIME cycle of the present minor boundary, and of the present major boundary. -/
  t0 : Nat := 0
  majAt : Nat := 0
  /-- Length in CLK_TIME cycles of the minor frame that ended last, 0 before the first (R37). -/
  prevLen : Nat := 0
  /-- The present minor boundary is the major boundary just made. -/
  fresh : Bool := false
  /-- SYNC_IN is valid (Table 2-2), an edge was usable in this major frame, major frames in a row without one. -/
  syncValid : Bool := false
  syncSeen : Bool := false
  syncMiss : Nat := 0
  /-- Minor frame number plus 1 of the expected edge last judged, and edges lost since SYNC_LOST (R38). -/
  syncJudged : Nat := 0
  syncLost : Nat := 0
  /-- Major frames for which sources 0 (cell link), 1 (SYNC_IN), 2 (network time) are still barred (R36). -/
  bar : Tab Nat := []
  /-- Time bases since power-on (R35). -/
  tbCount : Nat := 0
  /-- LOCK set, time base starts at the next boundary (R60). -/
  starting : Bool := false
  /-- Staged RWL fields while REBIND is open: address, bits written, values (R60). -/
  staged : List (Nat × Word × Word) := []
  /-- Fatal handling or a lost clock keeps the markers and TICKs away (R424, R431). -/
  linksCut : Bool := false
deriving DecidableEq, Repr, Inhabited

/-- Remontoire (R46 to R56). -/
structure Rmt where
  /-- Frame inputs other than requests waiting for a cutoff. -/
  inputs : List Stamped := []
  /-- Stamped requests and complete chains waiting for their cutoff, in the order of arrival (R82). -/
  reqs : List (List Request) := []
  /-- Lost actions to place in the next batch: session, arm (R79). -/
  lost : List (Nat × Nat) := []
  /-- Host nonces accepted, newest first, with their keys (R74). -/
  nonces : List (List Byte × List Byte) := []
  /-- Failed datagrams of the present major frame by port: answered, dropped, session of the first dropped (R75). -/
  fails : Tab (Nat × Nat × Nat) := []
  /-- The batch sealed for the next major frame. -/
  sealed : Option Batch := none
  /-- The batch released at the present major boundary. -/
  now : Batch := {}
  /-- Pending store, 512 commands (R83). -/
  pending : List Held := []
  /-- Held commands already taken and validated for the next batch (R83). -/
  taken : List Admitted := []
  /-- Commit log retention ring, newest first, and the free-running byte position behind the newest (R55, R417). -/
  ring : List LogEntry := []
  ringPos : Nat := 0
  /-- Datagram sequence number, and GAP_BEFORE owed (R53, R54). -/
  dgram : Nat := 0
  gapBefore : Bool := false
  /-- First and last frame of a gap not yet reported, entries lost. -/
  gap : Option (Nat × Nat × Nat) := none
  /-- Minor-frame samples of the present major frame, to be logged (R52). -/
  samples : List LogEntry := []
  /-- Segment credits left in the planning frame (R81). -/
  credits : Nat := 256
  /-- Last snapshot committed (R397). -/
  snap : Word := 0
  snapValid : Word := 0
deriving DecidableEq, Repr, Inhabited

/-- One host session (R61 to R83). -/
structure Ses where
  /-- Highest sequence accepted (R69). -/
  seq : Nat := 0
  policy : Nat := 1
  keyId : Nat := 0
  hostNonce : List Byte := []
  devNonce : List Byte := []
  /-- Requests taken and not yet answered, oldest first, with the answer where it waits for an older one (R62, R70). -/
  order : List (Nat × Option (List Byte)) := []
  nextTok : Nat := 0
  /-- Times the session has been opened. -/
  hellos : Nat := 0
  /-- Last 64 answered requests: SEQ, CRC and response (R69), newest first. -/
  cache : List (Nat × Nat × List Byte) := []
  /-- Ring bases copied at session.hello (R70). -/
  reqBase : Nat := 0
  rspBase : Nat := 0
  /-- Last major frame with a committed request (R78). -/
  lastCommit : Nat := 0
  /-- Members of incomplete chains, by SEQ (R82). -/
  wait : List Request := []
  /-- SPI responses waiting, oldest first, and the discard bit (R76). -/
  spiRsp : List (List Byte) := []
  spiDiscard : Bool := false
deriving DecidableEq, Repr, Inhabited

/-- What the image's sessions section says of one session number (R61, R77 to R80). -/
structure SesCfg where
  /-- 0 PCIe, 1 Ethernet, 2 SPI, 3 none. -/
  transport : Nat := 3
  weight : Nat := 0
  /-- Liveness timeout in ms, 0 off. -/
  live : Nat := 0
  /-- Lost action: arms to stop (R79). -/
  lost : Nat := 0
  /-- Identifiers and bytes of the pre-shared keys. -/
  keys : List (Nat × List Byte) := []
deriving DecidableEq, Repr, Inhabited

/-- A CAN transmit object (R391). -/
structure TxObj where
  buffer : Nat := 0
  frame : CanFrame := {}
  dlcMax : Nat := 8
  /-- PERIOD in major frames, 0 on request, and PHASE. -/
  period : Nat := 0
  phase : Nat := 0
deriving DecidableEq, Repr, Inhabited

/-- An image as the loader decodes it (R91 to R92): header fields, register settings by section type, and the
configuration that lies in no register. The spec does not give the byte formats of the sections; the decoding is an
open function of Config (log entry 8). -/
structure Image where
  serial : Nat := 0
  lineDev : Nat := 0
  autostart : Bool := false
  replay : Bool := false
  keySlot : Nat := 0
  /-- SHA-256 of every byte before the signature (R91). -/
  hash : List Byte := []
  /-- Register values the image sets: section type, address, value. -/
  regs : List (Nat × Nat × Word) := []
  sessions : Tab SesCfg := []
  axes : Tab (Option AxisCfg) := []
  groups : Tab (Option GroupCfg) := []
  convs : Tab (Option ConvCfg) := []
  cams : Tab (Option Cam) := []
  trigs : List TrigCfg := []
  laws : Tab (Option CustomLaw) := []
  mods : Tab ModCfg := []
  steppers : Tab (Option StepperCfg) := []
  /-- Full scale of each sigma-delta input, mA or mV (R255). -/
  sdFull : Tab Rat := []
  /-- Felade slots of each tile by minor index, and its event table. -/
  mainLists : Tab (Tab (List TSlot)) := []
  events : Tab (Tab (Option TEntry)) := []
  /-- Programs placed: engine, frame kind, worst-case cycles; for a slot of a custom law its index and the number of slots, which
  count at the declared count (R40, R41). -/
  sched : List (Nat × Nat × Nat × Option Nat) := []
  /-- Custom laws whose declared count does not fit the slot deadlines of the schedule (rule 7 of R204). -/
  lateLaws : List Nat := []
  /-- Lynx: fixtures, sources with zones, margins (R149 to R154). -/
  fixtures : List Capsule := []
  sources : List (Nat × Nat) := []
  lynxFloor : Nat := 0
  lynxRise : Nat := 1000
  trackTtl : Nat := 4
  holdFrames : Nat := 1000
  personMargin : Rat := 100000000
  /-- Key directives: slot, digest to provision or none to revoke (R95). -/
  keyDirs : List (Nat × Option (List Byte)) := []
  /-- Field outputs named BRAKE or DRV_EN, by axis (R178). -/
  drvEn : List Nat := []
  /-- Masters sent over the cell link: index and conveyor, index and axis (R121, R141). -/
  sendConv : List (Nat × Nat) := []
  sendGear : List (Nat × Nat) := []
  /-- Network: PTP role ports, session ports, safe connection indices, cell members' frames hash. -/
  ptpPorts : Nat := 0
  sesPorts : Nat := 0
  sesUdp : Nat := 49608
  framesHash : Nat := 0
  /-- CAN transmit and receive objects per controller (R391, R392). -/
  txObjs : Tab (List TxObj) := []
  boDelay : Tab Nat := []
  /-- Transmit objects with SEND_AT_START, and stepper settings by channel. -/
  owlSel : List Nat := []
  owlRate : Nat := 0
  tracePort : Bool := false
  permitFrames : Nat := 8000
  holdTmo : Nat := 1000
  orgId : Nat := 0
  formTmo : Nat := 2000
  /-- PTP runs as master on these ports (R350). -/
  ptpMaster : Nat := 0
  anchor : Nat := 8192
  /-- POST_LEVEL and POST_LEVEL_DEEP (R438, R448): 0 standard, 1 full. -/
  postLevel : Nat := 0
  postDeep : Nat := 0
  /-- Mask of the CAN controllers that the image configures (R390). -/
  canOn : Nat := 0
  /-- First finding of each of the load-time checks 7, 8 that needs the sections' own contents: section type, detail. -/
  step7 : Option (Nat × Nat) := none
  step8 : Option (Nat × Nat) := none
deriving DecidableEq, Repr, Inhabited

/-- Configuration images (R91 to R102). -/
structure Img where
  /-- Running image. -/
  run : Option Image := none
  runBytes : List Byte := []
  /-- Staging buffer in DRAM: owner session, TOTAL_LEN, bytes received (R97). -/
  owner : Option Nat := none
  total : Nat := 0
  bytes : List Byte := []
  /-- A VALIDATE in progress; the staged image has passed it. -/
  validating : Bool := false
  validated : Bool := false
  /-- Two flash slots (R97), and a STORE in progress: slot. -/
  flash0 : List Byte := []
  flash1 : List Byte := []
  storing : Option Nat := none
  /-- The image that STORE writes. -/
  storeBytes : List Byte := []
  /-- Digests of the fuse key slots (R93). -/
  keys : Tab (List Byte) := []
deriving DecidableEq, Repr, Inhabited

/-- The event recorder, Owl and the dump (chapter 18). -/
structure Rec where
  /-- Records raised for the present major frame and for the next one, oldest first (R410). -/
  now : List Record := []
  next : List Record := []
  /-- DRAM ring and retention ring: index and record, newest first (R414). -/
  dram : List (Nat × Record) := []
  ret : List (Nat × Record) := []
  /-- Index the next record receives. -/
  idx : Nat := 0
  /-- ORDER outside a time base (R410). -/
  outOrder : Nat := 0
  /-- Records lost in the previous frame: reproduced, CAN range, network range (R411). -/
  lost : Nat × Nat × Nat := (0, 0, 0)
  lostFrame : Nat := 0
  /-- The dump held (R425, R426), and the index of its FATAL_STOP. -/
  dump : List Byte := []
  dumpHeld : Bool := false
  dumpRecord : Nat := 0
  /-- Fatal handling in progress: cause, detail, instant of detection (R424); the dump is being written. -/
  fatal : Option (Nat × Nat × Nat) := none
  /-- Major frame at detection of the newest fatal cause (Table 18-10). -/
  fatalFrame : Nat := 0
  dumping : Bool := false
  /-- Owl: trace ring frames newest first, counter slots, latched high word (R418 to R422). -/
  trace : List (List Byte) := []
  counters : Tab (BitVec 64) := []
  counterHi : Word := 0
  /-- The trace port drops until this CLK_TIME cycle; a frame was dropped before the next sent; frame of the newest trace
  frame (R421, Table 18-7). -/
  portBusy : Nat := 0
  traceGap : Bool := false
  traceFrame : Nat := 0
  /-- Order of the next record of the present frame in each range (R410), for records written ahead of the boundary. -/
  written : Nat := 0
deriving DecidableEq, Repr, Inhabited

/-- Lynx's results for one arm in one planning frame (R151, R155): scaling in exact form, its cause, smallest clearance (nm) over
all kinds, and the other arm of the smallest arm clearance. -/
structure LynxRes where
  scale : Rat := 1
  cause : Nat := 0
  clr : Option Rat := none
  other : Nat := 0xFF
deriving DecidableEq, Repr, Inhabited

/-- Lynx (R149 to R155). -/
structure Lynx where
  /-- Scaling per arm as it acts, 0.01 %, and in exact form (R151). -/
  scale : Tab Nat := []
  exact : Tab Rat := []
  /-- Results of the present planning frame, which act from the next one (R17). -/
  next : Option (List (Nat × LynxRes)) := none
  /-- Planning frames each arm has been held at 0 (R152), LYNX_HOLD raised in this episode, other arm. -/
  held : Tab Nat := []
  holdRaised : Tab Bool := []
  other : Tab Nat := []
  /-- Tracks by source as committed, and planning frames since each source delivered (R153). -/
  tracks : List Track := []
  silent : Tab Nat := []
  stale : Tab Bool := []
  /-- Capsule sets of joined members, and members whose sets are held. -/
  members : List MemberArm := []
  staleArms : Tab Bool := []
  /-- Tracks present in the present planning frame. -/
  present : Nat := 0
deriving DecidableEq, Repr, Inhabited

/-- A joined start that this device issues (R125): frame E of its commit, S, local groups held, members asked, replies. -/
structure Issue where
  from_ : Nat := 0
  s : Nat := 0
  groups : List Nat := []
  members : List Nat := []
  ready : List Nat := []
  refused : List Nat := []
deriving DecidableEq, Repr, Inhabited

end Sys2Proof.Machine
end

