-- ==== Sys2Proof/Machine/Types/Io.lean ====
section
/-!
DEFINITION. Local power stages, feedback, latches, compare units, step pairs, steppers, CAN controllers and field I/O as one part of the state.
-/
namespace Sys2Proof.Machine

/-- A staged register of a PWM group (R244): PER, DT, and the rise and fall registers of its six channels. -/
inductive StagedReg where
  | per
  | dt
  | rise (c : Fin 6)
  | fall (c : Fin 6)
deriving DecidableEq, Repr, Inhabited

structure Io where
  pwm : Tab PwmGrp := []
  /-- Pads of the 48 PWM channels. -/
  wave : Tab Wave := []
  fb : Tab FbCh := []
  cmp : Tab Cmp := []
  /-- LATn_POS, the captured positions (R272). -/
  latPos : Tab Int := []
  /-- End of the running pulse of each compare pin (R277). -/
  pinUntil : Tab Nat := []
  step : Tab StepPair := []
  stp : Tab Stepper := []
  can : Tab CanCtl := []
  field : Field := {}
deriving DecidableEq, Repr, Inhabited

/-- Supply of the motion die: off, on, or DEEP (R429, Table 19-3). -/
inductive Rail where
  | off | on | deep
deriving DecidableEq, Repr, Inhabited

/-- A `power.state` request: target, mask of clusters and Lynx, AON timer (Table 19-11). -/
structure PReq where
  target : Nat := 0
  mask : Nat := 0
  timer : Nat := 0
deriving DecidableEq, Repr, Inhabited

/-- Power, start-up and self-test beyond the registers of R452 (chapter 19). -/
structure Pwr where
  rail : Rail := .on
  /-- RESET_CAUSE of the last reset (Table 18-3), and TEST_MODE as sampled (R466). -/
  cause : Nat := 1
  testMode : Bool := false
  /-- RESET_N is held low. -/
  held : Bool := false
  /-- Gated clusters (bits 0 to 3) and Lynx (bit 4); instant of the ungate request (R445). -/
  gated : Nat := 0
  ungate : Option Nat := none
  /-- FAULT causes: power (R433) and temperature (R435). -/
  byPower : Bool := false
  byHeat : Bool := false
  /-- Core-voltage change: value being written, steps confirmed, the last confirmed value is being rewritten (R432, R433). -/
  vstep : Option Nat := none
  vsteps : Nat := 0
  rewriting : Bool := false
  /-- `power.state` that waits for the change (R434). -/
  waiting : Option PReq := none
  /-- Full `cell.selftest`: state it was started from (5 READY, 4 CONFIG-WAIT) and instant of its start (R442). -/
  selftest : Option Nat := none
  stAt : Nat := 0
  /-- Results of the last full self-test, its failed test and detail (Table 19-11). -/
  stResult : Nat := 0
  stTest : Nat := 0
  stDetail : Nat := 0
  /-- Return to READY at the next major boundary (R442). -/
  stBack : Bool := false
  /-- Online counters: spot-checks, scrub passes, corrected errors, readback mismatches (R442). -/
  spots : Nat := 0
  scrubs : Nat := 0
  corrected : Nat := 0
  readback : Nat := 0
  /-- Warm restart of Felade in progress: instant of its start (R444). -/
  restart : Option Nat := none
  /-- Felade running: slot, build number, build hash, security version; the fused minimum (R437). -/
  slot : Nat := 0
  build : Nat := 0
  hash : List Byte := []
  secVer : Nat := 0
  minSec : Nat := 0
  /-- Junction temperatures by sensor, 0.1 °C (R435). -/
  temps : Tab Int := []
  /-- Retained: sessions of the last accepted image with their keys, and its hash (Table 19-10). -/
  keys : Tab SesCfg := []
  imgHash : List Byte := []
  /-- Clocks lost, by row of Table 19-2. -/
  clocks : Nat := 0
deriving DecidableEq, Repr, Inhabited

end Sys2Proof.Machine
end

