-- ==== Sys2Proof/Machine/Types/Net.lean ====
section
/-!
DEFINITION. Data of network time, the Ethernet ports and the cell link that lies in no register (chapter 15).
-/
namespace Sys2Proof.Machine

/-- A frame at the head of a transmit queue: launch time in ns of network time, identifier of a requested stamp (R361,
R362). -/
structure TxFrame where
  bytes : List Byte := []
  launch : Option Nat := none
  stampId : Option Nat := none
deriving DecidableEq, Repr, Inhabited

/-- An Ethernet port (R346, R347, R361, R362). -/
structure EthPort where
  /-- Receive ring, 256 frames: bytes and receive stamp in ns. -/
  rx : List (List Byte × Rat) := []
  /-- Safe copies waiting in their own ring of 64. -/
  safe : Nat := 0
  /-- Transmit stamps waiting, oldest first: identifier, stamp in ns. -/
  txts : List (Nat × Rat) := []
  /-- Frame at the head of each queue. -/
  heads : Tab (Option TxFrame) := []
  /-- Gates open, and network time before which the list does not act again after a step (R357). -/
  gates : Nat := 255
  gclFrom : Rat := 0
deriving DecidableEq, Repr, Inhabited

/-- What a device knows of a device of the cell from its STATUS frames (R365, R367, R369). -/
structure Member where
  got : Bool := false
  consec : Nat := 0
  missing : Nat := 0
  eF : Int := 0
  eV : Int := 0
  fwd : Nat := 0
  line : Nat := 0
deriving DecidableEq, Repr, Inhabited

/-- A PEER record to send in the next window: class, index, data (Table 15-3). -/
structure PeerOut where
  cls : Nat := 0
  index : Nat := 0
  data : List Byte := []
deriving DecidableEq, Repr, Inhabited

/-- The cell link beyond its registers (R364 to R371). Instants are CLK_TIME cycles. -/
structure Cl where
  members : Tab Member := []
  /-- Own TBASE. -/
  tbase : Nat := 0
  /-- Start of listening: the image took effect. -/
  since : Nat := 0
  /-- A valid TICK of the followed master was accepted at the present boundary; consecutive boundaries without. -/
  tickSeen : Bool := false
  missRun : Nat := 0
  /-- Arrivals of the two copies of the newest TICK. -/
  tF : Option Nat := none
  tV : Option Nat := none
  /-- Delay from the master in the two directions, cycles (R368). -/
  eF : Rat := 0
  eV : Rat := 0
  /-- Boundary as measured (R368). -/
  measured : Option Rat := none
  /-- LISTEN: present mask of the first TICK of a cycle, and sources of STATUS frames since, matching or not. -/
  fullMask : Option Nat := none
  statuses : Nat := 0
  wrong : Bool := false
  /-- Causes of CELL_MISMATCH raised. -/
  mismatch : Nat := 0
  /-- Major number of the next boundary by the master's TICK (R34). -/
  joinMaj : Option Nat := none
  /-- A valid frame arrived in the present major frame; major frames without one. -/
  anyFrame : Bool := false
  silent : Nat := 0
  /-- Copies of the own TICK that returned valid, and the delay of the first. -/
  retF : Bool := false
  retV : Bool := false
  /-- Records to send. -/
  peerTx : List PeerOut := []
deriving DecidableEq, Repr, Inhabited

/-- Network time, ports, cell link (chapter 15). -/
structure Net where
  /-- The clock read `base` ns at CLK_TIME cycle `ref`; it runs at TIME_RATE from there (R348). -/
  base : Rat := 0
  ref : Nat := 0
  /-- Offsets, in 2^-16 ns: last four in a row, last four in a row above JUMP_THR. -/
  window : List Int := []
  excess : List Int := []
  /-- Consecutive measurements within LOCK_THR, number of measurements, instant of the last. -/
  good : Nat := 0
  count : Nat := 0
  lastMeas : Nat := 0
  /-- Rates of the last 64 measurements, newest first (R353). -/
  rates : List Int := []
  /-- Last measured offset in ns, parent's grandmaster (R372). -/
  offset : Int := 0
  gm : Nat := 0
  /-- Permit: largest step in ns (0 any), major frame from which it is in force (R355). -/
  limit : Nat := 0
  permitFrom : Nat := 0
  /-- A step or refusal since the last anchor; an anchor is owed at the next boundary (R358). -/
  stepped : Bool := false
  refused : Bool := false
  anchorDue : Bool := false
  eth : Tab EthPort := []
  cl : Cl := {}
deriving DecidableEq, Repr, Inhabited

end Sys2Proof.Machine
end

