-- ==== Sys2Proof/Syntax.lean ====
section
/-!
DEFINITION. The commands of the block: one constructor for each row of the opcode table, with the row's operands. `at_` is an
instant in CLK_TIME cycles; `ses` a session; bytes are lists, lowest address first.
-/
namespace Sys2Proof

/-- Every command that the block takes. -/
inductive Instr where
  /-- MAJOR_FRAME_BOUNDARY (R33). -/
  | majorFrameBoundary (at_ : Nat)
  /-- MINOR_FRAME_BOUNDARY (R31). -/
  | minorFrameBoundary (at_ : Nat)
  /-- PLANNING_FRAME_BOUNDARY (R112). -/
  | planningFrameBoundary
  /-- CUTOFF (R50). -/
  | cutoff (at_ : Nat) (room : Nat) (fieldOk : Bool)
  /-- TIMEBASE_START (R33). -/
  | timebaseStart (at_ : Nat)
  /-- ESC_CFG_LOCK (R60). -/
  | escCfgLock
  /-- REBIND (R60). -/
  | rebind
  /-- SYNC_IN_EDGE (R38). -/
  | syncInEdge (at_ : Nat)
  /-- SYNC_LOST (R38). -/
  | syncLost (at_ : Nat)
  /-- SYNC_IN_INVALID (R38). -/
  | syncInInvalid
  /-- SOURCE_CHANGE (R36). -/
  | sourceChange
  /-- FRAME_OVERRUN (R43). -/
  | frameOverrun (engine : Fin 19) (kind : Fin 4) (at_ : Nat)
  /-- REPLAY_LOG_ENTRY (R56). -/
  | replayLogEntry (entry : Machine.LogEntry) (at_ : Nat)
  /-- LO_REGISTER_READ (R282). -/
  | loRegisterRead (bus : Machine.Bus) (a : Nat) (size : Nat) (at_ : Nat)
  /-- READ_CLEAR (R8). -/
  | readClear (bus : Machine.Bus) (a : Nat) (size : Nat) (ev : Word) (at_ : Nat)
  /-- REGISTER_WRITE (R9). -/
  | registerWrite (bus : Machine.Bus) (a : Nat) (size : Nat) (v : BitVec 64) (at_ : Nat)
  /-- PCIE_DOORBELL (R71). -/
  | pcieDoorbell (ses : Fin 32) (tail : BitVec 16) (slots : List (List Byte)) (at_ : Nat)
  /-- RSP_HEAD_WRITE (R71). -/
  | rspHeadWrite (ses : Fin 32) (head : BitVec 16) (slots : List (List Byte)) (at_ : Nat)
  /-- ETHERNET_REQUEST (R73). -/
  | ethernetRequest (port : Fin 4) (addr : Nat) (bytes : List Byte) (at_ : Nat)
  /-- SPI_WRITE_REQUEST (R76). -/
  | spiWriteRequest (bytes : List Byte) (at_ : Nat)
  /-- SPI_READ_RESPONSE (R76). -/
  | spiReadResponse (ses : Fin 32) (clocked : Nat)
  /-- SPI_READ_STATUS (R76). -/
  | spiReadStatus
  /-- SESSION_HELLO (R77). -/
  | sessionHello (ses : Fin 32) (lo : BitVec 16) (hi : BitVec 16) (policy : BitVec 8) (key : BitVec 8) (nonce : BitVec 64) (seq : Word)
  /-- SESSION_CLOSE (R78). -/
  | sessionClose (ses : Fin 32)
  /-- SESSION_PING (R78). -/
  | sessionPing (ses : Fin 32)
  /-- LIVENESS_TIMEOUT (R78). -/
  | livenessTimeout (ses : Fin 32)
  /-- CHAIN_TIMEOUT (R82). -/
  | chainTimeout (ses : Fin 32)
  /-- HELD_COMMAND_TAKEN (R83). -/
  | heldCommandTaken (ses : Fin 32) (seq : Word) (at_ : Nat)
  /-- CELL_STATUS (R451). -/
  | cellStatus (ses : Fin 32)
  /-- LOAD_IMAGE_DATA (R97). -/
  | loadImageData (ses : Fin 32) (ofs : Word) (total : Word) (data : List Byte)
  /-- LOAD_IMAGE_VALIDATE (R97). -/
  | loadImageValidate (ses : Fin 32) (total : Word)
  /-- VALIDATE_RESULT (R96). -/
  | validateResult
  /-- LOAD_IMAGE_ACTIVATE (R98). -/
  | loadImageActivate (ses : Fin 32) (total : Word)
  /-- LOAD_IMAGE_STORE (R97). -/
  | loadImageStore (ses : Fin 32) (total : Word)
  /-- IMAGE_STORED (R97). -/
  | imageStored
  /-- LOAD_IMAGE_ABORT (R97). -/
  | loadImageAbort (ses : Fin 32) (total : Word)
  /-- LOAD_IMAGE_ACTIVATE_FLASH (R97). -/
  | loadImageActivateFlash (ses : Fin 32)
  /-- AUTOSTART (R96). -/
  | autostart (at_ : Nat)
  /-- CELL_START_TOGETHER (R124). -/
  | cellStartTogether (ses : Fin 32) (start : BitVec 48) (names : List (Byte × Byte))
  /-- START_REQ (R125). -/
  | startReq (issuer : Fin 8) (start : BitVec 48) (groups : List (Fin 12))
  /-- START_READY (R125). -/
  | startReady (member : Fin 8) (start : BitVec 48)
  /-- START_REFUSE (R125). -/
  | startRefuse (member : Fin 8) (start : BitVec 48)
  /-- START_DECISION (R125). -/
  | startDecision
  /-- START_GO (R125). -/
  | startGo (issuer : Fin 8) (start : BitVec 48)
  /-- START_ABORT (R125). -/
  | startAbort (issuer : Fin 8) (start : BitVec 48)
  /-- START_DONE (R126). -/
  | startDone (g : Fin 12)
  /-- ARM_ENABLE (R106). -/
  | armEnable (ses : Fin 32) (g : BitVec 8)
  /-- ARM_DISABLE (R106). -/
  | armDisable (ses : Fin 32) (g : BitVec 8)
  /-- ARM_STOP (R119). -/
  | armStop (ses : Fin 32) (g : BitVec 8)
  /-- ARM_HOME (R127). -/
  | armHome (ses : Fin 32) (g : BitVec 8) (mask : BitVec 16)
  /-- ARM_OVERRIDE (R118). -/
  | armOverride (ses : Fin 32) (g : BitVec 8) (override : BitVec 16)
  /-- ARM_STATUS (R129). -/
  | armStatus (ses : Fin 32) (g : BitVec 8)
  /-- SEG_APPEND (R108). -/
  | segAppend (ses : Fin 32) (g : BitVec 8) (count : BitVec 8) (entries : List Byte)
  /-- SEG_FLUSH (R119). -/
  | segFlush (ses : Fin 32) (g : BitVec 8)
  /-- SEG_STATUS (R129). -/
  | segStatus (ses : Fin 32) (g : BitVec 8)
  /-- STANDSTILL_REACHED (R119). -/
  | standstillReached (axis : Bool) (n : Fin 96)
  /-- PATH_END (R106). -/
  | pathEnd (g : Fin 12)
  /-- SEG_DONE (R108). -/
  | segDone (g : Fin 12)
  /-- DWELL_END (R110). -/
  | dwellEnd (g : Fin 12)
  /-- WAIT_TIMEOUT (R117). -/
  | waitTimeout (g : Fin 12)
  /-- GEAR_ENGAGEMENT_END (R123). -/
  | gearEngagementEnd (g : Fin 12)
  /-- HOMING_DONE (R127). -/
  | homingDone (g : Fin 12)
  /-- HOMING_FAILED (R128). -/
  | homingFailed (g : Fin 12)
  /-- IK_DIVERGED (R139). -/
  | ikDiverged (g : Fin 12)
  /-- LYNX_HOLD (R152). -/
  | lynxHold (g : Fin 8)
  /-- LYNX_INPUT_STALE (R153). -/
  | lynxInputStale (member : Bool) (k : BitVec 8)
  /-- AXIS_ENABLE (R159). -/
  | axisEnable (ses : Fin 32) (n : BitVec 8)
  /-- AXIS_DISABLE (R158). -/
  | axisDisable (ses : Fin 32) (n : BitVec 8)
  /-- AXIS_LAW (R180). -/
  | axisLaw (ses : Fin 32) (n : BitVec 8) (current : BitVec 8) (outer : BitVec 8) (law : BitVec 8) (target : BitVec 64)
  /-- AXIS_CALIBRATE_OFFSET (R183). -/
  | axisCalibrateOffset (ses : Fin 32) (n : BitVec 8) (frames : BitVec 16)
  /-- AXIS_CAL_DONE (R183). -/
  | axisCalDone (n : Fin 96)
  /-- AXIS_STATUS (R184). -/
  | axisStatus (ses : Fin 32) (n : BitVec 8) (clear : Word)
  /-- BRAKE_RELEASE (R159). -/
  | brakeRelease (n : Fin 96)
  /-- TORQUE_REMOVAL (R178). -/
  | torqueRemoval (n : Fin 96)
  /-- FOLLOWING_ERROR (R174). -/
  | followingError (n : Fin 96)
  /-- OVERCURRENT (R166). -/
  | overcurrent (n : Fin 96)
  /-- UPLINK_MISSING (R172). -/
  | uplinkMissing (n : Fin 96)
  /-- SAMPLE_AGE (R172). -/
  | sampleAge (n : Fin 96)
  /-- LAW_FALLBACK (R181). -/
  | lawFallback (n : Fin 96)
  /-- TILE_EVENT (R188). -/
  | tileEvent (n : Fin 16) (entry : Fin 16)
  /-- DECLARED_COUNT_REACHED (R205). -/
  | declaredCountReached (n : Fin 16)
  /-- NOP (R198). -/
  | nop (n : Fin 16)
  /-- LD (R198). -/
  | ld (n : Fin 16) (dd : Fin 8) (o : Machine.MemOp)
  /-- ST (R198). -/
  | st (n : Fin 16) (ds : Fin 8) (o : Machine.MemOp)
  /-- LD2 (R198). -/
  | ld2 (n : Fin 16) (dd : Fin 8) (de : Fin 8) (o : Machine.MemOp2)
  /-- LDST (R192). -/
  | ldst (n : Fin 16) (dd : Fin 8) (ds : Fin 8) (o : Machine.MemOp2)
  /-- LDAW (R191). -/
  | ldaw (n : Fin 16) (ad : Fin 2) (o : Machine.MemOp)
  /-- LDDA (R191). -/
  | ldda (n : Fin 16) (ad : Fin 2) (o : Machine.MemOp)
  /-- STDA (R191). -/
  | stda (n : Fin 16) (src : Fin 2) (sat : Bool) (o : Machine.MemOp)
  /-- ADDD (R198). -/
  | addd (n : Fin 16) (ad : Fin 2) (sat : Bool) (o : Machine.MemOp)
  /-- SUBD (R198). -/
  | subd (n : Fin 16) (ad : Fin 2) (sat : Bool) (o : Machine.MemOp)
  /-- MPY (R198). -/
  | mpy (n : Fin 16) (ad : Fin 2) (sat : Bool) (x : Fin 8) (y : Fin 8)
  /-- MAC (R198). -/
  | mac (n : Fin 16) (ad : Fin 2) (sat : Bool) (x : Fin 8) (y : Fin 8)
  /-- MSU (R198). -/
  | msu (n : Fin 16) (ad : Fin 2) (sat : Bool) (x : Fin 8) (y : Fin 8)
  /-- MACR (R198). -/
  | macr (n : Fin 16) (ad : Fin 2) (sat : Bool) (x : Fin 8) (o : Machine.MemOp)
  /-- MACM (R198). -/
  | macm (n : Fin 16) (ad : Fin 2) (sat : Bool) (o : Machine.MemOp2)
  /-- LDA (R191). -/
  | lda (n : Fin 16) (ad : Fin 2) (x : Fin 8)
  /-- ADDA (R198). -/
  | adda (n : Fin 16) (ad : Fin 2) (src : Fin 2) (sat : Bool)
  /-- SUBA (R198). -/
  | suba (n : Fin 16) (ad : Fin 2) (src : Fin 2) (sat : Bool)
  /-- SHA (R198). -/
  | sha (n : Fin 16) (ad : Fin 2) (sat : Bool) (k : BitVec 6)
  /-- MVA (R191). -/
  | mva (n : Fin 16) (dd : Fin 8) (src : Fin 2) (sat : Bool) (sh : Fin 10)
  /-- ADD (R198). -/
  | add (n : Fin 16) (dd : Fin 8) (sat : Bool) (x : Fin 8) (y : Fin 8)
  /-- SUB (R198). -/
  | sub (n : Fin 16) (dd : Fin 8) (sat : Bool) (x : Fin 8) (y : Fin 8)
  /-- NEG (R198). -/
  | neg (n : Fin 16) (dd : Fin 8) (sat : Bool) (x : Fin 8)
  /-- ABS (R198). -/
  | abs (n : Fin 16) (dd : Fin 8) (sat : Bool) (x : Fin 8)
  /-- MIN (R198). -/
  | min (n : Fin 16) (dd : Fin 8) (sat : Bool) (x : Fin 8) (y : Fin 8)
  /-- MAX (R198). -/
  | max (n : Fin 16) (dd : Fin 8) (sat : Bool) (x : Fin 8) (y : Fin 8)
  /-- CLIP (R198). -/
  | clip (n : Fin 16) (dd : Fin 8) (x : Fin 8) (y : Fin 8)
  /-- SHL (R198). -/
  | shl (n : Fin 16) (dd : Fin 8) (sat : Bool) (x : Fin 8) (k : Fin 24)
  /-- SHR (R198). -/
  | shr (n : Fin 16) (dd : Fin 8) (sat : Bool) (x : Fin 8) (k : Fin 24)
  /-- AND (R198). -/
  | and (n : Fin 16) (dd : Fin 8) (x : Fin 8) (y : Fin 8)
  /-- OR (R198). -/
  | or (n : Fin 16) (dd : Fin 8) (x : Fin 8) (y : Fin 8)
  /-- XOR (R198). -/
  | xor (n : Fin 16) (dd : Fin 8) (x : Fin 8) (y : Fin 8)
  /-- MOV (R198). -/
  | mov (n : Fin 16) (dd : Fin 8) (x : Fin 8)
  /-- LDI (R198). -/
  | ldi (n : Fin 16) (dd : Fin 8) (imm : BitVec 16)
  /-- LDIQ (R198). -/
  | ldiq (n : Fin 16) (dd : Fin 8) (imm : BitVec 16)
  /-- CMP (R198). -/
  | cmp (n : Fin 16) (x : Fin 8) (y : Fin 8)
  /-- LEA (R198). -/
  | lea (n : Fin 16) (pd : Fin 8) (ps : Fin 8) (imm : BitVec 16)
  /-- MOVP (R198). -/
  | movp (n : Fin 16) (pd : Fin 8) (x : Fin 8)
  /-- MOVM (R198). -/
  | movm (n : Fin 16) (md : Fin 4) (x : Fin 8)
  /-- LDIP (R198). -/
  | ldip (n : Fin 16) (pd : Fin 8) (imm : BitVec 16)
  /-- LDIM (R198). -/
  | ldim (n : Fin 16) (md : Fin 4) (imm : BitVec 16)
  /-- SETC (R198). -/
  | setc (n : Fin 16) (c : Fin 4) (x : Fin 8)
  /-- MOVS (R198). -/
  | movs (n : Fin 16) (dd : Fin 8)
  /-- TRIG (R196). -/
  | trig (n : Fin 16) (pair : Fin 4) (x : Fin 8)
  /-- BR (R194). -/
  | br (n : Fin 16) (target : BitVec 13)
  /-- BZ (R194). -/
  | bz (n : Fin 16) (target : BitVec 13)
  /-- BNZ (R194). -/
  | bnz (n : Fin 16) (target : BitVec 13)
  /-- BN (R194). -/
  | bn (n : Fin 16) (target : BitVec 13)
  /-- BNN (R194). -/
  | bnn (n : Fin 16) (target : BitVec 13)
  /-- LOOP (R194). -/
  | loop (n : Fin 16) (inner : Bool) (x : Fin 8) (last : BitVec 13)
  /-- PUB (R199). -/
  | pub (n : Fin 16) (grant : Fin 32)
  /-- END (R194). -/
  | slotEnd (n : Fin 16)
  /-- MARKER_RETURN (R215). -/
  | markerReturn (p : Fin 4) (lane : Fin 2) (ok : Bool) (cmdOk : Bool) (hop : Nat) (r : Nat)
  /-- RING_BREAK (R237). -/
  | ringBreak (p : Fin 4)
  /-- RING_RESTORED (R237). -/
  | ringRestored (p : Fin 4)
  /-- COMMAND_FRAME (R221). -/
  | commandFrame (p : Fin 4)
  /-- SAMPLE_RECORD (R228). -/
  | sampleRecord (p : Fin 4) (slot : Fin 16) (lane : Fin 2) (ps : Int) (code : Bool) (bytes : List Byte)
  /-- CAP_RECORD (R234). -/
  | capRecord (p : Fin 4) (slot : Fin 16) (lane : Fin 2) (ps : Int) (code : Bool) (bytes : List Byte)
  /-- CAL_RECORD (R230). -/
  | calRecord (p : Fin 4) (slot : Fin 16) (lane : Fin 2) (ps : Int) (code : Bool) (bytes : List Byte)
  /-- FAULT_RECORD (R227). -/
  | faultRecord (p : Fin 4) (slot : Fin 16) (lane : Fin 2) (ps : Int) (code : Bool) (bytes : List Byte)
  /-- MODULE_UNSYNC (R229). -/
  | moduleUnsync (p : Fin 4) (k : Fin 12)
  /-- MODULE_POWER_ON (R233). -/
  | modulePowerOn (p : Fin 4) (k : Fin 12) (cap : Machine.Cap) (id0 : Nat) (id1 : Nat)
  /-- MODULE_MARKER (R219). -/
  | moduleMarker (p : Fin 4) (k : Fin 12) (v : Bool) (ok : Bool) (minor : Nat) (hop : Nat) (nmod : Nat) (ring : Nat) (rvalid : Bool) (at_ : Nat)
  /-- MODULE_COMMAND_RECORD (R222). -/
  | moduleCommandRecord (p : Fin 4) (k : Fin 12) (minor : Nat) (bytes : List Byte) (frameOk : Bool) (at_ : Nat)
  /-- MODULE_APPLY_DEADLINE (R225). -/
  | moduleApplyDeadline (p : Fin 4) (k : Fin 12)
  /-- MODULE_MARKERS_MISSED (R220). -/
  | moduleMarkersMissed (p : Fin 4) (k : Fin 12)
  /-- MODULE_SAMPLE_INSTANT (R226). -/
  | moduleSampleInstant (p : Fin 4) (k : Fin 12) (sample : Machine.ModSample)
  /-- PWM_COMMIT (R244). -/
  | pwmCommit (g : Fin 16) (at_ : Nat)
  /-- STAGING_WRITE (R244). -/
  | stagingWrite (g : Fin 16) (reg : Machine.StagedReg) (v : Word)
  /-- PWM_TRIP (R251). -/
  | pwmTrip (t : Fin 8) (level : Bool) (cycles : Nat)
  /-- TRIP_CLR (R252). -/
  | tripClr (g : Fin 16)
  /-- CLK_TIME_LOSS (R253). -/
  | clkTimeLoss
  /-- LOCAL_SAMPLE_BLOCK_READY (R256). -/
  | localSampleBlockReady (g : Fin 16) (at_ : Nat) (sums : List (Nat × Bool))
  /-- SD_FAULT (R257). -/
  | sdFault (inp : Fin 16)
  /-- FB_EDGE (R260). -/
  | fbEdge (ch : Fin 24) (a : Bool) (b : Bool) (at_ : Nat)
  /-- FB_INVALID (R262). -/
  | fbInvalid (ch : Fin 24)
  /-- INDEX_CAPTURE (R263). -/
  | indexCapture (ch : Fin 24) (z : Bool)
  /-- SERIAL_FRAME (R264). -/
  | serialFrame (ch : Fin 24) (idle : Bool) (bits : List Bool) (at_ : Nat)
  /-- FB_SAMPLE (R266). -/
  | fbSample (ch : Fin 24) (at_ : Nat)
  /-- REVALID (R473). -/
  | revalid (ch : Fin 24)
  /-- LATCH_EVENT (R272). -/
  | latchEvent (src : Fin 24) (at_ : Nat) (level : Bool)
  /-- CMP_TGT_HI_WRITE (R274). -/
  | cmpTgtHiWrite (u : Fin 32) (v : Word)
  /-- COMPARE_FIRE (R276). -/
  | compareFire (u : Fin 32) (at_ : Nat)
  /-- CMP_PULSE_END (R277). -/
  | cmpPulseEnd (pin : Fin 16) (at_ : Nat)
  /-- STEP_COMMIT (R279). -/
  | stepCommit (n : Fin 16) (at_ : Nat)
  /-- STEP_CHOP_STARVED (R292). -/
  | stepChopStarved (c : Fin 12) (phaseB : Bool)
  /-- AMP_HOLD (R290). -/
  | ampHold (c : Fin 12)
  /-- BADGER_CYCLE (R301). -/
  | badgerCycle (at_ : Nat) (edm : BitVec 8)
  /-- TICK_LOST (R299). -/
  | tickLost (ch : Fin 2)
  /-- EVALUATION_END (R300). -/
  | evaluationEnd (ch : Fin 2) (at_ : Nat)
  /-- STO_REQUEST_LINE (R299). -/
  | stoRequestLine (level : Bool)
  /-- CROSS_COMPARE (R302). -/
  | crossCompare (okA : Bool) (okB : Bool)
  /-- BADGER_FAULT (R303). -/
  | badgerFault (ch : Fin 2) (oscillator : Bool)
  /-- SAFE_INPUT_CHANGE (R305). -/
  | safeInputChange (inp : Fin 8) (ch : Fin 2) (level : Bool) (us : Nat)
  /-- DISCREPANCY (R305). -/
  | discrepancy (ch : Fin 2) (inp : Fin 8) (at_ : Nat)
  /-- TEST_PULSE_START (R310). -/
  | testPulseStart (ch : Fin 2) (o : Fin 8)
  /-- TEST_PULSE_CHECK (R310). -/
  | testPulseCheck (ch : Fin 2) (o : Fin 8) (on : BitVec 8)
  /-- TEST_PULSE_END (R310). -/
  | testPulseEnd (ch : Fin 2) (o : Fin 8) (closed : Bool)
  /-- EDM_FAULT (R311). -/
  | edmFault (ch : Fin 2) (o : Fin 8) (at_ : Nat)
  /-- SS1_TMAX (R312). -/
  | ss1Tmax (ch : Fin 2) (g : Fin 9) (at_ : Nat)
  /-- STANDSTILL_CONFIRMED (R312). -/
  | standstillConfirmed (ch : Fin 2) (g : Fin 9)
  /-- SPOS_STALE (R315). -/
  | sposStale (ch : Fin 2) (axis : Fin 96)
  /-- SLS_DELAY (R317). -/
  | slsDelay (ch : Fin 2) (g : Fin 9) (at_ : Nat)
  /-- RED_DELAY (R338). -/
  | redDelay (ch : Fin 2) (g : Fin 9) (at_ : Nat)
  /-- SEP_CLEAR (R338). -/
  | sepClear (ch : Fin 2) (g : Fin 9)
  /-- SAFE_FRAME (R319). -/
  | safeFrame (p4 : Bool) (at_ : Nat) (bytes : List Byte)
  /-- CONN_TIMEOUT (R320). -/
  | connTimeout (ch : Fin 2) (c : Fin 32) (at_ : Nat)
  /-- SAFE_MESSAGE_SEND (R320). -/
  | safeMessageSend (c : Fin 32)
  /-- SAFETY_STATUS (R326). -/
  | safetyStatus (ses : Fin 32)
  /-- SAFETY_PARAM_PUT_DATA (R324). -/
  | safetyParamPutData (ses : Fin 32) (ofs : Word) (total : Word) (data : List Byte)
  /-- SAFETY_PARAM_PUT_ABORT (R324). -/
  | safetyParamPutAbort (ses : Fin 32) (total : Word)
  /-- SAFETY_PARAM_COMMIT (R323). -/
  | safetyParamCommit (ses : Fin 32) (sig : Word)
  /-- SET_DELIVERED (R325). -/
  | setDelivered
  /-- BADGER_SELFTEST_END (R325). -/
  | badgerSelftestEnd (ch : Fin 2) (passed : Bool)
  /-- PTP_MEASUREMENT (R352). -/
  | ptpMeasurement (port : Fin 2) (offset : Int) (gm : Nat) (at_ : Nat)
  /-- HOLD_TMO (R352). -/
  | holdTmo (at_ : Nat)
  /-- TIME_PERMIT_EXPIRED (R355). -/
  | timePermitExpired
  /-- PTP_TRANSMIT (R350). -/
  | ptpTransmit (port : Fin 4) (kind : Fin 16)
  /-- ETHERNET_FRAME_RECEIVE (R347). -/
  | ethernetFrameReceive (port : Fin 4) (at_ : Nat) (bytes : List Byte)
  /-- QUEUE_HEAD (R363). -/
  | queueHead (port : Fin 4) (q : Fin 8) (frame : Machine.TxFrame) (at_ : Nat)
  /-- LAUNCH_TIME (R362). -/
  | launchTime (port : Fin 4) (q : Fin 8) (at_ : Nat)
  /-- GATE_CONTROL_INTERVAL (R362). -/
  | gateControlInterval (port : Fin 4) (at_ : Nat)
  /-- TXTS_ID_READ (R361). -/
  | txtsIdRead (port : Fin 4)
  /-- CELL_TICK (R368). -/
  | cellTick (port : Fin 2) (at_ : Nat) (bytes : List Byte)
  /-- CL_STATUS_FRAME (R367). -/
  | clStatusFrame (port : Fin 2) (bytes : List Byte)
  /-- PEER_FRAME (R371). -/
  | peerFrame (port : Fin 2) (at_ : Nat) (bytes : List Byte)
  /-- CL_SAFE_FRAME (R366). -/
  | clSafeFrame (port : Fin 2) (at_ : Nat) (bytes : List Byte)
  /-- TICK_MISSING (R368). -/
  | tickMissing (at_ : Nat)
  /-- MASTER_HANDOVER (R369). -/
  | masterHandover
  /-- CELL_FORM (R367). -/
  | cellForm (at_ : Nat)
  /-- MEMBER_LOST (R367). -/
  | memberLost (k : Fin 8)
  /-- CELL_ISOLATED (R370). -/
  | cellIsolated
  /-- CL_WINDOW (R366). -/
  | clWindow
  /-- CAN_FRAME_RECEIVED (R378). -/
  | canFrameReceived (c : Fin 2) (at_ : Nat) (frame : Machine.CanFrame)
  /-- CAN_FRAME_START (R382). -/
  | canFrameStart (c : Fin 2)
  /-- CAN_TX_SUCCESS (R381). -/
  | canTxSuccess (c : Fin 2) (at_ : Nat)
  /-- CAN_ARBITRATION_LOST (R382). -/
  | canArbitrationLost (c : Fin 2)
  /-- CAN_ERROR (R386). -/
  | canError (c : Fin 2) (lec : Fin 8) (inData : Bool) (dominant : Bool) (heavy : Bool)
  /-- BUS_OFF_RECOVERY (R386). -/
  | busOffRecovery (c : Fin 2)
  /-- BO_DELAY (R386). -/
  | boDelay (c : Fin 2)
  /-- TXREQ_WRITE (R382). -/
  | txreqWrite (bus : Machine.Bus) (c : Fin 2) (mask : Word)
  /-- TXCAN_WRITE (R383). -/
  | txcanWrite (bus : Machine.Bus) (c : Fin 2) (mask : Word)
  /-- CAN_INIT_WRITE (R384). -/
  | canInitWrite (bus : Machine.Bus) (c : Fin 2)
  /-- RXF_POP (R379). -/
  | rxfPop (bus : Machine.Bus) (c : Fin 2)
  /-- HP_FULL_CLEAR (R380). -/
  | hpFullClear (bus : Machine.Bus) (c : Fin 2) (mask : Word)
  /-- TX_BUFFER_WRITE (R382). -/
  | txBufferWrite (bus : Machine.Bus) (c : Fin 2) (buf : Fin 32) (w : Fin 21) (v : Word)
  /-- IO_WRITE_CAN (R393). -/
  | ioWriteCan (ses : Fin 32) (c : Fin 2) (obj : BitVec 8) (dlc : BitVec 8) (flags : BitVec 8) (data : List Byte)
  /-- IO_READ_CAN (R393). -/
  | ioReadCan (ses : Fin 32) (c : Fin 2) (obj : BitVec 8)
  /-- FIELD_INPUT_CHANGE (R396). -/
  | fieldInputChange (k : Fin 32) (level : Bool) (cycles : Nat)
  /-- FIELD_OUT_FAULT (R399). -/
  | fieldOutFault (k : Fin 32) (overtemp : Bool)
  /-- FO_FAULT_CLEAR (R399). -/
  | foFaultClear (mask : Word)
  /-- FO_CMD_WRITE (R401). -/
  | foCmdWrite (bus : Machine.Bus) (v : Word)
  /-- WATCHDOG_FEED (R402). -/
  | watchdogFeed (bus : Machine.Bus) (g : Fin 4) (key : BitVec 8) (at_ : Nat)
  /-- REARM (R403). -/
  | rearm (bus : Machine.Bus) (g : Fin 4) (at_ : Nat)
  /-- FO_EN_CLEAR (R403). -/
  | foEnClear (bus : Machine.Bus) (g : Fin 4)
  /-- FIELD_WD_EXPIRED (R403). -/
  | fieldWdExpired (g : Fin 4) (at_ : Nat)
  /-- HOLD_WIN (R404). -/
  | holdWin (at_ : Nat)
  /-- FIELD_SUPPLY (R405). -/
  | fieldSupply (supply : Fin 5) (v : Nat)
  /-- IO_WRITE_FIELD (R406). -/
  | ioWriteField (ses : Fin 32) (mask : Word) (states : Word)
  /-- IO_READ_FIELD (R406). -/
  | ioReadField (ses : Fin 32)
  /-- IO_COMPARE_SET_ARM (R281). -/
  | ioCompareSetArm (ses : Fin 32) (u : BitVec 8) (target : BitVec 48)
  /-- IO_COMPARE_SET_CANCEL (R281). -/
  | ioCompareSetCancel (ses : Fin 32) (u : BitVec 8) (target : BitVec 48)
  /-- TIME_STATUS (R372). -/
  | timeStatus (ses : Fin 32)
  /-- TIME_PERMIT_STEP (R355). -/
  | timePermitStep (ses : Fin 32) (limit : BitVec 64)
  /-- RECORD_READ (R416). -/
  | recordRead (ses : Fin 32) (ring : BitVec 8) (count : BitVec 8) (start : Word) (lo : BitVec 16) (hi : BitVec 16)
  /-- RECORD_COMMIT_READ (R417). -/
  | recordCommitRead (ses : Fin 32) (pos : Word) (len : BitVec 16)
  /-- DUMP_READ (R427). -/
  | dumpRead (ses : Fin 32) (ofs : Word) (len : BitVec 16)
  /-- DUMP_CLEAR (R427). -/
  | dumpClear (ses : Fin 32)
  /-- DUMP_WRITE_COMPLETE (R424). -/
  | dumpWriteComplete
  /-- FATAL_TIMER (R424). -/
  | fatalTimer
  /-- CORE_WATCHDOG (R423). -/
  | coreWatchdog (core : Fin 8) (at_ : Nat)
  /-- ECC_ERROR (R423). -/
  | eccError (mem : Nat) (at_ : Nat)
  /-- LOCKSTEP_SPOT_CHECK (R441). -/
  | lockstepSpotCheck (matched : Bool) (tile : Fin 16) (at_ : Nat)
  /-- SCRUB (R441). -/
  | scrub (mem : Nat) (addr : Nat) (err : Option Bool) (pass : Bool) (at_ : Nat)
  /-- PWM_READBACK (R441). -/
  | pwmReadback (g : Fin 16) (ch : Fin 6) (level : Bool)
  /-- POWER_ON (R436). -/
  | powerOn (cellId : Fin 8) (testMode : Bool)
  /-- RESET_N (R466). -/
  | resetN (low : Bool) (cellId : Fin 8) (testMode : Bool)
  /-- BROWN_OUT (R433). -/
  | brownOut
  /-- BOOT_IMAGE (R437). -/
  | bootImage (slot0 : Option (Nat × Nat × List Byte)) (slot1 : Option (Nat × Nat × List Byte)) (fuse : Bool)
  /-- POWER_UP_SELFTEST_DONE (R440). -/
  | powerUpSelftestDone (failed : Option (Nat × Nat))
  /-- CELL_SELFTEST_ONLINE (R442). -/
  | cellSelftestOnline (ses : Fin 32)
  /-- CELL_SELFTEST_FULL (R442). -/
  | cellSelftestFull (ses : Fin 32)
  /-- SELFTEST_DONE (R442). -/
  | selftestDone (failed : Option (Nat × Nat)) (at_ : Nat)
  /-- TEST_RESULT (R451). -/
  | testResult (ses : Fin 32)
  /-- POWER_VCORE (R432). -/
  | powerVcore (ses : Fin 32) (mv : BitVec 16)
  /-- VCORE_STEP (R432). -/
  | vcoreStep (at_ : Nat)
  /-- VCORE_TIMEOUT (R433). -/
  | vcoreTimeout (powerGood : Bool) (at_ : Nat)
  /-- POWER_GOOD_LOST (R433). -/
  | powerGoodLost
  /-- THERMAL (R435). -/
  | thermal (sensor : Nat) (temp : Int)
  /-- CLOCK_LOST (R431). -/
  | clockLost (dom : Fin 16) (at_ : Nat)
  /-- POWER_STATE_RUN (R445). -/
  | powerStateRun (ses : Fin 32)
  /-- UNGATE (R445). -/
  | ungate (at_ : Nat)
  /-- POWER_STATE_ARMS_IDLE (R445). -/
  | powerStateArmsIdle (ses : Fin 32) (mask : BitVec 8)
  /-- POWER_STATE_STANDBY (R445). -/
  | powerStateStandby (ses : Fin 32) (timer : Word)
  /-- POWER_STATE_DEEP (R445). -/
  | powerStateDeep (ses : Fin 32) (timer : Word)
  /-- POWER_STATE_RESTART (R444). -/
  | powerStateRestart (ses : Fin 32)
  /-- FELADE_RESTART (R444). -/
  | feladeRestart (slot : Fin 2) (build : Nat) (hash : List Byte) (at_ : Nat)
  /-- WAKE (R447). -/
  | wake (src : Fin 5)
  /-- STANDBY_RESUME (R448). -/
  | standbyResume (at_ : Nat)
  /-- PAD_HOLD_LATCH (R445). -/
  | padHoldLatch
  /-- PAD_HOLD_RELEASE (R449). -/
  | padHoldRelease
  /-- SAFETY_DIE_RESET_RELEASE (R325). -/
  | safetyDieResetRelease (ch : Fin 2)
  /-- VSOUT_UNDERVOLTAGE (R464). -/
  | vsoutUndervoltage (low : Bool)
  /-- MODULE_FAULT (R227). -/
  | moduleFault (p : Fin 4) (k : Fin 12) (code : Nat) (stands : Bool)
  /-- POWER_GOOD_RETURN (R435). -/
  | powerGoodReturn
deriving DecidableEq, Repr, Inhabited

end Sys2Proof
end

