-- ==== Sys2Proof/Machine/Crc.lean ====
section
/-!
DEFINITION. The cyclic redundancy checks of the spec: CRC-32C of requests, responses, records and logs, the CRC of safe
messages (R318), the CRC-16 and CRC-24 of the drive link (R215, R231).
-/
namespace Sys2Proof.Machine

/-- `n` steps of a reflected CRC register. -/
def crcStepR (poly : BitVec 32) : Nat → BitVec 32 → BitVec 32
  | 0, c => c
  | n + 1, c => crcStepR poly n (if c.getLsbD 0 then (c >>> 1) ^^^ poly else c >>> 1)

/-- Reflected CRC over bytes from register value `c`, without the final XOR. -/
def crcR (poly : BitVec 32) : BitVec 32 → List Byte → BitVec 32
  | c, [] => c
  | c, b :: r => crcR poly (crcStepR poly 8 (c ^^^ b.setWidth 32)) r

/-- CRC-32C: initial value and final XOR all ones. -/
def crc32c (l : List Byte) : Nat := (crcR 0x82F63B78 0xFFFFFFFF l ^^^ 0xFFFFFFFF).toNat

/-- CRC of a safe message with its initial value (R318). -/
def crcSafe (init : Nat) (l : List Byte) : Nat := (crcR 0xC8DF352F (BitVec.ofNat 32 init) l ^^^ 0xFFFFFFFF).toNat

/-- `n` steps of a CRC register of `w` bits, most significant bit first. -/
def crcStepM (w : Nat) (poly : Nat) : Nat → Nat → Nat
  | 0, c => c
  | n + 1, c => crcStepM w poly n (if c.testBit (w - 1) then ((c * 2) ^^^ poly) % 2 ^ w else c * 2 % 2 ^ w)

/-- CRC over bytes, most significant bit first, without reflection and final XOR. -/
def crcM (w poly : Nat) : Nat → List Byte → Nat
  | c, [] => c
  | c, b :: r => crcM w poly (crcStepM w poly 8 (c ^^^ (b.toNat * 2 ^ (w - 8)))) r

/-- CRC-16 of drive-link frames. -/
def crc16 (init : Nat) (l : List Byte) : Nat := crcM 16 0x1021 init l

/-- CRC-24 of safe position fields (R231). -/
def crc24 (init : Nat) (l : List Byte) : Nat := crcM 24 0x864CFB init l

end Sys2Proof.Machine
end

