-- ==== Sys2Proof/Machine/Types/Safety.lean ====
section
/-!
DEFINITION. Data of the two Badgers: safety-parameter sets, channel states, STO groups, safe axes, connections, speed
and separation monitoring (chapters 13 and 14).
-/
namespace Sys2Proof.Machine

/-- Parameters of a safety-parameter set (Table 13-11, Table 14-7). Vector parameters carry the index of the element. -/
inductive SParam where
  | func | mode | mask | siFlt | discT
  | outGroup | tpLen | edmEn | edmT
  | restart | ss1Tmax | tLag | stillFrames | sposMiss | slsSrc | slsDelay | slsReact
  | ssmEn | sepRestart | srcMask | zoneMask | basePos (i : Nat) | baseRot (i : Nat)
  | capLink (c : Nat) | capP0 (c i : Nat) | capP1 (c i : Nat) | capRadius (c : Nat)
  | mRed | mWarn | sepHyst | sepClear | vRed | redDelay | vCart (s : Nat) | zR
  | port | slot | axis | axGroup | safeId | resolution | vTol | dEnv | vStill | vSls (s : Nat)
  | joint | jType | aPrev | alphaPrev | d | theta | qZero | sposZero | vMax | aCap | reach
  | connId | kind | groupMask | react | wdT | txPer | source | tracks | relaySrc
  | seedA | seedB | vlan | tpPer | sphStep | floorZ
  | polyN | polyX (i : Nat) | polyY (i : Nat) | zTop | tZone | cIntr | zdMin | vH | tSens | tNet
deriving DecidableEq, Repr, Inhabited

/-- One entry of a set's body (R322, R99): identifier, the parameter it names, and the value. -/
structure SEntry where
  ident : Nat := 0
  par : Option SParam := none
  val : Int := 0
deriving DecidableEq, Repr, Inhabited

/-- A safety-parameter set (Table 13-10): header values, the signature computed over the body, the entries. -/
structure SafeSet where
  serial : Nat := 0
  sig : Nat := 0
  entries : List SEntry := []
deriving DecidableEq, Repr, Inhabited

/-- Badger channel states (Table 13-13), coded 0 to 3 in Table 13-14. -/
inductive BState where
  | init | waitSet | active | fault
deriving DecidableEq, Repr, Inhabited

/-- STO group states (Table 13-3), coded 0 STO, 1 SS1, 2 RELEASED in Table 13-8. -/
inductive SState where
  | sto | ss1 | released
deriving DecidableEq, Repr, Inhabited

/-- Demands in the order of strictness (R302). -/
inductive Demand where
  | none | ss1 | sto
deriving DecidableEq, Repr, Inhabited

/-- Separation zones in the order of strictness (R338), coded 0 to 3. -/
inductive SepZone where
  | clear | warning | reduced | stop
deriving DecidableEq, Repr, Inhabited

/-- Latched faults of an STO group (Table 13-4, R337). -/
structure SFaults where
  disc : Bool := false
  env : Bool := false
  edm : Bool := false
  tp : Bool := false
  spos : Bool := false
  accel : Bool := false
deriving DecidableEq, Repr, Inhabited

/-- One STO group in one channel. -/
structure SGrp where
  st : SState := .sto
  faults : SFaults := {}
  /-- A reset is awaited (R308). -/
  needReset : Bool := true
  /-- A reset for the group was latched in this cycle: 0 none, 1 input, 2 PLC. -/
  reset : Nat := 0
  /-- Demand of this channel and demand in force, with the row of Table 13-4; newest demand's row. -/
  own : Demand := .none
  ownRow : Nat := 0
  demand : Demand := .none
  row : Nat := 0
  cause : Nat := 0
  /-- Rows of Table 13-4 that demand in this cycle, and those of the cycle before, as masks: a row not in the latter is newer. -/
  rows : Nat := 0
  rowsWas : Nat := 0
  /-- SS1: start of the cycle in which it was entered, |v| of the axes then, cycles below V_STILL (R312). -/
  ss1At : Nat := 0
  v0 : Tab Rat := []
  still : Nat := 0
  /-- Safe speed limit set in force, and a lowering one waiting with its instant (R317). -/
  sls : Nat := 0
  slsWait : Option (Nat × Nat) := none
  /-- Separation: zone of this channel, zone in force, cycles towards leaving STOP, instant of entering REDUCED, margin,
  S_p, nearest volume, Cartesian speed (R338, R339). -/
  zone : SepZone := .clear
  zoneIn : SepZone := .clear
  clr : Nat := 0
  redAt : Nat := 0
  margin : Int := 0x7FFF
  sp : Int := 0
  near : Nat := 0xFF
  vcart : Rat := 0
deriving DecidableEq, Repr, Inhabited

/-- One safe axis in one channel (R314, R315). -/
structure SAxis where
  /-- Position and sequence of the last field taken. -/
  last : Option (Nat × Nat) := none
  speed : Rat := 0
  prevSpeed : Rat := 0
  /-- A speed was measured in this cycle. -/
  fresh : Bool := false
  miss : Nat := 0
  stale : Bool := false
deriving DecidableEq, Repr, Inhabited

/-- A person track as a Badger holds it (Table 14-1), mm. -/
structure STrack where
  x : Int := 0
  y : Int := 0
  radius : Nat := 0
  height : Nat := 0
  unc : Nat := 0
deriving DecidableEq, Repr, Inhabited

/-- One connection in one channel (R319, R320, R328 to R331). -/
structure SConn where
  last : Option Nat := none
  idle : Nat := 0
  expired : Bool := false
  accepted : Bool := false
  discards : Nat := 0
  /-- Newest accepted kind-0 payload: masks, RESET bit, SLS bits (Table 13-8). -/
  sto : Nat := 0
  ss1 : Nat := 0
  resetBit : Bool := false
  slsBits : Nat := 0
  /-- Newest accepted track message: its payload, SOURCE, SENSOR_OK, AGE, commit frame of the later copy, tracks. -/
  payload : List Byte := []
  src : Nat := 0
  sensorOk : Bool := false
  age : Nat := 0
  commit : Nat := 0
  tracks : List STrack := []
  /-- Outbound: next SEQ, cycle of the last transmission. -/
  txSeq : Nat := 0
  txCycle : Nat := 0
deriving DecidableEq, Repr, Inhabited

/-- A valid copy waiting for its partner (R319). -/
structure SCopy where
  conn : Nat := 0
  copyB : Bool := false
  seq : Nat := 0
  payload : List Byte := []
  stamp : Nat := 0
  commit : Nat := 0
deriving DecidableEq, Repr, Inhabited

/-- A black-channel item as forwarded (R22, R232, R301): commit frame, and a safe position field of port, slot and axis,
or a safe-message copy of port 2 (P3) or 3 (P4) with its stamp. -/
inductive Black where
  | field (commit port slot axis : Nat) (bytes : List Byte)
  | copy (commit port stamp : Nat) (bytes : List Byte)
deriving DecidableEq, Repr, Inhabited

/-- One Badger. -/
structure Badger where
  st : BState := .init
  /-- Channel fault cause (SAFE_CHn_STATUS.FAULT). -/
  cause : Nat := 0
  /-- Out of reset (R325). -/
  on : Bool := false
  /-- Signature of the last committed set in non-volatile memory (R325). -/
  stored : Option Nat := none
  set : Option SafeSet := none
  /-- Cycles run, major frame and start instant of the newest. -/
  cycle : Nat := 0
  frame : Nat := 0
  start : Nat := 0
  /-- Ticks lost in a row, in time in a row, lost before the present cycle, demand of R299 in force. -/
  lost : Nat := 0
  inTime : Nat := 0
  lostNow : Bool := false
  tickHold : Bool := true
  /-- Own channel of the safe inputs after the filter, as latched (after R304), and EDM inputs reading open. -/
  level : Nat := 0
  latched : Nat := 0
  edm : Nat := 0
  /-- Discrepancy: run of differing cycles by input, faults, inputs seen at 0 together since (R305). -/
  discRun : Tab Nat := []
  disc : Nat := 0
  disc0 : Nat := 0
  /-- Start of the pulse of a reset input, plus 1; 0 none (R308). -/
  rise : Tab Nat := []
  /-- Own switches on, wanted at the end of evaluation, in a test pulse, kept off by R310. -/
  sw : Nat := 0
  want : Nat := 0
  pulse : Nat := 0
  stuck : Nat := 0
  /-- Instant of the last switch-off of each output, plus 1 (R311). -/
  offAt : Tab Nat := []
  grp : Tab SGrp := []
  ax : Tab SAxis := []
  conn : Tab SConn := []
  copies : List SCopy := []
  /-- Comparison messages missing in a row (R302). -/
  cmpMiss : Nat := 0
  /-- Capsule sphere centres of the previous cycle by group and sphere (Table 14-2, channel B), nm. -/
  centres : Tab (List (List Int)) := []
  /-- Sources whose coverage episode stands (R331). -/
  cover : Nat := 0
deriving DecidableEq, Repr, Inhabited

/-- Both Badgers and what lies between and around them. -/
structure Safety where
  a : Badger := {}
  b : Badger := {}
  /-- VSOUT below 17.5 V (R464). -/
  vsoutLow : Bool := false
  /-- A set committed, waiting for the cycle in which both take it (R323). -/
  staged : Option SafeSet := none
deriving DecidableEq, Repr, Inhabited

/-- The motion die's side of the Badgers: what it forwards and what it has been told (R19, R22, R177, R301). -/
structure SafLink where
  /-- Black-channel items committed and not yet latched, oldest first. -/
  black : List Black := []
  /-- Safe fields received in the present major frame, committed with the next. -/
  fields : List Black := []
  /-- STO groups for which SS1 is requested (R177). -/
  ss1Req : Nat := 0
  /-- STO request line as the motion die drives it (R299). -/
  line : Bool := false
  /-- Demands reported and not yet entered: groups with SS1, with STO (R19). -/
  ss1 : Nat := 0
  sto : Nat := 0
  /-- Groups reported RELEASED, and those known so from the last major boundary on (R19). -/
  released : Nat := 0
  known : Nat := 0
  /-- A report came since the last cutoff: the next boundary takes the demands in (R300). -/
  learned : Bool := false
  /-- Records of the cycle that runs, reported at the end of its evaluation (R300): code, source, parameters. -/
  reports : List (Nat × Nat × Int × Int × Int) := []
  /-- Staging of `safety.param_put` (R324): owner, TOTAL, bytes. -/
  owner : Option Nat := none
  total : Nat := 0
  bytes : List Byte := []
  /-- Safe-input states that a replayed log gives the next cycle (R301). -/
  replayIn : Option (Nat × Nat) := none
  /-- Copies that wait for the cell-link window (R342, R366): copy B, bytes. -/
  relay : List (Bool × List Byte) := []
  /-- SERIAL of the active set as reported. -/
  serial : Nat := 0
  /-- Set bytes in flash (R323). -/
  flash : List Byte := []
deriving DecidableEq, Repr, Inhabited

end Sys2Proof.Machine
end

