-- ==== Sys2Proof/Config.lean ====
section
/-!
DEFINITION. What the spec leaves open or gives no value for: every constant here has no body, so that no proof can
lean on a value of it. Each is named in a log entry (notes/assumptions).
-/
namespace Sys2Proof.Config

/-- The n-th free value of the run: stands for one value the spec leaves open (log entry 3). -/
opaque freeValue : Nat → Nat

/-- Double word of a tile instruction whose pointer is odd (Table 8-6 gives even pointers only), by tile cycle (log entry 3). -/
opaque oddDouble : Nat → BitVec 48

/-- Result of CLIP with a negative bound (Table 8-6), by tile cycle (log entry 3). -/
opaque clipNegative : Nat → BitVec 24

/-- Pointer left by an MM instruction whose two pointers are equal (Table 8-5), by tile cycle (log entry 3). -/
opaque samePointer : Nat → BitVec 15

/-- Register left by LD2 with equal destinations (R198), by tile cycle (log entry 3). -/
opaque sameDest : Nat → BitVec 24

/-- The sine a tile computes, in Q1.23 units, before its error bound is applied (R196; log entry 3). -/
opaque sine : Nat → Int

/-- The cosine a tile computes, as `sine`. -/
opaque cosine : Nat → Int

/-- Which parameter a parameter number of a class of the safety-parameter set names: the spec lists the parameters but not
their numbers (log entry 31). -/
opaque safetyParam : Nat → Nat → Option Machine.SParam

/-- Badger B's outward rounding of a distance, taken modulo 2 mm, by cycle and group (Table 14-2; log entry 32). -/
opaque roundOut : Nat → Nat

/-- The network-time servo: its frequency estimate and the rate it asks for, in 2^-40, at the n-th measurement (R353 bounds
both; log entry 34). -/
opaque servoEstimate : Nat → Int
opaque servoRate : Nat → Int

/-- The section table and sections of the n-th dump: processor and memory contents that are no part of the model (Table 18-11;
log entry 36). -/
opaque dumpBody : Nat → List (BitVec 8)

/-- Which slot of its group counts an event: the counter map is exported by Paralmelo, not given (R422; log entry 37). -/
opaque counterSlot : Nat → Nat → Nat

/-- The loader's reading of an image's sections. The spec gives header, section table and section types (Tables 4-1 to 4-3), not
the byte formats of the sections (log entry 8). -/
opaque decodeImage : List (BitVec 8) → Machine.Image

/-- Version of Felade's parameter dictionary (Table 4-4, step 3; log entry 8). -/
opaque dictVersion : Nat

/-- Parameters that Table 4-6 marks L, by identifier: the dictionary itself is not in the spec (R98, R99; log entry 8). -/
opaque liveParam : Nat → Bool

/-- Identifier of a parameter by its number in the loader's checks (Machine/LoadChecks) and its instance; number 100 stands for the
detail of a drive-link port that R214 refuses (log entry 8). -/
opaque paramId : Nat → Nat → Nat

/-- The device nonce of a session's n-th opening: the device draws it, the spec fixes no value (Table 3-6; log entry 3). -/
opaque deviceNonce : Nat → Nat → Nat

/-- Tag of an answer to a datagram for which no key is known (R73; log entry 3). -/
opaque keylessTag : List (BitVec 8) → Nat

/-- Fused minimum of VDD_CORE of the part, mV, before R432 bounds it to 650 to 700 (log entry 3). -/
opaque vcoreFuse : Nat

end Sys2Proof.Config
end

