-- ==== Sys2Proof/Machine/Tab.lean ====
section
/-!
DEFINITION. Operations on sparse tables in canonical form: lookup, update, the form itself.
-/
namespace Sys2Proof.Machine

/-- The entry of key `k`, or the default `d` where no entry is listed. -/
def tget {α : Type} (d : α) : Tab α → Nat → α
  | [], _ => d
  | (k', v) :: r, k => if k' = k then v else tget d r k

/-- `l` without an entry for `k`. -/
def tdel {α : Type} (l : Tab α) (k : Nat) : Tab α := l.filter (fun e => !decide (e.1 = k))

/-- `l` with the entry of `k` replaced by `v`, keys kept rising. -/
def tins {α : Type} : Tab α → Nat → α → Tab α
  | [], k, v => [(k, v)]
  | (k', v') :: r, k, v =>
    if k' = k then (k, v) :: r else if k < k' then (k, v) :: (k', v') :: r else (k', v') :: tins r k v

/-- Update in canonical form: writing the default removes the entry. -/
def tset {α : Type} [DecidableEq α] (d : α) (l : Tab α) (k : Nat) (v : α) : Tab α :=
  if v = d then tdel l k else tins l k v

/-- Update by a function. -/
def tmod {α : Type} [DecidableEq α] (d : α) (l : Tab α) (k : Nat) (f : α → α) : Tab α :=
  tset d l k (f (tget d l k))

/-- Keys of `l` rise strictly from above `lo`. -/
def risingFrom {α : Type} : Nat → Tab α → Bool
  | _, [] => true
  | lo, (k, _) :: r => decide (lo ≤ k) && risingFrom (k + 1) r

/-- The canonical form: keys strictly rising and no entry equal to the default. -/
def twf {α : Type} [DecidableEq α] (d : α) (l : Tab α) : Bool :=
  risingFrom 0 l && l.all (fun e => decide (e.2 ≠ d))

/-- `n` updates at consecutive keys from `k`, one per element. -/
def tfill {α : Type} [DecidableEq α] (d : α) (l : Tab α) (k : Nat) : List α → Tab α
  | [] => l
  | v :: r => tfill d (tset d l k v) (k + 1) r

/-- The entries of `n` consecutive keys from `k`. -/
def tread {α : Type} (d : α) (l : Tab α) (k : Nat) : Nat → List α
  | 0 => []
  | n + 1 => tget d l k :: tread d l (k + 1) n

/-! ### Sorting -/

/-- Insert behind the entries that are not above. -/
def insBy {α : Type} (below : α → α → Bool) (x : α) : List α → List α
  | [] => [x]
  | y :: l => if below x y then x :: y :: l else y :: insBy below x l

/-- Stable sort; `below x y`: x comes before y. -/
def sortBy {α : Type} (below : α → α → Bool) (l : List α) : List α := l.foldl (fun s x => insBy below x s) []

/-- Lexicographic order of keys. -/
def lexLt : List Int → List Int → Bool
  | [], _ :: _ => true
  | _, [] => false
  | a :: x, b :: y => decide (a < b) || (decide (a = b) && lexLt x y)

end Sys2Proof.Machine
end

