-- ==== Sys2Proof/Machine/Flags.lean ====
section
/-!
DEFINITION. Saturation, wrapping and the flags of the loop tiles (R189 to R191, R194).
-/
namespace Sys2Proof.Machine

/-- Lowest and highest value of a signed field of `w` bits. -/
def loOf (w : Nat) : Int := -(2 ^ (w - 1) : Nat)
def hiOf (w : Nat) : Int := (2 ^ (w - 1) : Nat) - 1

/-- R190: with S set a result beyond the range of `w` bits becomes the nearest end and SAT acts; with S clear it
wraps. -/
def narrow (w : Nat) (s : Bool) (x : Int) : BitVec w × Bool :=
  if s && decide (hiOf w < x) then (BitVec.ofInt w (hiOf w), true)
  else if s && decide (x < loOf w) then (BitVec.ofInt w (loOf w), true)
  else (BitVec.ofInt w x, false)

/-- Z and N of a data result (R194). -/
def setZN (c : TCtx) (v : DWord) : TCtx := { c with z := decide (v = 0), n := v.msb }

/-- TSR.SAT set when a saturation acted (R190). -/
def orSat (c : TCtx) (b : Bool) : TCtx := { c with sat := c.sat || b }

/-- TSR as MOVS reads it (Table 8-3). -/
def tsr (c : TCtx) (event : Bool) : DWord :=
  BitVec.ofNat 24
    (c.z.toNat + c.n.toNat * 2 + c.sat.toNat * 4 + event.toNat * 8 + c.l0act.toNat * 16 + c.l1act.toNat * 32)

/-- R191: a data word at accumulator bits [46:23] with sign extension. -/
def widen (v : DWord) : Acc := BitVec.ofInt 56 (v.toInt * 2 ^ 23)

/-- R191: `floor(A × 2^sh)` in Q1.23, before saturation or wrap. -/
def narrowInt (a : Acc) (sh : Nat) : Int := (a.toInt * 2 ^ sh).fdiv (2 ^ 23)

/-- The exact product of two data words, in accumulator units Q10.46 (R189). -/
def product (x y : DWord) : Int := x.toInt * y.toInt

/-- `x × 2^k`, right shifts taking the floor (SHA, SHL, SHR of Table 8-6). -/
def shiftInt (x : Int) (k : Int) : Int :=
  if 0 ≤ k then x * 2 ^ k.toNat else x.fdiv (2 ^ (-k).toNat)

/-- Half of pi in units of 2^-64, rounded down. -/
def halfPi : Int := 28976077832308491369

/-- Taylor terms of sine (`n0 = 1`) or cosine (`n0 = 0`) at `th` (2^-64 rad), from term `t` of order `n` on, `fuel`
of them, in 2^-64 units; each division drops less than one unit. -/
def taylor (th : Int) : Nat → Nat → Int → Int
  | 0, _, _ => 0
  | fuel + 1, n, t => t - taylor th fuel (n + 2) (t * th / 2 ^ 64 * th / 2 ^ 64 / ((n + 1) * (n + 2) : Nat))

/-- Sine and cosine of `a × 2^-24` rev for `a` up to a quarter turn, in 2^-64 units, within 128 units. -/
def sinQuarter (a : Nat) : Int := let th := (a : Int) * halfPi / 2 ^ 22; taylor th 14 1 th
def cosQuarter (a : Nat) : Int := let th := (a : Int) * halfPi / 2 ^ 22; taylor th 14 0 (2 ^ 64)

/-- Sine of `a × 2^-24` rev in 2^-64 units, within 128 units, by quadrant. -/
def sinTurn (a : Nat) : Int :=
  let r := a % 2 ^ 22
  match a / 2 ^ 22 % 4 with
  | 0 => sinQuarter r
  | 1 => cosQuarter r
  | 2 => - sinQuarter r
  | _ => - cosQuarter r

/-- R196: a sine or cosine as the tile gives it, in Q1.23. `x` is the exact value in 2^-64 units within 128 units,
`raw` the open result; it is kept within 2^-22 of the exact value, and +1 is 1 − 2^-23. -/
def trigResult (x raw : Int) : DWord :=
  let lo := (x - 128).fdiv (2 ^ 41)
  let hi := -((-(x + 128)).fdiv (2 ^ 41))
  let v := max (hi - 2) (min (lo + 2) raw)
  BitVec.ofInt 24 (min (hiOf 24) (max (loOf 24) (if hi = 2 ^ 23 + 1 then hiOf 24 else v)))

end Sys2Proof.Machine
end

