-- ==== Sys2Proof/Machine/Regs.lean ====
section
/-!
DEFINITION. The registers of the spec: address, field layout, access code and reset value of each, from the register
tables of chapters 02 to 19; addresses from R471 and the base statements of each chapter. BAR0 registers carry the
model's key 0x1000_0000 + offset. `Fld.*` names each field.
-/
namespace Sys2Proof.Machine

/-- Access codes (R8, Table 0-4). -/
inductive Access where
  | ro | rw | wo | w1c | w1s | rc | rs | rwl
deriving DecidableEq, Repr

/-- One field of a register: bits, access code, reset value. -/
structure FieldDesc where
  hi : Nat
  lo : Nat
  acc : Access
  rst : Nat
deriving DecidableEq, Repr

/-- A register or an array of registers: first address, (count, stride) of each index, fields not listed are reserved. -/
structure RegDesc where
  base : Nat
  dims : List (Nat × Nat)
  fields : List FieldDesc
deriving DecidableEq, Repr

/-- A field of one register. -/
structure Fld where
  addr : Nat
  hi : Nat
  lo : Nat
deriving DecidableEq, Repr

/-- Registers of the block at 0x0. -/
def regsIdent : List RegDesc :=
  [
    -- DEV_ID (R103)
    ⟨0x0, [], [⟨7, 0, .ro, 177⟩, ⟨31, 16, .ro, 38408⟩]⟩,
    -- OWN_DELEG (R103)
    ⟨0x10, [], [⟨1, 0, .rw, 0⟩, ⟨5, 2, .rw, 0⟩, ⟨9, 6, .rw, 0⟩, ⟨11, 10, .rw, 0⟩]⟩,
    -- OWN_EPOCH (R103)
    ⟨0x14, [], [⟨31, 0, .ro, 0⟩]⟩,
    -- IMG_HASH (R103)
    ⟨0x20, [(8, 4)], [⟨31, 0, .ro, 0⟩]⟩,
    -- IMG_INFO (R103)
    ⟨0x40, [], [⟨31, 0, .ro, 0⟩]⟩,
    -- KEY_SLOTS (R103)
    ⟨0x50, [], [⟨7, 0, .ro, 0⟩]⟩,
    -- LINE_DEV (R103)
    ⟨0x54, [], [⟨17, 0, .ro, 0⟩]⟩
  ]

/-- Registers of the block at 0x100000. -/
def regsEsc : List RegDesc :=
  [
    -- ESC_CFG (R59)
    ⟨0x100000, [], [⟨15, 0, .rwl, 0⟩, ⟨17, 16, .rwl, 0⟩, ⟨23, 20, .rwl, 0⟩, ⟨28, 24, .rwl, 0⟩, ⟨29, 29, .w1s, 0⟩, ⟨31, 31, .w1s, 0⟩]⟩,
    -- ESC_SRC (R59)
    ⟨0x100004, [], [⟨2, 0, .rwl, 0⟩, ⟨3, 3, .ro, 1⟩, ⟨5, 4, .ro, 3⟩, ⟨6, 6, .rwl, 0⟩, ⟨7, 7, .rwl, 0⟩, ⟨15, 8, .rwl, 64⟩]⟩,
    -- ESC_STATUS (R59)
    ⟨0x100008, [], [⟨0, 0, .ro, 0⟩, ⟨1, 1, .ro, 0⟩, ⟨2, 2, .ro, 0⟩, ⟨3, 3, .ro, 0⟩, ⟨31, 16, .ro, 0⟩]⟩,
    -- ESC_FLAGS (R59)
    ⟨0x10000c, [], [⟨0, 0, .w1c, 0⟩, ⟨1, 1, .w1c, 0⟩, ⟨2, 2, .w1c, 0⟩, ⟨8, 8, .rs, 0⟩]⟩,
    -- ESC_MINOR (R59)
    ⟨0x100018, [], [⟨2, 0, .ro, 0⟩]⟩,
    -- ESC_SYNC_ERR (R59)
    ⟨0x10001c, [], [⟨31, 0, .ro, 0⟩]⟩,
    -- RMT_CFG (R59)
    ⟨0x100100, [], [⟨5, 0, .rwl, 25⟩]⟩,
    -- RMT_STATUS (R59)
    ⟨0x100104, [], [⟨9, 0, .ro, 0⟩, ⟨16, 16, .ro, 0⟩]⟩,
    -- RMT_LOG_CFG (R59)
    ⟨0x100108, [], [⟨0, 0, .rw, 0⟩, ⟨2, 1, .rw, 0⟩]⟩,
    -- RMT_LOG_GAP (R59)
    ⟨0x10010c, [], [⟨31, 0, .rc, 0⟩]⟩,
    -- RMT_FLAGS (R59)
    ⟨0x100110, [], [⟨0, 0, .w1c, 0⟩, ⟨1, 1, .w1c, 0⟩]⟩,
    -- ESC_MAJ_LO (R59)
    ⟨0x100010, [], [⟨31, 0, .ro, 0⟩]⟩
  ] ++
  [
    -- ESC_MAJ_HI (R59)
    ⟨0x100014, [], [⟨15, 0, .ro, 0⟩]⟩
  ]

/-- Registers of the block at 0x200000. -/
def regsPwm : List RegDesc :=
  [
    -- PWM_GRP_PER (R258)
    ⟨0x200000, [(16, 64)], [⟨15, 0, .rw, 0⟩]⟩,
    -- PWM_GRP_DT (R258)
    ⟨0x200004, [(16, 64)], [⟨10, 0, .rw, 0⟩, ⟨26, 16, .rw, 0⟩]⟩,
    -- PWM_GRP_UPD (R258)
    ⟨0x200008, [(16, 64)], [⟨0, 0, .w1s, 0⟩, ⟨1, 1, .ro, 0⟩, ⟨2, 2, .ro, 0⟩, ⟨4, 3, .ro, 0⟩]⟩,
    -- PWM_GRP_FLAGS (R258)
    ⟨0x20000c, [(16, 64)], [⟨0, 0, .w1c, 0⟩, ⟨1, 1, .w1c, 0⟩, ⟨2, 2, .w1c, 0⟩, ⟨3, 3, .w1c, 0⟩, ⟨4, 4, .w1c, 0⟩, ⟨5, 5, .w1c, 0⟩, ⟨6, 6, .w1c, 0⟩]⟩,
    -- PWM_GRP_RISE (R258)
    ⟨0x200010, [(16, 64), (6, 8)], [⟨15, 0, .rw, 0⟩, ⟨18, 16, .rw, 0⟩]⟩,
    -- PWM_GRP_FALL (R258)
    ⟨0x200014, [(16, 64), (6, 8)], [⟨15, 0, .rw, 0⟩, ⟨18, 16, .rw, 0⟩]⟩,
    -- PWM_LIVE_PER (R258)
    ⟨0x200400, [(16, 64)], [⟨15, 0, .ro, 0⟩]⟩,
    -- PWM_LIVE_DT (R258)
    ⟨0x200404, [(16, 64)], [⟨10, 0, .ro, 0⟩, ⟨26, 16, .ro, 0⟩]⟩,
    -- PWM_LIVE_RISE (R258)
    ⟨0x200410, [(16, 64), (6, 8)], [⟨15, 0, .ro, 0⟩, ⟨18, 16, .ro, 0⟩]⟩,
    -- PWM_LIVE_FALL (R258)
    ⟨0x200414, [(16, 64), (6, 8)], [⟨15, 0, .ro, 0⟩, ⟨18, 16, .ro, 0⟩]⟩,
    -- PWM_GCFG (R258)
    ⟨0x200800, [(16, 32)], [⟨5, 0, .rwl, 0⟩, ⟨8, 6, .rwl, 0⟩, ⟨9, 9, .rwl, 0⟩, ⟨10, 10, .rwl, 0⟩, ⟨11, 11, .rwl, 0⟩, ⟨12, 12, .rwl, 0⟩, ⟨23, 16, .rwl, 0⟩]⟩,
    -- PWM_GSAMP (R258)
    ⟨0x200804, [(16, 32)], [⟨15, 0, .rwl, 0⟩]⟩
  ] ++
  [
    -- PWM_GSHAPE (R258)
    ⟨0x200808, [(16, 32)], [⟨10, 0, .rwl, 0⟩, ⟨26, 16, .rwl, 0⟩]⟩,
    -- PWM_GCTL (R258)
    ⟨0x20080c, [(16, 32)], [⟨0, 0, .rw, 0⟩, ⟨1, 1, .ro, 0⟩, ⟨2, 2, .ro, 0⟩, ⟨3, 3, .w1s, 0⟩, ⟨23, 16, .rwl, 0⟩]⟩,
    -- PWM_TRIP_CFG (R258)
    ⟨0x200c00, [(8, 4)], [⟨0, 0, .rwl, 0⟩, ⟨1, 1, .rwl, 0⟩, ⟨11, 2, .rwl, 1⟩, ⟨16, 16, .ro, 0⟩, ⟨17, 17, .w1c, 0⟩]⟩,
    -- PWM_FORCE (R253)
    ⟨0x200d00, [], [⟨0, 0, .rs, 0⟩, ⟨1, 1, .rs, 0⟩, ⟨2, 2, .ro, 0⟩]⟩,
    -- SD_CLK_CFG (R258)
    ⟨0x201000, [(4, 4)], [⟨5, 0, .rwl, 0⟩, ⟨6, 6, .rwl, 0⟩]⟩,
    -- SD_CFG (R258)
    ⟨0x201010, [(16, 16)], [⟨1, 0, .rwl, 0⟩, ⟨3, 2, .rwl, 0⟩, ⟨6, 4, .rwl, 0⟩, ⟨7, 7, .rwl, 0⟩, ⟨11, 8, .rwl, 0⟩]⟩,
    -- SD_RESULT (R258)
    ⟨0x201014, [(16, 16)], [⟨15, 0, .ro, 0⟩, ⟨16, 16, .ro, 0⟩, ⟨17, 17, .ro, 0⟩]⟩,
    -- SD_FLAGS (R258)
    ⟨0x201018, [(16, 16)], [⟨0, 0, .w1c, 0⟩, ⟨1, 1, .w1c, 0⟩]⟩
  ]

/-- Registers of the block at 0x300000. -/
def regsFb : List RegDesc :=
  [
    -- FB_CFG (R282)
    ⟨0x300000, [(24, 64)], [⟨2, 0, .rwl, 0⟩, ⟨8, 3, .rwl, 0⟩, ⟨9, 9, .rwl, 0⟩, ⟨11, 10, .rwl, 0⟩, ⟨12, 12, .rwl, 0⟩, ⟨13, 13, .rwl, 0⟩, ⟨17, 14, .rwl, 0⟩, ⟨25, 18, .rwl, 1⟩]⟩,
    -- FB_TIME (R282)
    ⟨0x300004, [(24, 64)], [⟨15, 0, .rwl, 0⟩, ⟨31, 16, .rwl, 400⟩]⟩,
    -- FB_SER (R282)
    ⟨0x300408, [(8, 64)], [⟨5, 0, .rwl, 0⟩, ⟨8, 6, .rwl, 0⟩, ⟨11, 9, .rwl, 0⟩, ⟨12, 12, .rwl, 0⟩, ⟨13, 13, .rwl, 0⟩, ⟨21, 14, .rwl, 0⟩, ⟨27, 22, .rwl, 0⟩, ⟨31, 28, .rwl, 0⟩]⟩,
    -- FB_POS_LO (R282)
    ⟨0x300010, [(24, 64)], [⟨31, 0, .ro, 0⟩]⟩,
    -- FB_POS_HI (R282)
    ⟨0x300014, [(24, 64)], [⟨15, 0, .ro, 0⟩]⟩,
    -- FB_SPOS_LO (R282)
    ⟨0x300018, [(24, 64)], [⟨31, 0, .ro, 0⟩]⟩,
    -- FB_SPOS_HI (R282)
    ⟨0x30001c, [(24, 64)], [⟨15, 0, .ro, 0⟩]⟩,
    -- FB_IDX_LO (R282)
    ⟨0x300028, [(24, 64)], [⟨31, 0, .ro, 0⟩]⟩,
    -- FB_IDX_HI (R282)
    ⟨0x30002c, [(24, 64)], [⟨15, 0, .ro, 0⟩]⟩,
    -- FB_RAW_LO (R282)
    ⟨0x300030, [(24, 64)], [⟨31, 0, .ro, 0⟩]⟩,
    -- FB_RAW_HI (R282)
    ⟨0x300034, [(24, 64)], [⟨15, 0, .ro, 0⟩]⟩,
    -- FB_SPEED (R282)
    ⟨0x300020, [(24, 64)], [⟨31, 0, .ro, 0⟩]⟩
  ] ++
  [
    -- FB_STAT (R282)
    ⟨0x300024, [(24, 64)], [⟨0, 0, .ro, 0⟩, ⟨1, 1, .ro, 0⟩, ⟨2, 2, .ro, 0⟩, ⟨3, 3, .ro, 0⟩, ⟨4, 4, .ro, 0⟩, ⟨5, 5, .ro, 0⟩, ⟨6, 6, .ro, 0⟩, ⟨15, 8, .ro, 0⟩]⟩,
    -- FB_MOD_LO (R282)
    ⟨0x300038, [(24, 64)], [⟨31, 0, .rwl, 0⟩]⟩,
    -- FB_MOD_HI (R282)
    ⟨0x30003c, [(24, 64)], [⟨15, 0, .rwl, 0⟩]⟩,
    -- FB_FLAGS (R282)
    ⟨0x300600, [(24, 4)], [⟨0, 0, .w1c, 0⟩, ⟨1, 1, .w1c, 0⟩, ⟨4, 2, .ro, 0⟩, ⟨5, 5, .w1c, 0⟩, ⟨8, 8, .w1s, 0⟩]⟩,
    -- LAT_CFG (R282)
    ⟨0x300800, [(24, 32)], [⟨0, 0, .rwl, 0⟩, ⟨2, 1, .rwl, 0⟩, ⟨10, 3, .rwl, 0⟩, ⟨11, 11, .rwl, 0⟩, ⟨18, 12, .rwl, 0⟩]⟩,
    -- LAT_POS_LO (R282)
    ⟨0x300804, [(24, 32)], [⟨31, 0, .ro, 0⟩]⟩,
    -- LAT_POS_HI (R282)
    ⟨0x300808, [(24, 32)], [⟨15, 0, .ro, 0⟩]⟩,
    -- LAT_TIME (R282)
    ⟨0x30080c, [(24, 32)], [⟨15, 0, .ro, 0⟩, ⟨18, 16, .ro, 0⟩, ⟨19, 19, .ro, 0⟩]⟩,
    -- LAT_STAT (R282)
    ⟨0x300810, [(24, 32)], [⟨0, 0, .ro, 0⟩, ⟨1, 1, .w1c, 0⟩, ⟨31, 16, .rc, 0⟩]⟩,
    -- LAT_MAJ (R282)
    ⟨0x300814, [(24, 32)], [⟨31, 0, .ro, 0⟩]⟩,
    -- CMP_CFG (R282)
    ⟨0x301000, [(32, 32)], [⟨4, 0, .rwl, 0⟩, ⟨6, 5, .rwl, 0⟩, ⟨8, 7, .rwl, 0⟩, ⟨12, 9, .rwl, 0⟩]⟩,
    -- CMP_TGT_LO (R282)
    ⟨0x301004, [(32, 32)], [⟨31, 0, .rw, 0⟩]⟩
  ] ++
  [
    -- CMP_TGT_HI (R282)
    ⟨0x301008, [(32, 32)], [⟨15, 0, .rw, 0⟩, ⟨16, 16, .rw, 0⟩, ⟨17, 17, .ro, 0⟩]⟩,
    -- CMP_STAT (R282)
    ⟨0x30100c, [(32, 32)], [⟨2, 0, .ro, 0⟩, ⟨3, 3, .w1c, 0⟩, ⟨4, 4, .w1c, 0⟩, ⟨5, 5, .w1c, 0⟩]⟩,
    -- CMP_FIRE (R282)
    ⟨0x301010, [(32, 32)], [⟨15, 0, .ro, 0⟩, ⟨18, 16, .ro, 0⟩]⟩,
    -- CMP_FMAJ (R282)
    ⟨0x301014, [(32, 32)], [⟨31, 0, .ro, 0⟩]⟩,
    -- CMP_PIN_CFG (R282)
    ⟨0x301400, [(16, 4)], [⟨0, 0, .rwl, 0⟩, ⟨20, 1, .rwl, 0⟩, ⟨21, 21, .ro, 0⟩]⟩,
    -- STEP_CFG (R282)
    ⟨0x301800, [(16, 32)], [⟨0, 0, .rwl, 0⟩, ⟨1, 1, .rwl, 0⟩, ⟨2, 2, .rwl, 0⟩, ⟨13, 3, .rwl, 0⟩, ⟨24, 14, .rwl, 0⟩]⟩,
    -- STEP_CMD (R282)
    ⟨0x301804, [(16, 32)], [⟨15, 0, .rw, 0⟩]⟩,
    -- STEP_INT (R282)
    ⟨0x301808, [(16, 32)], [⟨23, 0, .rw, 0⟩]⟩,
    -- STEP_PH (R282)
    ⟨0x30180c, [(16, 32)], [⟨15, 0, .rw, 0⟩]⟩,
    -- STEP_UPD (R282)
    ⟨0x301810, [(16, 32)], [⟨0, 0, .w1s, 0⟩, ⟨1, 1, .ro, 0⟩]⟩,
    -- STEP_POS_LO (R282)
    ⟨0x301814, [(16, 32)], [⟨31, 0, .ro, 0⟩]⟩,
    -- STEP_POS_HI (R282)
    ⟨0x301818, [(16, 32)], [⟨15, 0, .ro, 0⟩]⟩
  ] ++
  [
    -- STEP_FLAGS (R282)
    ⟨0x30181c, [(16, 32)], [⟨0, 0, .w1c, 0⟩, ⟨1, 1, .w1c, 0⟩, ⟨31, 16, .rc, 0⟩]⟩
  ]

/-- Registers of the block at 0x400000. -/
def regsStp : List RegDesc :=
  [
    -- STP_CFG (R298)
    ⟨0x400000, [(12, 64)], [⟨0, 0, .rwl, 0⟩, ⟨4, 1, .rwl, 0⟩, ⟨6, 5, .rwl, 0⟩, ⟨7, 7, .rwl, 0⟩, ⟨11, 8, .rwl, 0⟩]⟩,
    -- STP_RES (R298)
    ⟨0x400004, [(12, 64)], [⟨23, 0, .rwl, 1000⟩, ⟨31, 24, .rwl, 32⟩]⟩,
    -- STP_COMPAT (R298)
    ⟨0x400008, [(12, 64)], [⟨15, 0, .rwl, 0⟩, ⟨31, 16, .rwl, 0⟩]⟩,
    -- STP_STAT (R298)
    ⟨0x40000c, [(12, 64)], [⟨0, 0, .ro, 0⟩, ⟨4, 1, .ro, 0⟩, ⟨5, 5, .ro, 0⟩, ⟨31, 16, .rc, 0⟩]⟩,
    -- STP_ANGLE (R298)
    ⟨0x400018, [(12, 64)], [⟨9, 0, .ro, 0⟩]⟩,
    -- STP_FLAGS (R298)
    ⟨0x40001c, [(12, 64)], [⟨0, 0, .w1c, 0⟩]⟩,
    -- STP_USTEP_LO (R298)
    ⟨0x400010, [(12, 64)], [⟨31, 0, .ro, 0⟩]⟩,
    -- STP_USTEP_HI (R298)
    ⟨0x400014, [(12, 64)], [⟨15, 0, .ro, 0⟩]⟩,
    -- STP_TBL (R298)
    ⟨0x401000, [(4, 1024), (256, 4)], [⟨9, 0, .ro, 0⟩]⟩
  ]

/-- Registers of the block at 0x500000. -/
def regsDl : List RegDesc :=
  [
    -- DL_CFG (R238)
    ⟨0x500000, [(4, 4096)], [⟨0, 0, .rwl, 0⟩, ⟨4, 1, .rwl, 0⟩, ⟨15, 8, .rwl, 0⟩, ⟨31, 16, .rwl, 0⟩]⟩,
    -- DL_TIMING (R238)
    ⟨0x500004, [(4, 4096)], [⟨15, 0, .rwl, 0⟩, ⟨31, 16, .rwl, 0⟩]⟩,
    -- DL_SAMPLE (R238)
    ⟨0x500008, [(4, 4096)], [⟨15, 0, .rwl, 0⟩, ⟨18, 16, .rwl, 4⟩]⟩,
    -- DL_STATUS (R238)
    ⟨0x50000c, [(4, 4096)], [⟨0, 0, .ro, 0⟩, ⟨1, 1, .ro, 0⟩, ⟨2, 2, .ro, 0⟩, ⟨7, 4, .ro, 0⟩, ⟨27, 16, .ro, 0⟩]⟩,
    -- DL_RING (R238)
    ⟨0x500010, [(4, 4096)], [⟨15, 0, .ro, 0⟩, ⟨31, 16, .rc, 0⟩]⟩,
    -- DL_FLAGS (R238)
    ⟨0x500014, [(4, 4096)], [⟨0, 0, .w1c, 0⟩, ⟨1, 1, .w1c, 0⟩, ⟨2, 2, .w1c, 0⟩, ⟨3, 3, .w1c, 0⟩, ⟨4, 4, .w1c, 0⟩, ⟨5, 5, .w1c, 0⟩]⟩,
    -- DL_CRC_CNT (R238)
    ⟨0x500018, [(4, 4096)], [⟨15, 0, .rc, 0⟩, ⟨31, 16, .rc, 0⟩]⟩,
    -- DL_POS_STATE (R238)
    ⟨0x500100, [(4, 4096), (12, 16)], [⟨2, 0, .ro, 0⟩, ⟨4, 3, .ro, 0⟩, ⟨5, 5, .ro, 0⟩, ⟨6, 6, .ro, 0⟩, ⟨9, 7, .ro, 0⟩, ⟨12, 10, .ro, 0⟩]⟩,
    -- DL_POS_EDGE (R238)
    ⟨0x500104, [(4, 4096), (12, 16)], [⟨15, 0, .rc, 0⟩, ⟨17, 16, .ro, 0⟩]⟩,
    -- DL_POS_ID (R238)
    ⟨0x500108, [(4, 4096), (12, 16)], [⟨15, 0, .ro, 0⟩, ⟨31, 16, .ro, 0⟩]⟩,
    -- DL_POS_ARR (R238)
    ⟨0x50010c, [(4, 4096), (12, 16)], [⟨15, 0, .ro, 0⟩, ⟨16, 16, .ro, 0⟩]⟩
  ]

/-- Registers of the block at 0x600000. -/
def regsCl : List RegDesc :=
  [
    -- CL_CFG (R374)
    ⟨0x600000, [], [⟨0, 0, .rwl, 0⟩, ⟨3, 1, .ro, 0⟩, ⟨17, 8, .rwl, 200⟩, ⟨25, 18, .rwl, 0⟩]⟩,
    -- CL_WIN (R374)
    ⟨0x600004, [], [⟨15, 0, .rwl, 0⟩, ⟨31, 16, .rwl, 0⟩]⟩,
    -- CL_STATUS (R374)
    ⟨0x600008, [], [⟨2, 0, .ro, 0⟩, ⟨3, 3, .ro, 0⟩, ⟨6, 4, .ro, 0⟩, ⟨7, 7, .ro, 0⟩, ⟨15, 8, .ro, 0⟩, ⟨23, 16, .ro, 0⟩]⟩,
    -- CL_DELAY (R374)
    ⟨0x60000c, [], [⟨15, 0, .ro, 0⟩, ⟨31, 16, .ro, 0⟩]⟩,
    -- CL_RING (R374)
    ⟨0x600010, [], [⟨15, 0, .ro, 0⟩, ⟨23, 16, .ro, 0⟩]⟩,
    -- CL_FLAGS (R374)
    ⟨0x600014, [], [⟨0, 0, .w1c, 0⟩, ⟨1, 1, .w1c, 0⟩, ⟨2, 2, .w1c, 0⟩, ⟨3, 3, .w1c, 0⟩, ⟨4, 4, .w1c, 0⟩, ⟨5, 5, .w1c, 0⟩, ⟨6, 6, .w1c, 0⟩]⟩,
    -- CL_CNT (R374)
    ⟨0x600018, [], [⟨7, 0, .rc, 0⟩, ⟨15, 8, .rc, 0⟩, ⟨31, 16, .rc, 0⟩]⟩
  ]

/-- Registers of the block at 0x700000. -/
def regsEth : List RegDesc :=
  [
    -- TIME_CFG (R373)
    ⟨0x700000, [], [⟨19, 0, .rw, 500⟩, ⟨29, 20, .rw, 100⟩]⟩,
    -- TIME_STATE (R373)
    ⟨0x700004, [], [⟨1, 0, .ro, 0⟩, ⟨2, 2, .ro, 0⟩, ⟨7, 3, .ro, 0⟩, ⟨9, 8, .ro, 0⟩, ⟨31, 16, .ro, 0⟩]⟩,
    -- TIME_NOW_SEC_LO (R373)
    ⟨0x700008, [], [⟨31, 0, .ro, 0⟩]⟩,
    -- TIME_NOW_SEC_HI (R373)
    ⟨0x70000c, [], [⟨15, 0, .ro, 0⟩]⟩,
    -- TIME_NOW_NS (R373)
    ⟨0x700010, [], [⟨29, 0, .ro, 0⟩]⟩,
    -- TIME_OFFSET (R373)
    ⟨0x700014, [], [⟨31, 0, .ro, 0⟩]⟩,
    -- TIME_RATE (R373)
    ⟨0x700018, [], [⟨31, 0, .ro, 0⟩]⟩,
    -- TIME_FLAGS (R373)
    ⟨0x70001c, [], [⟨0, 0, .w1c, 0⟩, ⟨1, 1, .w1c, 0⟩, ⟨2, 2, .w1c, 0⟩, ⟨3, 3, .w1c, 0⟩]⟩,
    -- ETH_CFG (R373)
    ⟨0x701000, [(4, 1024)], [⟨0, 0, .rw, 0⟩, ⟨2, 1, .rw, 2⟩]⟩,
    -- ETH_LAT (R373)
    ⟨0x701004, [(4, 1024)], [⟨15, 0, .rw, 0⟩, ⟨31, 16, .rw, 0⟩]⟩,
    -- ETH_ASYM (R373)
    ⟨0x701008, [(4, 1024)], [⟨31, 0, .rw, 0⟩]⟩,
    -- ETH_TXTS_STAT (R373)
    ⟨0x701010, [(4, 1024)], [⟨4, 0, .ro, 0⟩, ⟨8, 8, .w1c, 0⟩, ⟨31, 16, .rc, 0⟩]⟩
  ] ++
  [
    -- ETH_TXTS_ID (R373)
    ⟨0x701014, [(4, 1024)], [⟨15, 0, .ro, 0⟩, ⟨16, 16, .ro, 0⟩]⟩,
    -- ETH_TXTS_SEC_LO (R373)
    ⟨0x701018, [(4, 1024)], [⟨31, 0, .ro, 0⟩]⟩,
    -- ETH_TXTS_SEC_HI (R373)
    ⟨0x70101c, [(4, 1024)], [⟨15, 0, .ro, 0⟩]⟩,
    -- ETH_TXTS_NS (R373)
    ⟨0x701020, [(4, 1024)], [⟨29, 0, .ro, 0⟩]⟩,
    -- ETH_RX_OVF (R373)
    ⟨0x701024, [(4, 1024)], [⟨15, 0, .rc, 0⟩, ⟨31, 16, .rc, 0⟩]⟩,
    -- ETH_GCL_CYCLE (R373)
    ⟨0x701030, [(4, 1024)], [⟨31, 0, .rw, 0⟩]⟩,
    -- ETH_GCL_BASE_NS (R373)
    ⟨0x701034, [(4, 1024)], [⟨29, 0, .rw, 0⟩]⟩,
    -- ETH_GCL_BASE_SEC_LO (R373)
    ⟨0x701038, [(4, 1024)], [⟨31, 0, .rw, 0⟩]⟩,
    -- ETH_GCL_BASE_SEC_HI (R373)
    ⟨0x70103c, [(4, 1024)], [⟨15, 0, .rw, 0⟩]⟩,
    -- ETH_GCL_LEN (R373)
    ⟨0x701040, [(4, 1024)], [⟨5, 0, .rw, 0⟩]⟩,
    -- ETH_Q (R373)
    ⟨0x701080, [(4, 1024), (8, 4)], [⟨0, 0, .rw, 0⟩, ⟨1, 1, .w1c, 0⟩, ⟨2, 2, .w1c, 0⟩, ⟨31, 16, .rc, 0⟩]⟩,
    -- ETH_GCL (R373)
    ⟨0x701100, [(4, 1024), (32, 4)], [⟨7, 0, .rw, 0⟩, ⟨31, 8, .rw, 0⟩]⟩
  ]

/-- Registers of the block at 0x800000. -/
def regsCan : List RegDesc :=
  [
    -- CAN_CTRL (R394)
    ⟨0x800000, [(2, 32768)], [⟨0, 0, .rw, 1⟩, ⟨1, 1, .ro, 1⟩, ⟨2, 2, .rw, 0⟩, ⟨3, 3, .rw, 0⟩, ⟨4, 4, .rw, 0⟩, ⟨5, 5, .rw, 0⟩, ⟨6, 6, .rw, 0⟩, ⟨7, 7, .rw, 0⟩]⟩,
    -- CAN_NBT (R394)
    ⟨0x800004, [(2, 32768)], [⟨7, 0, .rw, 0⟩, ⟨15, 8, .rw, 0⟩, ⟨22, 16, .rw, 0⟩, ⟨29, 23, .rw, 0⟩]⟩,
    -- CAN_DBT (R394)
    ⟨0x800008, [(2, 32768)], [⟨4, 0, .rw, 0⟩, ⟨9, 5, .rw, 0⟩, ⟨13, 10, .rw, 0⟩, ⟨17, 14, .rw, 0⟩, ⟨24, 18, .rw, 0⟩]⟩,
    -- CAN_ERR (R394)
    ⟨0x80000c, [(2, 32768)], [⟨7, 0, .ro, 0⟩, ⟨15, 8, .ro, 0⟩, ⟨17, 16, .ro, 0⟩, ⟨18, 18, .ro, 0⟩, ⟨21, 19, .ro, 0⟩, ⟨31, 24, .ro, 0⟩]⟩,
    -- CAN_LIMITS (R394)
    ⟨0x800010, [(2, 32768)], [⟨7, 0, .rw, 16⟩, ⟨15, 8, .rw, 0⟩, ⟨23, 16, .rw, 4⟩]⟩,
    -- CAN_FLAGS (R394)
    ⟨0x800014, [(2, 32768)], [⟨0, 0, .w1c, 0⟩, ⟨1, 1, .w1c, 0⟩, ⟨2, 2, .w1c, 0⟩, ⟨3, 3, .w1c, 0⟩, ⟨4, 4, .w1c, 0⟩, ⟨5, 5, .w1c, 0⟩, ⟨6, 6, .w1c, 0⟩]⟩,
    -- CAN_CNT (R394)
    ⟨0x800020, [(2, 32768)], [⟨15, 0, .rc, 0⟩, ⟨31, 16, .rc, 0⟩]⟩,
    -- CAN_IR (R394)
    ⟨0x800018, [(2, 32768)], [⟨0, 0, .w1c, 0⟩, ⟨4, 1, .w1c, 0⟩, ⟨5, 5, .w1c, 0⟩, ⟨6, 6, .w1c, 0⟩, ⟨7, 7, .w1c, 0⟩, ⟨8, 8, .w1c, 0⟩]⟩,
    -- CAN_IE (R394)
    ⟨0x80001c, [(2, 32768)], [⟨0, 0, .rw, 0⟩, ⟨4, 1, .rw, 0⟩, ⟨5, 5, .rw, 0⟩, ⟨6, 6, .rw, 0⟩, ⟨7, 7, .rw, 0⟩, ⟨8, 8, .rw, 0⟩]⟩,
    -- CAN_RXF (R394)
    ⟨0x800040, [(2, 32768)], [⟨6, 0, .ro, 0⟩, ⟨8, 8, .w1s, 0⟩]⟩,
    -- CAN_HPSTAT (R394)
    ⟨0x800044, [(2, 32768)], [⟨3, 0, .w1c, 0⟩]⟩,
    -- CAN_TXREQ (R394)
    ⟨0x800048, [(2, 32768)], [⟨31, 0, .w1s, 0⟩]⟩
  ] ++
  [
    -- CAN_TXCAN (R394)
    ⟨0x80004c, [(2, 32768)], [⟨31, 0, .w1s, 0⟩]⟩,
    -- CAN_TXDONE (R394)
    ⟨0x800050, [(2, 32768)], [⟨31, 0, .w1c, 0⟩]⟩,
    -- CAN_TXCXL (R394)
    ⟨0x800054, [(2, 32768)], [⟨31, 0, .w1c, 0⟩]⟩,
    -- CAN_RXE (R394)
    ⟨0x800100, [(2, 32768), (21, 4)], [⟨31, 0, .ro, 0⟩]⟩,
    -- CAN_HPE (R394)
    ⟨0x800200, [(2, 32768), (4, 128), (21, 4)], [⟨31, 0, .ro, 0⟩]⟩,
    -- FLT_CFG (R394)
    ⟨0x804000, [(2, 32768), (128, 16)], [⟨0, 0, .rw, 0⟩, ⟨1, 1, .rw, 0⟩, ⟨2, 2, .rw, 0⟩, ⟨4, 3, .rw, 0⟩, ⟨6, 5, .rw, 0⟩, ⟨12, 7, .rw, 0⟩, ⟨13, 13, .rw, 0⟩]⟩,
    -- FLT_V1 (R394)
    ⟨0x804004, [(2, 32768), (128, 16)], [⟨28, 0, .rw, 0⟩]⟩,
    -- FLT_V2 (R394)
    ⟨0x804008, [(2, 32768), (128, 16)], [⟨28, 0, .rw, 0⟩]⟩,
    -- CAN_TXE_ID (R394)
    ⟨0x801000, [(2, 32768), (32, 128)], [⟨31, 0, .rw, 0⟩]⟩,
    -- CAN_TXE_FMT (R394)
    ⟨0x801004, [(2, 32768), (32, 128)], [⟨5, 0, .rw, 0⟩]⟩,
    -- CAN_TXE_STAMP (R394)
    ⟨0x801008, [(2, 32768), (32, 128), (3, 4)], [⟨31, 0, .ro, 0⟩]⟩,
    -- CAN_TXE_DATA (R394)
    ⟨0x801014, [(2, 32768), (32, 128), (16, 4)], [⟨31, 0, .rw, 0⟩]⟩
  ]

/-- Registers of the block at 0x900000. -/
def regsFio : List RegDesc :=
  [
    -- FI_CFG (R407)
    ⟨0x900000, [], [⟨3, 0, .rwl, 0⟩, ⟨15, 8, .rwl, 0⟩]⟩,
    -- FI_STATE (R407)
    ⟨0x900004, [], [⟨31, 0, .ro, 0⟩]⟩,
    -- FI_RAW (R407)
    ⟨0x900008, [], [⟨31, 0, .ro, 0⟩]⟩,
    -- FO_CMD (R407)
    ⟨0x900010, [], [⟨31, 0, .rw, 0⟩]⟩,
    -- FO_READ (R407)
    ⟨0x900014, [], [⟨31, 0, .ro, 0⟩]⟩,
    -- FO_FAULT (R407)
    ⟨0x900018, [], [⟨31, 0, .w1c, 0⟩]⟩,
    -- FO_GRP_CFG (R407)
    ⟨0x900040, [(4, 16)], [⟨0, 0, .rw, 0⟩, ⟨2, 1, .rwl, 0⟩, ⟨15, 8, .rwl, 0⟩, ⟨23, 16, .rwl, 10⟩]⟩,
    -- FO_GRP_WD (R407)
    ⟨0x900044, [(4, 16)], [⟨7, 0, .wo, 0⟩, ⟨8, 8, .w1s, 0⟩, ⟨9, 9, .ro, 0⟩, ⟨10, 10, .ro, 0⟩, ⟨11, 11, .w1c, 0⟩]⟩,
    -- FI_FLT (R407)
    ⟨0x900100, [(32, 4)], [⟨7, 0, .rwl, 10⟩]⟩,
    -- FIELD_SUPPLY (R407)
    ⟨0x900080, [], [⟨9, 0, .ro, 0⟩, ⟨20, 16, .ro, 0⟩, ⟨25, 21, .ro, 0⟩, ⟨30, 26, .ro, 0⟩]⟩,
    -- FIELD_HOLD_CFG (R407)
    ⟨0x900084, [], [⟨10, 0, .rwl, 1000⟩]⟩
  ]

/-- Registers of the block at 0xa00000. -/
def regsRec : List RegDesc :=
  [
    -- REC_STATUS (R428)
    ⟨0xa00000, [], [⟨0, 0, .ro, 0⟩, ⟨1, 1, .ro, 0⟩, ⟨2, 2, .ro, 0⟩, ⟨3, 3, .ro, 0⟩, ⟨15, 8, .ro, 0⟩]⟩,
    -- REC_LOST (R428)
    ⟨0xa0000c, [], [⟨15, 0, .rc, 0⟩, ⟨31, 16, .rc, 0⟩]⟩,
    -- REC_FLAGS (R428)
    ⟨0xa00010, [], [⟨0, 0, .w1c, 0⟩, ⟨1, 1, .w1c, 0⟩, ⟨2, 2, .rs, 0⟩]⟩,
    -- DUMP_LEN (R428)
    ⟨0xa00014, [], [⟨31, 0, .ro, 0⟩]⟩,
    -- OWL_STATUS (R428)
    ⟨0xa00100, [], [⟨0, 0, .ro, 0⟩, ⟨1, 1, .ro, 0⟩, ⟨3, 2, .ro, 0⟩, ⟨10, 4, .ro, 0⟩, ⟨31, 16, .ro, 0⟩]⟩,
    -- OWL_WRPOS (R428)
    ⟨0xa00104, [], [⟨25, 0, .ro, 0⟩]⟩,
    -- OWL_PORT_DROP (R428)
    ⟨0xa00108, [], [⟨31, 0, .rc, 0⟩]⟩,
    -- REC_NEWEST (R428)
    ⟨0xa00004, [], [⟨31, 0, .ro, 0⟩]⟩,
    -- REC_OLDEST (R428)
    ⟨0xa00008, [], [⟨31, 0, .ro, 0⟩]⟩
  ]

/-- Registers of the block at 0xb00000. -/
def regsPwr : List RegDesc :=
  [
    -- PWR_DOMAINS (R452)
    ⟨0xb00000, [], [⟨13, 0, .ro, 16383⟩]⟩,
    -- PAD_HOLD (R452)
    ⟨0xb00014, [], [⟨0, 0, .w1s, 0⟩, ⟨1, 1, .w1s, 0⟩, ⟨2, 2, .ro, 0⟩, ⟨11, 8, .ro, 0⟩]⟩,
    -- VCORE_STATUS (R452)
    ⟨0xb00018, [], [⟨9, 0, .ro, 750⟩, ⟨19, 10, .ro, 0⟩, ⟨20, 20, .ro, 0⟩, ⟨21, 21, .ro, 0⟩]⟩,
    -- TEMP_MAX (R452)
    ⟨0xb0001c, [], [⟨15, 0, .ro, 0⟩, ⟨31, 16, .rc, 0⟩]⟩,
    -- POST_RESULT (R452)
    ⟨0xb00020, [], [⟨9, 0, .ro, 0⟩, ⟨10, 10, .ro, 0⟩]⟩,
    -- PWR_FLAGS (R452)
    ⟨0xb00024, [], [⟨0, 0, .w1c, 0⟩, ⟨1, 1, .w1c, 0⟩, ⟨2, 2, .w1c, 0⟩, ⟨3, 3, .rs, 0⟩, ⟨4, 4, .ro, 0⟩]⟩,
    -- WAKE_EN (R452)
    ⟨0xb00004, [], [⟨4, 0, .rw, 0⟩]⟩,
    -- WAKE_SRC (R452)
    ⟨0xb00008, [], [⟨4, 0, .w1c, 0⟩]⟩,
    -- WAKE_FI_MASK (R452)
    ⟨0xb0000c, [], [⟨31, 0, .rw, 0⟩]⟩,
    -- AON_TIMER (R452)
    ⟨0xb00010, [], [⟨31, 0, .rw, 0⟩]⟩
  ]

/-- Registers of the block at 0xc00000. -/
def regsTile : List RegDesc :=
  [
    -- TILE_STATUS (R207)
    ⟨0xc00000, [(16, 64)], [⟨0, 0, .ro, 0⟩, ⟨1, 1, .ro, 0⟩]⟩,
    -- TILE_USE (R207)
    ⟨0xc00004, [(16, 64)], [⟨19, 0, .ro, 0⟩]⟩,
    -- TILE_PEAK (R207)
    ⟨0xc00008, [(16, 64)], [⟨19, 0, .rc, 0⟩]⟩,
    -- TILE_ENTRY (R207)
    ⟨0xc0000c, [(16, 64)], [⟨2, 0, .rc, 0⟩]⟩,
    -- TILE_SBX (R207)
    ⟨0xc00010, [(16, 64)], [⟨0, 0, .w1c, 0⟩, ⟨3, 1, .ro, 0⟩, ⟨9, 4, .ro, 0⟩, ⟨31, 16, .rc, 0⟩]⟩,
    -- CLAW_BIND (R207)
    ⟨0xc04000, [(64, 16)], [⟨3, 0, .ro, 0⟩, ⟨4, 4, .ro, 0⟩, ⟨5, 5, .ro, 0⟩, ⟨10, 8, .ro, 0⟩]⟩,
    -- CLAW_DECL (R207)
    ⟨0xc04004, [(64, 16)], [⟨19, 0, .ro, 0⟩]⟩,
    -- CLAW_LAST (R207)
    ⟨0xc04008, [(64, 16)], [⟨19, 0, .ro, 0⟩]⟩,
    -- CLAW_PEAK (R207)
    ⟨0xc0400c, [(64, 16)], [⟨19, 0, .rc, 0⟩]⟩,
    -- AX_STATE (R185)
    ⟨0xc08000, [(96, 32)], [⟨2, 0, .ro, 0⟩, ⟨4, 3, .ro, 0⟩, ⟨7, 5, .ro, 0⟩, ⟨15, 8, .ro, 0⟩, ⟨23, 16, .ro, 0⟩]⟩,
    -- AX_FLAGS (R185)
    ⟨0xc08004, [(96, 32)], [⟨0, 0, .w1c, 0⟩, ⟨1, 1, .w1c, 0⟩, ⟨2, 2, .w1c, 0⟩, ⟨3, 3, .w1c, 0⟩, ⟨4, 4, .ro, 0⟩]⟩,
    -- AX_SAT (R185)
    ⟨0xc08008, [(96, 32)], [⟨0, 0, .w1c, 0⟩, ⟨1, 1, .w1c, 0⟩, ⟨2, 2, .w1c, 0⟩, ⟨3, 3, .w1c, 0⟩, ⟨4, 4, .w1c, 0⟩, ⟨5, 5, .w1c, 0⟩, ⟨6, 6, .w1c, 0⟩, ⟨7, 7, .w1c, 0⟩]⟩
  ] ++
  [
    -- AX_FERR (R185)
    ⟨0xc0800c, [(96, 32)], [⟨31, 0, .ro, 0⟩]⟩,
    -- AX_AGE (R185)
    ⟨0xc08010, [(96, 32)], [⟨2, 0, .ro, 0⟩, ⟨10, 8, .rc, 0⟩]⟩,
    -- AX_MAJ (R185)
    ⟨0xc08014, [(96, 32)], [⟨31, 0, .ro, 0⟩]⟩
  ]

/-- Registers of the block at 0xd00000. -/
def regsLynx : List RegDesc :=
  [
    -- LYNX_STATUS (R155)
    ⟨0xd00000, [], [⟨0, 0, .ro, 0⟩, ⟨1, 1, .ro, 0⟩, ⟨2, 2, .ro, 0⟩, ⟨12, 8, .ro, 0⟩]⟩,
    -- LYNX_FRAME (R155)
    ⟨0xd00004, [], [⟨31, 0, .ro, 0⟩]⟩,
    -- LYNX_FLAGS (R155)
    ⟨0xd00008, [], [⟨0, 0, .w1c, 0⟩, ⟨1, 1, .w1c, 0⟩, ⟨2, 2, .w1c, 0⟩]⟩,
    -- LYNX_SCALE (R155)
    ⟨0xd00010, [(8, 4)], [⟨15, 0, .ro, 0⟩, ⟨18, 16, .ro, 0⟩]⟩,
    -- LYNX_CLR (R155)
    ⟨0xd00030, [(8, 4)], [⟨31, 0, .ro, 4294967295⟩]⟩
  ]

/-- Registers of the block at 0xe00000. -/
def regsSafe : List RegDesc :=
  [
    -- SAFE_CH_STATUS (R327)
    ⟨0xe00000, [(2, 32)], [⟨1, 0, .ro, 0⟩, ⟨2, 2, .ro, 0⟩, ⟨3, 3, .ro, 0⟩, ⟨15, 8, .ro, 0⟩]⟩,
    -- SAFE_CH_SIG (R327)
    ⟨0xe00004, [(2, 32)], [⟨31, 0, .ro, 0⟩]⟩,
    -- SAFE_CH_FRAME (R327)
    ⟨0xe00008, [(2, 32)], [⟨31, 0, .ro, 0⟩]⟩,
    -- SAFE_CH_IN (R327)
    ⟨0xe0000c, [(2, 32)], [⟨7, 0, .ro, 0⟩, ⟨15, 8, .ro, 0⟩, ⟨23, 16, .ro, 0⟩, ⟨31, 24, .ro, 0⟩]⟩,
    -- SAFE_GRP (R327)
    ⟨0xe00040, [(9, 4)], [⟨1, 0, .ro, 0⟩, ⟨3, 2, .ro, 0⟩, ⟨5, 4, .ro, 0⟩, ⟨6, 6, .ro, 0⟩, ⟨7, 7, .ro, 0⟩, ⟨15, 8, .ro, 0⟩, ⟨17, 16, .ro, 0⟩]⟩,
    -- SAFE_CONN (R327)
    ⟨0xe00100, [(32, 4)], [⟨0, 0, .ro, 0⟩, ⟨1, 1, .ro, 0⟩, ⟨15, 8, .rc, 0⟩, ⟨31, 16, .ro, 0⟩]⟩,
    -- SAFE_FLAGS (R327)
    ⟨0xe000c0, [], [⟨0, 0, .w1c, 0⟩, ⟨1, 1, .w1c, 0⟩, ⟨2, 2, .w1c, 0⟩, ⟨3, 3, .w1c, 0⟩, ⟨4, 4, .w1c, 0⟩, ⟨5, 5, .w1c, 0⟩]⟩,
    -- SEP_GRP_STATUS (R345)
    ⟨0xe00200, [(8, 16)], [⟨1, 0, .ro, 0⟩, ⟨3, 2, .ro, 0⟩, ⟨5, 4, .ro, 0⟩, ⟨6, 6, .ro, 0⟩, ⟨7, 7, .ro, 0⟩, ⟨15, 8, .ro, 255⟩]⟩,
    -- SEP_GRP_MARGIN (R345)
    ⟨0xe00204, [(8, 16)], [⟨15, 0, .ro, 32767⟩, ⟨31, 16, .ro, 32767⟩]⟩,
    -- SEP_GRP_SP (R345)
    ⟨0xe00208, [(8, 16)], [⟨15, 0, .ro, 0⟩, ⟨31, 16, .ro, 0⟩]⟩,
    -- SEP_GRP_VCART (R345)
    ⟨0xe0020c, [(8, 16)], [⟨15, 0, .ro, 0⟩, ⟨31, 16, .ro, 0⟩]⟩,
    -- SEP_SRC (R345)
    ⟨0xe00280, [(16, 4)], [⟨0, 0, .ro, 0⟩, ⟨1, 1, .ro, 0⟩, ⟨3, 2, .ro, 0⟩, ⟨31, 16, .ro, 0⟩]⟩
  ] ++
  [
    -- SEP_FLAGS (R345)
    ⟨0xe000c4, [], [⟨0, 0, .w1c, 0⟩, ⟨1, 1, .w1c, 0⟩, ⟨2, 2, .w1c, 0⟩, ⟨3, 3, .w1c, 0⟩, ⟨4, 4, .w1c, 0⟩]⟩
  ]

/-- Registers of the block at 0x10000000. -/
def regsBar0 : List RegDesc :=
  [
    -- HOST_STATUS (R72)
    ⟨0x10000000, [], [⟨3, 0, .ro, 1⟩, ⟨23, 8, .ro, 770⟩]⟩,
    -- HOST_READY_EST (R72)
    ⟨0x10000004, [], [⟨15, 0, .ro, 65535⟩]⟩,
    -- SES_REQ_BASE_LO (R70)
    ⟨0x10001000, [(32, 64)], [⟨31, 12, .rw, 0⟩]⟩,
    -- SES_REQ_BASE_HI (R70)
    ⟨0x10001004, [(32, 64)], [⟨31, 0, .rw, 0⟩]⟩,
    -- SES_RSP_BASE_LO (R70)
    ⟨0x10001008, [(32, 64)], [⟨31, 12, .rw, 0⟩]⟩,
    -- SES_RSP_BASE_HI (R70)
    ⟨0x1000100c, [(32, 64)], [⟨31, 0, .rw, 0⟩]⟩,
    -- SES_REQ_TAIL (R70)
    ⟨0x10001010, [(32, 64)], [⟨15, 0, .rw, 0⟩]⟩,
    -- SES_REQ_HEAD (R70)
    ⟨0x10001014, [(32, 64)], [⟨15, 0, .ro, 0⟩]⟩,
    -- SES_RSP_TAIL (R70)
    ⟨0x10001018, [(32, 64)], [⟨15, 0, .ro, 0⟩]⟩,
    -- SES_RSP_HEAD (R70)
    ⟨0x1000101c, [(32, 64)], [⟨15, 0, .rw, 0⟩]⟩,
    -- SES_CTRL (R72)
    ⟨0x10001020, [(32, 64)], [⟨0, 0, .rw, 0⟩]⟩,
    -- SES_STATE (R77)
    ⟨0x10001024, [(32, 64)], [⟨0, 0, .ro, 0⟩, ⟨31, 16, .ro, 0⟩]⟩
  ] ++
  [
    -- SES_XFAIL (R71)
    ⟨0x10001028, [(32, 64)], [⟨15, 0, .rc, 0⟩, ⟨16, 16, .w1c, 0⟩]⟩
  ]

/-- The registers of the block that holds address `a`; blocks are 1 MiB (R471). -/
def regsOf (a : Nat) : List RegDesc :=
  match a / 0x100000 with
  | 0 => regsIdent
  | 1 => regsEsc
  | 2 => regsPwm
  | 3 => regsFb
  | 4 => regsStp
  | 5 => regsDl
  | 6 => regsCl
  | 7 => regsEth
  | 8 => regsCan
  | 9 => regsFio
  | 10 => regsRec
  | 11 => regsPwr
  | 12 => regsTile
  | 13 => regsLynx
  | 14 => regsSafe
  | 256 => regsBar0
  | _ => []

/-- Does an offset from a register's first address name one of its instances? -/
def inDims : List (Nat × Nat) → Nat → Bool
  | [], o => o == 0
  | [(c, s)], o => o % s == 0 && o / s < c
  | (c, s) :: r, o => o / s < c && inDims r (o % s)

/-- The descriptor of address `a`, none for an unassigned address. -/
def regDesc (a : Nat) : Option RegDesc := (regsOf a).find? (fun d => d.base ≤ a && inDims d.dims (a - d.base))

/-- Reset value of a register from its fields. -/
def RegDesc.reset (d : RegDesc) : Word := BitVec.ofNat 32 ((d.fields.map (fun f => f.rst * 2 ^ f.lo)).sum)

/-- Reset value of the register at `a`, 0 where none is assigned (R9). -/
def regReset (a : Nat) : Word := match regDesc a with | some d => d.reset | none => 0

namespace Fld

def DEV_ID_STEP : Fld := ⟨0x0, 7, 0⟩
def DEV_ID_PART : Fld := ⟨0x0, 31, 16⟩
def OWN_DELEG_CAN : Fld := ⟨0x10, 1, 0⟩
def OWN_DELEG_FIN : Fld := ⟨0x10, 5, 2⟩
def OWN_DELEG_FOUT : Fld := ⟨0x10, 9, 6⟩
def OWN_DELEG_ETH : Fld := ⟨0x10, 11, 10⟩
def OWN_EPOCH_CHANGES : Fld := ⟨0x14, 31, 0⟩
def IMG_HASH_HASH (i : Nat) : Fld := ⟨0x20 + 0x4 * i, 31, 0⟩
def IMG_INFO_SERIAL : Fld := ⟨0x40, 31, 0⟩
def KEY_SLOTS_STATE : Fld := ⟨0x50, 7, 0⟩
def LINE_DEV_NUMBER : Fld := ⟨0x54, 17, 0⟩
def ESC_CFG_MINOR_PER : Fld := ⟨0x100000, 15, 0⟩
def ESC_CFG_MAJ_DIV : Fld := ⟨0x100000, 17, 16⟩
def ESC_CFG_SAFE_DIV : Fld := ⟨0x100000, 23, 20⟩
def ESC_CFG_PLAN_DIV : Fld := ⟨0x100000, 28, 24⟩
def ESC_CFG_REBIND : Fld := ⟨0x100000, 29, 29⟩
def ESC_CFG_LOCK : Fld := ⟨0x100000, 31, 31⟩
def ESC_SRC_ALLOW : Fld := ⟨0x100004, 2, 0⟩
def ESC_SRC_OSC : Fld := ⟨0x100004, 3, 3⟩
def ESC_SRC_ACTIVE : Fld := ⟨0x100004, 5, 4⟩
def ESC_SRC_SYNC_PER : Fld := ⟨0x100004, 6, 6⟩
def ESC_SRC_SYNC_POL : Fld := ⟨0x100004, 7, 7⟩
def ESC_SRC_LOSS_LIMIT : Fld := ⟨0x100004, 15, 8⟩
def ESC_STATUS_RUNNING : Fld := ⟨0x100008, 0, 0⟩
def ESC_STATUS_ALIGNED : Fld := ⟨0x100008, 1, 1⟩
def ESC_STATUS_SYNC_LOST : Fld := ⟨0x100008, 2, 2⟩
def ESC_STATUS_SLEWING : Fld := ⟨0x100008, 3, 3⟩
def ESC_STATUS_CORR : Fld := ⟨0x100008, 31, 16⟩
def ESC_FLAGS_SYNC_LOST : Fld := ⟨0x10000c, 0, 0⟩
def ESC_FLAGS_SRC_CHANGE : Fld := ⟨0x10000c, 1, 1⟩
def ESC_FLAGS_NET_UNALIGNED : Fld := ⟨0x10000c, 2, 2⟩
def ESC_FLAGS_OVERRUN : Fld := ⟨0x10000c, 8, 8⟩
def ESC_MINOR_INDEX : Fld := ⟨0x100018, 2, 0⟩
def ESC_SYNC_ERR_ERR : Fld := ⟨0x10001c, 31, 0⟩
def RMT_CFG_CUTOFF_US : Fld := ⟨0x100100, 5, 0⟩
def RMT_STATUS_PENDING : Fld := ⟨0x100104, 9, 0⟩
def RMT_STATUS_SEALING : Fld := ⟨0x100104, 16, 16⟩
def RMT_LOG_CFG_EN : Fld := ⟨0x100108, 0, 0⟩
def RMT_LOG_CFG_PORT : Fld := ⟨0x100108, 2, 1⟩
def RMT_LOG_GAP_GAPS : Fld := ⟨0x10010c, 31, 0⟩
def RMT_FLAGS_LOG_GAP : Fld := ⟨0x100110, 0, 0⟩
def RMT_FLAGS_PEND_FULL : Fld := ⟨0x100110, 1, 1⟩
def ESC_MAJ_LO_MAJ_LO : Fld := ⟨0x100010, 31, 0⟩
def ESC_MAJ_HI_MAJ_HI : Fld := ⟨0x100014, 15, 0⟩
def PWM_GRP_PER_PER (i : Nat) : Fld := ⟨0x200000 + 0x40 * i, 15, 0⟩
def PWM_GRP_DT_DT_LH (i : Nat) : Fld := ⟨0x200004 + 0x40 * i, 10, 0⟩
def PWM_GRP_DT_DT_HL (i : Nat) : Fld := ⟨0x200004 + 0x40 * i, 26, 16⟩
def PWM_GRP_UPD_COMMIT (i : Nat) : Fld := ⟨0x200008 + 0x40 * i, 0, 0⟩
def PWM_GRP_UPD_PENDING (i : Nat) : Fld := ⟨0x200008 + 0x40 * i, 1, 1⟩
def PWM_GRP_UPD_DIFF (i : Nat) : Fld := ⟨0x200008 + 0x40 * i, 2, 2⟩
def PWM_GRP_UPD_STALE_CNT (i : Nat) : Fld := ⟨0x200008 + 0x40 * i, 4, 3⟩
def PWM_GRP_FLAGS_CLAMP (i : Nat) : Fld := ⟨0x20000c + 0x40 * i, 0, 0⟩
def PWM_GRP_FLAGS_STALE (i : Nat) : Fld := ⟨0x20000c + 0x40 * i, 1, 1⟩
def PWM_GRP_FLAGS_LATE_COMMIT (i : Nat) : Fld := ⟨0x20000c + 0x40 * i, 2, 2⟩
def PWM_GRP_FLAGS_PER_MISMATCH (i : Nat) : Fld := ⟨0x20000c + 0x40 * i, 3, 3⟩
def PWM_GRP_FLAGS_MINP (i : Nat) : Fld := ⟨0x20000c + 0x40 * i, 4, 4⟩
def PWM_GRP_FLAGS_BOOT (i : Nat) : Fld := ⟨0x20000c + 0x40 * i, 5, 5⟩
def PWM_GRP_FLAGS_TRIP (i : Nat) : Fld := ⟨0x20000c + 0x40 * i, 6, 6⟩
def PWM_GRP_RISE_COARSE (i j : Nat) : Fld := ⟨0x200010 + 0x40 * i + 0x8 * j, 15, 0⟩
def PWM_GRP_RISE_FINE (i j : Nat) : Fld := ⟨0x200010 + 0x40 * i + 0x8 * j, 18, 16⟩
def PWM_GRP_FALL_COARSE (i j : Nat) : Fld := ⟨0x200014 + 0x40 * i + 0x8 * j, 15, 0⟩
def PWM_GRP_FALL_FINE (i j : Nat) : Fld := ⟨0x200014 + 0x40 * i + 0x8 * j, 18, 16⟩
def PWM_LIVE_PER_PER (i : Nat) : Fld := ⟨0x200400 + 0x40 * i, 15, 0⟩
def PWM_LIVE_DT_DT_LH (i : Nat) : Fld := ⟨0x200404 + 0x40 * i, 10, 0⟩
def PWM_LIVE_DT_DT_HL (i : Nat) : Fld := ⟨0x200404 + 0x40 * i, 26, 16⟩
def PWM_LIVE_RISE_COARSE (i j : Nat) : Fld := ⟨0x200410 + 0x40 * i + 0x8 * j, 15, 0⟩
def PWM_LIVE_RISE_FINE (i j : Nat) : Fld := ⟨0x200410 + 0x40 * i + 0x8 * j, 18, 16⟩
def PWM_LIVE_FALL_COARSE (i j : Nat) : Fld := ⟨0x200414 + 0x40 * i + 0x8 * j, 15, 0⟩
def PWM_LIVE_FALL_FINE (i j : Nat) : Fld := ⟨0x200414 + 0x40 * i + 0x8 * j, 18, 16⟩
def PWM_GCFG_FIRST (i : Nat) : Fld := ⟨0x200800 + 0x20 * i, 5, 0⟩
def PWM_GCFG_COUNT (i : Nat) : Fld := ⟨0x200800 + 0x20 * i, 8, 6⟩
def PWM_GCFG_MINP_MODE (i : Nat) : Fld := ⟨0x200800 + 0x20 * i, 9, 9⟩
def PWM_GCFG_SAFE_MODE (i : Nat) : Fld := ⟨0x200800 + 0x20 * i, 10, 10⟩
def PWM_GCFG_POL_H (i : Nat) : Fld := ⟨0x200800 + 0x20 * i, 11, 11⟩
def PWM_GCFG_POL_L (i : Nat) : Fld := ⟨0x200800 + 0x20 * i, 12, 12⟩
def PWM_GCFG_TRIP_MASK (i : Nat) : Fld := ⟨0x200800 + 0x20 * i, 23, 16⟩
def PWM_GSAMP_SAMPLE_OFS (i : Nat) : Fld := ⟨0x200804 + 0x20 * i, 15, 0⟩
def PWM_GSHAPE_MINP (i : Nat) : Fld := ⟨0x200808 + 0x20 * i, 10, 0⟩
def PWM_GSHAPE_BOOT_LEN (i : Nat) : Fld := ⟨0x200808 + 0x20 * i, 26, 16⟩
def PWM_GCTL_RUN (i : Nat) : Fld := ⟨0x20080c + 0x20 * i, 0, 0⟩
def PWM_GCTL_SAFE (i : Nat) : Fld := ⟨0x20080c + 0x20 * i, 1, 1⟩
def PWM_GCTL_TRIPPED (i : Nat) : Fld := ⟨0x20080c + 0x20 * i, 2, 2⟩
def PWM_GCTL_TRIP_CLR (i : Nat) : Fld := ⟨0x20080c + 0x20 * i, 3, 3⟩
def PWM_GCTL_BOOT_PER (i : Nat) : Fld := ⟨0x20080c + 0x20 * i, 23, 16⟩
def PWM_TRIP_CFG_POL (i : Nat) : Fld := ⟨0x200c00 + 0x4 * i, 0, 0⟩
def PWM_TRIP_CFG_MODE (i : Nat) : Fld := ⟨0x200c00 + 0x4 * i, 1, 1⟩
def PWM_TRIP_CFG_FLT (i : Nat) : Fld := ⟨0x200c00 + 0x4 * i, 11, 2⟩
def PWM_TRIP_CFG_LEVEL (i : Nat) : Fld := ⟨0x200c00 + 0x4 * i, 16, 16⟩
def PWM_TRIP_CFG_SEEN (i : Nat) : Fld := ⟨0x200c00 + 0x4 * i, 17, 17⟩
def PWM_FORCE_CLK_LOSS : Fld := ⟨0x200d00, 0, 0⟩
def PWM_FORCE_FATAL : Fld := ⟨0x200d00, 1, 1⟩
def PWM_FORCE_TEST : Fld := ⟨0x200d00, 2, 2⟩
def SD_CLK_CFG_DIV (i : Nat) : Fld := ⟨0x201000 + 0x4 * i, 5, 0⟩
def SD_CLK_CFG_EN (i : Nat) : Fld := ⟨0x201000 + 0x4 * i, 6, 6⟩
def SD_CFG_OSR (i : Nat) : Fld := ⟨0x201010 + 0x10 * i, 1, 0⟩
def SD_CFG_CLK (i : Nat) : Fld := ⟨0x201010 + 0x10 * i, 3, 2⟩
def SD_CFG_SKEW (i : Nat) : Fld := ⟨0x201010 + 0x10 * i, 6, 4⟩
def SD_CFG_EN (i : Nat) : Fld := ⟨0x201010 + 0x10 * i, 7, 7⟩
def SD_CFG_GROUP (i : Nat) : Fld := ⟨0x201010 + 0x10 * i, 11, 8⟩
def SD_RESULT_RESULT (i : Nat) : Fld := ⟨0x201014 + 0x10 * i, 15, 0⟩
def SD_RESULT_VALID (i : Nat) : Fld := ⟨0x201014 + 0x10 * i, 16, 16⟩
def SD_RESULT_FAULT (i : Nat) : Fld := ⟨0x201014 + 0x10 * i, 17, 17⟩
def SD_FLAGS_FAULT (i : Nat) : Fld := ⟨0x201018 + 0x10 * i, 0, 0⟩
def SD_FLAGS_CLIP (i : Nat) : Fld := ⟨0x201018 + 0x10 * i, 1, 1⟩
def FB_CFG_MODE (i : Nat) : Fld := ⟨0x300000 + 0x40 * i, 2, 0⟩
def FB_CFG_FLT (i : Nat) : Fld := ⟨0x300000 + 0x40 * i, 8, 3⟩
def FB_CFG_INV (i : Nat) : Fld := ⟨0x300000 + 0x40 * i, 9, 9⟩
def FB_CFG_IDX_GATE (i : Nat) : Fld := ⟨0x300000 + 0x40 * i, 11, 10⟩
def FB_CFG_IDX_POL (i : Nat) : Fld := ⟨0x300000 + 0x40 * i, 12, 12⟩
def FB_CFG_SAMP_SRC (i : Nat) : Fld := ⟨0x300000 + 0x40 * i, 13, 13⟩
def FB_CFG_GROUP (i : Nat) : Fld := ⟨0x300000 + 0x40 * i, 17, 14⟩
def FB_CFG_QERR_LIMIT (i : Nat) : Fld := ⟨0x300000 + 0x40 * i, 25, 18⟩
def FB_TIME_SAMPLE_OFS (i : Nat) : Fld := ⟨0x300004 + 0x40 * i, 15, 0⟩
def FB_TIME_STILL (i : Nat) : Fld := ⟨0x300004 + 0x40 * i, 31, 16⟩
def FB_SER_BITS (i : Nat) : Fld := ⟨0x300408 + 0x40 * i, 5, 0⟩
def FB_SER_SKIP (i : Nat) : Fld := ⟨0x300408 + 0x40 * i, 8, 6⟩
def FB_SER_STATUS (i : Nat) : Fld := ⟨0x300408 + 0x40 * i, 11, 9⟩
def FB_SER_GRAY (i : Nat) : Fld := ⟨0x300408 + 0x40 * i, 12, 12⟩
def FB_SER_PARITY (i : Nat) : Fld := ⟨0x300408 + 0x40 * i, 13, 13⟩
def FB_SER_DIV (i : Nat) : Fld := ⟨0x300408 + 0x40 * i, 21, 14⟩
def FB_SER_LINE_DLY (i : Nat) : Fld := ⟨0x300408 + 0x40 * i, 27, 22⟩
def FB_SER_ST_MASK (i : Nat) : Fld := ⟨0x300408 + 0x40 * i, 31, 28⟩
def FB_POS_LO_VALUE_LO (i : Nat) : Fld := ⟨0x300010 + 0x40 * i, 31, 0⟩
def FB_POS_HI_VALUE_HI (i : Nat) : Fld := ⟨0x300014 + 0x40 * i, 15, 0⟩
def FB_SPOS_LO_VALUE_LO (i : Nat) : Fld := ⟨0x300018 + 0x40 * i, 31, 0⟩
def FB_SPOS_HI_VALUE_HI (i : Nat) : Fld := ⟨0x30001c + 0x40 * i, 15, 0⟩
def FB_IDX_LO_VALUE_LO (i : Nat) : Fld := ⟨0x300028 + 0x40 * i, 31, 0⟩
def FB_IDX_HI_VALUE_HI (i : Nat) : Fld := ⟨0x30002c + 0x40 * i, 15, 0⟩
def FB_RAW_LO_VALUE_LO (i : Nat) : Fld := ⟨0x300030 + 0x40 * i, 31, 0⟩
def FB_RAW_HI_VALUE_HI (i : Nat) : Fld := ⟨0x300034 + 0x40 * i, 15, 0⟩
def FB_SPEED_SPEED (i : Nat) : Fld := ⟨0x300020 + 0x40 * i, 31, 0⟩
def FB_STAT_VALID (i : Nat) : Fld := ⟨0x300024 + 0x40 * i, 0, 0⟩
def FB_STAT_STANDSTILL (i : Nat) : Fld := ⟨0x300024 + 0x40 * i, 1, 1⟩
def FB_STAT_FIRST_EDGE (i : Nat) : Fld := ⟨0x300024 + 0x40 * i, 2, 2⟩
def FB_STAT_DIR (i : Nat) : Fld := ⟨0x300024 + 0x40 * i, 3, 3⟩
def FB_STAT_METHOD (i : Nat) : Fld := ⟨0x300024 + 0x40 * i, 4, 4⟩
def FB_STAT_IDX_NEW (i : Nat) : Fld := ⟨0x300024 + 0x40 * i, 5, 5⟩
def FB_STAT_SER_OK (i : Nat) : Fld := ⟨0x300024 + 0x40 * i, 6, 6⟩
def FB_STAT_QERR_CNT (i : Nat) : Fld := ⟨0x300024 + 0x40 * i, 15, 8⟩
def FB_MOD_LO_MOD_LO (i : Nat) : Fld := ⟨0x300038 + 0x40 * i, 31, 0⟩
def FB_MOD_HI_MOD_HI (i : Nat) : Fld := ⟨0x30003c + 0x40 * i, 15, 0⟩
def FB_FLAGS_QUAD_ERR (i : Nat) : Fld := ⟨0x300600 + 0x4 * i, 0, 0⟩
def FB_FLAGS_SER_ERR (i : Nat) : Fld := ⟨0x300600 + 0x4 * i, 1, 1⟩
def FB_FLAGS_SER_CAUSE (i : Nat) : Fld := ⟨0x300600 + 0x4 * i, 4, 2⟩
def FB_FLAGS_INVALID (i : Nat) : Fld := ⟨0x300600 + 0x4 * i, 5, 5⟩
def FB_FLAGS_REVALID (i : Nat) : Fld := ⟨0x300600 + 0x4 * i, 8, 8⟩
def LAT_CFG_EN (i : Nat) : Fld := ⟨0x300800 + 0x20 * i, 0, 0⟩
def LAT_CFG_EDGE (i : Nat) : Fld := ⟨0x300800 + 0x20 * i, 2, 1⟩
def LAT_CFG_LFLT (i : Nat) : Fld := ⟨0x300800 + 0x20 * i, 10, 3⟩
def LAT_CFG_KIND (i : Nat) : Fld := ⟨0x300800 + 0x20 * i, 11, 11⟩
def LAT_CFG_SRC (i : Nat) : Fld := ⟨0x300800 + 0x20 * i, 18, 12⟩
def LAT_POS_LO_POS_LO (i : Nat) : Fld := ⟨0x300804 + 0x20 * i, 31, 0⟩
def LAT_POS_HI_POS_HI (i : Nat) : Fld := ⟨0x300808 + 0x20 * i, 15, 0⟩
def LAT_TIME_OFS (i : Nat) : Fld := ⟨0x30080c + 0x20 * i, 15, 0⟩
def LAT_TIME_MINOR (i : Nat) : Fld := ⟨0x30080c + 0x20 * i, 18, 16⟩
def LAT_TIME_LEVEL (i : Nat) : Fld := ⟨0x30080c + 0x20 * i, 19, 19⟩
def LAT_STAT_NEW (i : Nat) : Fld := ⟨0x300810 + 0x20 * i, 0, 0⟩
def LAT_STAT_OVR (i : Nat) : Fld := ⟨0x300810 + 0x20 * i, 1, 1⟩
def LAT_STAT_OVR_CNT (i : Nat) : Fld := ⟨0x300810 + 0x20 * i, 31, 16⟩
def LAT_MAJ_MAJ (i : Nat) : Fld := ⟨0x300814 + 0x20 * i, 31, 0⟩
def CMP_CFG_CHAN (i : Nat) : Fld := ⟨0x301000 + 0x20 * i, 4, 0⟩
def CMP_CFG_MODE (i : Nat) : Fld := ⟨0x301000 + 0x20 * i, 6, 5⟩
def CMP_CFG_DIR (i : Nat) : Fld := ⟨0x301000 + 0x20 * i, 8, 7⟩
def CMP_CFG_PIN (i : Nat) : Fld := ⟨0x301000 + 0x20 * i, 12, 9⟩
def CMP_TGT_LO_TGT_LO (i : Nat) : Fld := ⟨0x301004 + 0x20 * i, 31, 0⟩
def CMP_TGT_HI_TGT_HI (i : Nat) : Fld := ⟨0x301008 + 0x20 * i, 15, 0⟩
def CMP_TGT_HI_ARM (i : Nat) : Fld := ⟨0x301008 + 0x20 * i, 16, 16⟩
def CMP_TGT_HI_STAGED (i : Nat) : Fld := ⟨0x301008 + 0x20 * i, 17, 17⟩
def CMP_STAT_STATE (i : Nat) : Fld := ⟨0x30100c + 0x20 * i, 2, 0⟩
def CMP_STAT_FIRED (i : Nat) : Fld := ⟨0x30100c + 0x20 * i, 3, 3⟩
def CMP_STAT_BEHIND (i : Nat) : Fld := ⟨0x30100c + 0x20 * i, 4, 4⟩
def CMP_STAT_LATE (i : Nat) : Fld := ⟨0x30100c + 0x20 * i, 5, 5⟩
def CMP_FIRE_OFS (i : Nat) : Fld := ⟨0x301010 + 0x20 * i, 15, 0⟩
def CMP_FIRE_MINOR (i : Nat) : Fld := ⟨0x301010 + 0x20 * i, 18, 16⟩
def CMP_FMAJ_MAJ (i : Nat) : Fld := ⟨0x301014 + 0x20 * i, 31, 0⟩
def CMP_PIN_CFG_POL (i : Nat) : Fld := ⟨0x301400 + 0x4 * i, 0, 0⟩
def CMP_PIN_CFG_PW (i : Nat) : Fld := ⟨0x301400 + 0x4 * i, 20, 1⟩
def CMP_PIN_CFG_LEVEL (i : Nat) : Fld := ⟨0x301400 + 0x4 * i, 21, 21⟩
def STEP_CFG_EN (i : Nat) : Fld := ⟨0x301800 + 0x20 * i, 0, 0⟩
def STEP_CFG_STEP_POL (i : Nat) : Fld := ⟨0x301800 + 0x20 * i, 1, 1⟩
def STEP_CFG_DIR_POL (i : Nat) : Fld := ⟨0x301800 + 0x20 * i, 2, 2⟩
def STEP_CFG_PW (i : Nat) : Fld := ⟨0x301800 + 0x20 * i, 13, 3⟩
def STEP_CFG_SETUP (i : Nat) : Fld := ⟨0x301800 + 0x20 * i, 24, 14⟩
def STEP_CMD_N (i : Nat) : Fld := ⟨0x301804 + 0x20 * i, 15, 0⟩
def STEP_INT_INT (i : Nat) : Fld := ⟨0x301808 + 0x20 * i, 23, 0⟩
def STEP_PH_PH (i : Nat) : Fld := ⟨0x30180c + 0x20 * i, 15, 0⟩
def STEP_UPD_COMMIT (i : Nat) : Fld := ⟨0x301810 + 0x20 * i, 0, 0⟩
def STEP_UPD_PENDING (i : Nat) : Fld := ⟨0x301810 + 0x20 * i, 1, 1⟩
def STEP_POS_LO_POS_LO (i : Nat) : Fld := ⟨0x301814 + 0x20 * i, 31, 0⟩
def STEP_POS_HI_POS_HI (i : Nat) : Fld := ⟨0x301818 + 0x20 * i, 15, 0⟩
def STEP_FLAGS_DROP (i : Nat) : Fld := ⟨0x30181c + 0x20 * i, 0, 0⟩
def STEP_FLAGS_LATE_COMMIT (i : Nat) : Fld := ⟨0x30181c + 0x20 * i, 1, 1⟩
def STEP_FLAGS_DROP_CNT (i : Nat) : Fld := ⟨0x30181c + 0x20 * i, 31, 16⟩
def STP_CFG_OUT (i : Nat) : Fld := ⟨0x400000 + 0x40 * i, 0, 0⟩
def STP_CFG_BIND (i : Nat) : Fld := ⟨0x400000 + 0x40 * i, 4, 1⟩
def STP_CFG_SET (i : Nat) : Fld := ⟨0x400000 + 0x40 * i, 6, 5⟩
def STP_CFG_COMPAT (i : Nat) : Fld := ⟨0x400000 + 0x40 * i, 7, 7⟩
def STP_CFG_RES_MAX (i : Nat) : Fld := ⟨0x400000 + 0x40 * i, 11, 8⟩
def STP_RES_RES_BASE (i : Nat) : Fld := ⟨0x400004 + 0x40 * i, 23, 0⟩
def STP_RES_RES_HYST (i : Nat) : Fld := ⟨0x400004 + 0x40 * i, 31, 24⟩
def STP_COMPAT_V_STRONG (i : Nat) : Fld := ⟨0x400008 + 0x40 * i, 15, 0⟩
def STP_COMPAT_V_QUIET (i : Nat) : Fld := ⟨0x400008 + 0x40 * i, 31, 16⟩
def STP_STAT_STRONG (i : Nat) : Fld := ⟨0x40000c + 0x40 * i, 0, 0⟩
def STP_STAT_LEVEL (i : Nat) : Fld := ⟨0x40000c + 0x40 * i, 4, 1⟩
def STP_STAT_HOLD (i : Nat) : Fld := ⟨0x40000c + 0x40 * i, 5, 5⟩
def STP_STAT_CHG_CNT (i : Nat) : Fld := ⟨0x40000c + 0x40 * i, 31, 16⟩
def STP_ANGLE_THETA (i : Nat) : Fld := ⟨0x400018 + 0x40 * i, 9, 0⟩
def STP_FLAGS_CHOP_STARVED (i : Nat) : Fld := ⟨0x40001c + 0x40 * i, 0, 0⟩
def STP_USTEP_LO_M_LO (i : Nat) : Fld := ⟨0x400010 + 0x40 * i, 31, 0⟩
def STP_USTEP_HI_M_HI (i : Nat) : Fld := ⟨0x400014 + 0x40 * i, 15, 0⟩
def STP_TBL_T (i j : Nat) : Fld := ⟨0x401000 + 0x400 * i + 0x4 * j, 9, 0⟩
def DL_CFG_EN (i : Nat) : Fld := ⟨0x500000 + 0x1000 * i, 0, 0⟩
def DL_CFG_NMOD (i : Nat) : Fld := ⟨0x500000 + 0x1000 * i, 4, 1⟩
def DL_CFG_T_PREP_MAX (i : Nat) : Fld := ⟨0x500000 + 0x1000 * i, 15, 8⟩
def DL_CFG_RING_MAX (i : Nat) : Fld := ⟨0x500000 + 0x1000 * i, 31, 16⟩
def DL_TIMING_UP_OFS (i : Nat) : Fld := ⟨0x500004 + 0x1000 * i, 15, 0⟩
def DL_TIMING_CMD_OFS (i : Nat) : Fld := ⟨0x500004 + 0x1000 * i, 31, 16⟩
def DL_SAMPLE_SAMPLE_OFS (i : Nat) : Fld := ⟨0x500008 + 0x1000 * i, 15, 0⟩
def DL_SAMPLE_AGE_MAX (i : Nat) : Fld := ⟨0x500008 + 0x1000 * i, 18, 16⟩
def DL_STATUS_MARKERS (i : Nat) : Fld := ⟨0x50000c + 0x1000 * i, 0, 0⟩
def DL_STATUS_R_VALID (i : Nat) : Fld := ⟨0x50000c + 0x1000 * i, 1, 1⟩
def DL_STATUS_SLOW (i : Nat) : Fld := ⟨0x50000c + 0x1000 * i, 2, 2⟩
def DL_STATUS_HOP_RET (i : Nat) : Fld := ⟨0x50000c + 0x1000 * i, 7, 4⟩
def DL_STATUS_JOINED (i : Nat) : Fld := ⟨0x50000c + 0x1000 * i, 27, 16⟩
def DL_RING_R (i : Nat) : Fld := ⟨0x500010 + 0x1000 * i, 15, 0⟩
def DL_RING_R_PEAK (i : Nat) : Fld := ⟨0x500010 + 0x1000 * i, 31, 16⟩
def DL_FLAGS_RING_BREAK (i : Nat) : Fld := ⟨0x500014 + 0x1000 * i, 0, 0⟩
def DL_FLAGS_RING_SLOW (i : Nat) : Fld := ⟨0x500014 + 0x1000 * i, 1, 1⟩
def DL_FLAGS_SLOT_EDGE (i : Nat) : Fld := ⟨0x500014 + 0x1000 * i, 2, 2⟩
def DL_FLAGS_UNSYNC (i : Nat) : Fld := ⟨0x500014 + 0x1000 * i, 3, 3⟩
def DL_FLAGS_COPY_DIFF (i : Nat) : Fld := ⟨0x500014 + 0x1000 * i, 4, 4⟩
def DL_FLAGS_SLIP (i : Nat) : Fld := ⟨0x500014 + 0x1000 * i, 5, 5⟩
def DL_CRC_CNT_UPLINK (i : Nat) : Fld := ⟨0x500018 + 0x1000 * i, 15, 0⟩
def DL_CRC_CNT_RETURN (i : Nat) : Fld := ⟨0x500018 + 0x1000 * i, 31, 16⟩
def DL_POS_STATE_STATE (i j : Nat) : Fld := ⟨0x500100 + 0x1000 * i + 0x10 * j, 2, 0⟩
def DL_POS_STATE_GEN (i j : Nat) : Fld := ⟨0x500100 + 0x1000 * i + 0x10 * j, 4, 3⟩
def DL_POS_STATE_SAFE (i j : Nat) : Fld := ⟨0x500100 + 0x1000 * i + 0x10 * j, 5, 5⟩
def DL_POS_STATE_FAULT (i j : Nat) : Fld := ⟨0x500100 + 0x1000 * i + 0x10 * j, 6, 6⟩
def DL_POS_STATE_AGE (i j : Nat) : Fld := ⟨0x500100 + 0x1000 * i + 0x10 * j, 9, 7⟩
def DL_POS_STATE_CAUSE (i j : Nat) : Fld := ⟨0x500100 + 0x1000 * i + 0x10 * j, 12, 10⟩
def DL_POS_EDGE_COUNT (i j : Nat) : Fld := ⟨0x500104 + 0x1000 * i + 0x10 * j, 15, 0⟩
def DL_POS_EDGE_RUN (i j : Nat) : Fld := ⟨0x500104 + 0x1000 * i + 0x10 * j, 17, 16⟩
def DL_POS_ID_VENDOR (i j : Nat) : Fld := ⟨0x500108 + 0x1000 * i + 0x10 * j, 15, 0⟩
def DL_POS_ID_PRODUCT (i j : Nat) : Fld := ⟨0x500108 + 0x1000 * i + 0x10 * j, 31, 16⟩
def DL_POS_ARR_OFFSET (i j : Nat) : Fld := ⟨0x50010c + 0x1000 * i + 0x10 * j, 15, 0⟩
def DL_POS_ARR_LANE (i j : Nat) : Fld := ⟨0x50010c + 0x1000 * i + 0x10 * j, 16, 16⟩
def CL_CFG_EN : Fld := ⟨0x600000, 0, 0⟩
def CL_CFG_CELL_ID : Fld := ⟨0x600000, 3, 1⟩
def CL_CFG_TICK_WIN : Fld := ⟨0x600000, 17, 8⟩
def CL_CFG_MEMBERS : Fld := ⟨0x600000, 25, 18⟩
def CL_WIN_WIN_OFS : Fld := ⟨0x600004, 15, 0⟩
def CL_WIN_WIN_LEN : Fld := ⟨0x600004, 31, 16⟩
def CL_STATUS_STATE : Fld := ⟨0x600008, 2, 0⟩
def CL_STATUS_R_VALID : Fld := ⟨0x600008, 3, 3⟩
def CL_STATUS_MASTER : Fld := ⟨0x600008, 6, 4⟩
def CL_STATUS_ISOLATED : Fld := ⟨0x600008, 7, 7⟩
def CL_STATUS_EPOCH : Fld := ⟨0x600008, 15, 8⟩
def CL_STATUS_PRESENT : Fld := ⟨0x600008, 23, 16⟩
def CL_DELAY_E_F : Fld := ⟨0x60000c, 15, 0⟩
def CL_DELAY_E_V : Fld := ⟨0x60000c, 31, 16⟩
def CL_RING_R : Fld := ⟨0x600010, 15, 0⟩
def CL_RING_FWD : Fld := ⟨0x600010, 23, 16⟩
def CL_FLAGS_TICK_MISS : Fld := ⟨0x600014, 0, 0⟩
def CL_FLAGS_HANDOVER : Fld := ⟨0x600014, 1, 1⟩
def CL_FLAGS_MEMBER_LOST : Fld := ⟨0x600014, 2, 2⟩
def CL_FLAGS_RING_BREAK : Fld := ⟨0x600014, 3, 3⟩
def CL_FLAGS_LATE : Fld := ⟨0x600014, 4, 4⟩
def CL_FLAGS_MISMATCH : Fld := ⟨0x600014, 5, 5⟩
def CL_FLAGS_SPLIT : Fld := ⟨0x600014, 6, 6⟩
def CL_CNT_TICK_MISS : Fld := ⟨0x600018, 7, 0⟩
def CL_CNT_LATE : Fld := ⟨0x600018, 15, 8⟩
def CL_CNT_CRC : Fld := ⟨0x600018, 31, 16⟩
def TIME_CFG_JUMP_THR : Fld := ⟨0x700000, 19, 0⟩
def TIME_CFG_LOCK_THR : Fld := ⟨0x700000, 29, 20⟩
def TIME_STATE_STATE : Fld := ⟨0x700004, 1, 0⟩
def TIME_STATE_PERMIT : Fld := ⟨0x700004, 2, 2⟩
def TIME_STATE_REFUSALS : Fld := ⟨0x700004, 7, 3⟩
def TIME_STATE_PARENT : Fld := ⟨0x700004, 9, 8⟩
def TIME_STATE_STEPS : Fld := ⟨0x700004, 31, 16⟩
def TIME_NOW_SEC_LO_SEC_LO : Fld := ⟨0x700008, 31, 0⟩
def TIME_NOW_SEC_HI_SEC_HI : Fld := ⟨0x70000c, 15, 0⟩
def TIME_NOW_NS_NS : Fld := ⟨0x700010, 29, 0⟩
def TIME_OFFSET_OFFSET : Fld := ⟨0x700014, 31, 0⟩
def TIME_RATE_RATE : Fld := ⟨0x700018, 31, 0⟩
def TIME_FLAGS_JUMP_REFUSED : Fld := ⟨0x70001c, 0, 0⟩
def TIME_FLAGS_HOLDOVER : Fld := ⟨0x70001c, 1, 1⟩
def TIME_FLAGS_STEP : Fld := ⟨0x70001c, 2, 2⟩
def TIME_FLAGS_DUP_LINE_DEV : Fld := ⟨0x70001c, 3, 3⟩
def ETH_CFG_EN (i : Nat) : Fld := ⟨0x701000 + 0x400 * i, 0, 0⟩
def ETH_CFG_SPEED (i : Nat) : Fld := ⟨0x701000 + 0x400 * i, 2, 1⟩
def ETH_LAT_ING (i : Nat) : Fld := ⟨0x701004 + 0x400 * i, 15, 0⟩
def ETH_LAT_EGR (i : Nat) : Fld := ⟨0x701004 + 0x400 * i, 31, 16⟩
def ETH_ASYM_ASYM (i : Nat) : Fld := ⟨0x701008 + 0x400 * i, 31, 0⟩
def ETH_TXTS_STAT_COUNT (i : Nat) : Fld := ⟨0x701010 + 0x400 * i, 4, 0⟩
def ETH_TXTS_STAT_OVF (i : Nat) : Fld := ⟨0x701010 + 0x400 * i, 8, 8⟩
def ETH_TXTS_STAT_DROPS (i : Nat) : Fld := ⟨0x701010 + 0x400 * i, 31, 16⟩
def ETH_TXTS_ID_ID (i : Nat) : Fld := ⟨0x701014 + 0x400 * i, 15, 0⟩
def ETH_TXTS_ID_VALID (i : Nat) : Fld := ⟨0x701014 + 0x400 * i, 16, 16⟩
def ETH_TXTS_SEC_LO_SEC (i : Nat) : Fld := ⟨0x701018 + 0x400 * i, 31, 0⟩
def ETH_TXTS_SEC_HI_SEC (i : Nat) : Fld := ⟨0x70101c + 0x400 * i, 15, 0⟩
def ETH_TXTS_NS_NS (i : Nat) : Fld := ⟨0x701020 + 0x400 * i, 29, 0⟩
def ETH_RX_OVF_RING (i : Nat) : Fld := ⟨0x701024 + 0x400 * i, 15, 0⟩
def ETH_RX_OVF_SAFE (i : Nat) : Fld := ⟨0x701024 + 0x400 * i, 31, 16⟩
def ETH_GCL_CYCLE_CYCLE (i : Nat) : Fld := ⟨0x701030 + 0x400 * i, 31, 0⟩
def ETH_GCL_BASE_NS_BASE (i : Nat) : Fld := ⟨0x701034 + 0x400 * i, 29, 0⟩
def ETH_GCL_BASE_SEC_LO_BASE (i : Nat) : Fld := ⟨0x701038 + 0x400 * i, 31, 0⟩
def ETH_GCL_BASE_SEC_HI_BASE (i : Nat) : Fld := ⟨0x70103c + 0x400 * i, 15, 0⟩
def ETH_GCL_LEN_LEN (i : Nat) : Fld := ⟨0x701040 + 0x400 * i, 5, 0⟩
def ETH_Q_LATE_POLICY (i j : Nat) : Fld := ⟨0x701080 + 0x400 * i + 0x4 * j, 0, 0⟩
def ETH_Q_LATE (i j : Nat) : Fld := ⟨0x701080 + 0x400 * i + 0x4 * j, 1, 1⟩
def ETH_Q_FAR (i j : Nat) : Fld := ⟨0x701080 + 0x400 * i + 0x4 * j, 2, 2⟩
def ETH_Q_LATE_CNT (i j : Nat) : Fld := ⟨0x701080 + 0x400 * i + 0x4 * j, 31, 16⟩
def ETH_GCL_GATES (i j : Nat) : Fld := ⟨0x701100 + 0x400 * i + 0x4 * j, 7, 0⟩
def ETH_GCL_INTERVAL (i j : Nat) : Fld := ⟨0x701100 + 0x400 * i + 0x4 * j, 31, 8⟩
def CAN_CTRL_INIT (i : Nat) : Fld := ⟨0x800000 + 0x8000 * i, 0, 0⟩
def CAN_CTRL_INIT_ACK (i : Nat) : Fld := ⟨0x800000 + 0x8000 * i, 1, 1⟩
def CAN_CTRL_MON (i : Nat) : Fld := ⟨0x800000 + 0x8000 * i, 2, 2⟩
def CAN_CTRL_LBK (i : Nat) : Fld := ⟨0x800000 + 0x8000 * i, 3, 3⟩
def CAN_CTRL_FDOE (i : Nat) : Fld := ⟨0x800000 + 0x8000 * i, 4, 4⟩
def CAN_CTRL_BRSE (i : Nat) : Fld := ⟨0x800000 + 0x8000 * i, 5, 5⟩
def CAN_CTRL_TDC (i : Nat) : Fld := ⟨0x800000 + 0x8000 * i, 6, 6⟩
def CAN_CTRL_NM_FIFO (i : Nat) : Fld := ⟨0x800000 + 0x8000 * i, 7, 7⟩
def CAN_NBT_NBRP (i : Nat) : Fld := ⟨0x800004 + 0x8000 * i, 7, 0⟩
def CAN_NBT_NTSEG1 (i : Nat) : Fld := ⟨0x800004 + 0x8000 * i, 15, 8⟩
def CAN_NBT_NTSEG2 (i : Nat) : Fld := ⟨0x800004 + 0x8000 * i, 22, 16⟩
def CAN_NBT_NSJW (i : Nat) : Fld := ⟨0x800004 + 0x8000 * i, 29, 23⟩
def CAN_DBT_DBRP (i : Nat) : Fld := ⟨0x800008 + 0x8000 * i, 4, 0⟩
def CAN_DBT_DTSEG1 (i : Nat) : Fld := ⟨0x800008 + 0x8000 * i, 9, 5⟩
def CAN_DBT_DTSEG2 (i : Nat) : Fld := ⟨0x800008 + 0x8000 * i, 13, 10⟩
def CAN_DBT_DSJW (i : Nat) : Fld := ⟨0x800008 + 0x8000 * i, 17, 14⟩
def CAN_DBT_TDCO (i : Nat) : Fld := ⟨0x800008 + 0x8000 * i, 24, 18⟩
def CAN_ERR_TEC (i : Nat) : Fld := ⟨0x80000c + 0x8000 * i, 7, 0⟩
def CAN_ERR_REC (i : Nat) : Fld := ⟨0x80000c + 0x8000 * i, 15, 8⟩
def CAN_ERR_STATE (i : Nat) : Fld := ⟨0x80000c + 0x8000 * i, 17, 16⟩
def CAN_ERR_EW (i : Nat) : Fld := ⟨0x80000c + 0x8000 * i, 18, 18⟩
def CAN_ERR_LEC (i : Nat) : Fld := ⟨0x80000c + 0x8000 * i, 21, 19⟩
def CAN_ERR_ACK_RUN (i : Nat) : Fld := ⟨0x80000c + 0x8000 * i, 31, 24⟩
def CAN_LIMITS_NOACK_LIM (i : Nat) : Fld := ⟨0x800010 + 0x8000 * i, 7, 0⟩
def CAN_LIMITS_NOACK_CANCEL (i : Nat) : Fld := ⟨0x800010 + 0x8000 * i, 15, 8⟩
def CAN_LIMITS_COLL_LIM (i : Nat) : Fld := ⟨0x800010 + 0x8000 * i, 23, 16⟩
def CAN_FLAGS_NO_ACK (i : Nat) : Fld := ⟨0x800014 + 0x8000 * i, 0, 0⟩
def CAN_FLAGS_COLL (i : Nat) : Fld := ⟨0x800014 + 0x8000 * i, 1, 1⟩
def CAN_FLAGS_RXF_OVR (i : Nat) : Fld := ⟨0x800014 + 0x8000 * i, 2, 2⟩
def CAN_FLAGS_HP_OVR (i : Nat) : Fld := ⟨0x800014 + 0x8000 * i, 3, 3⟩
def CAN_FLAGS_PASSIVE (i : Nat) : Fld := ⟨0x800014 + 0x8000 * i, 4, 4⟩
def CAN_FLAGS_BUS_OFF (i : Nat) : Fld := ⟨0x800014 + 0x8000 * i, 5, 5⟩
def CAN_FLAGS_WR_BUSY (i : Nat) : Fld := ⟨0x800014 + 0x8000 * i, 6, 6⟩
def CAN_CNT_RX_OVF (i : Nat) : Fld := ⟨0x800020 + 0x8000 * i, 15, 0⟩
def CAN_CNT_COLL (i : Nat) : Fld := ⟨0x800020 + 0x8000 * i, 31, 16⟩
def CAN_IR_RXF (i : Nat) : Fld := ⟨0x800018 + 0x8000 * i, 0, 0⟩
def CAN_IR_HP (i : Nat) : Fld := ⟨0x800018 + 0x8000 * i, 4, 1⟩
def CAN_IR_TXDONE (i : Nat) : Fld := ⟨0x800018 + 0x8000 * i, 5, 5⟩
def CAN_IR_TXCXL (i : Nat) : Fld := ⟨0x800018 + 0x8000 * i, 6, 6⟩
def CAN_IR_ERRSTATE (i : Nat) : Fld := ⟨0x800018 + 0x8000 * i, 7, 7⟩
def CAN_IR_NO_ACK (i : Nat) : Fld := ⟨0x800018 + 0x8000 * i, 8, 8⟩
def CAN_IE_RXF (i : Nat) : Fld := ⟨0x80001c + 0x8000 * i, 0, 0⟩
def CAN_IE_HP (i : Nat) : Fld := ⟨0x80001c + 0x8000 * i, 4, 1⟩
def CAN_IE_TXDONE (i : Nat) : Fld := ⟨0x80001c + 0x8000 * i, 5, 5⟩
def CAN_IE_TXCXL (i : Nat) : Fld := ⟨0x80001c + 0x8000 * i, 6, 6⟩
def CAN_IE_ERRSTATE (i : Nat) : Fld := ⟨0x80001c + 0x8000 * i, 7, 7⟩
def CAN_IE_NO_ACK (i : Nat) : Fld := ⟨0x80001c + 0x8000 * i, 8, 8⟩
def CAN_RXF_FILL (i : Nat) : Fld := ⟨0x800040 + 0x8000 * i, 6, 0⟩
def CAN_RXF_POP (i : Nat) : Fld := ⟨0x800040 + 0x8000 * i, 8, 8⟩
def CAN_HPSTAT_FULL (i : Nat) : Fld := ⟨0x800044 + 0x8000 * i, 3, 0⟩
def CAN_TXREQ_REQ (i : Nat) : Fld := ⟨0x800048 + 0x8000 * i, 31, 0⟩
def CAN_TXCAN_CAN (i : Nat) : Fld := ⟨0x80004c + 0x8000 * i, 31, 0⟩
def CAN_TXDONE_DONE (i : Nat) : Fld := ⟨0x800050 + 0x8000 * i, 31, 0⟩
def CAN_TXCXL_CXL (i : Nat) : Fld := ⟨0x800054 + 0x8000 * i, 31, 0⟩
def CAN_RXE_W (i j : Nat) : Fld := ⟨0x800100 + 0x8000 * i + 0x4 * j, 31, 0⟩
def CAN_HPE_W (i j k : Nat) : Fld := ⟨0x800200 + 0x8000 * i + 0x80 * j + 0x4 * k, 31, 0⟩
def FLT_CFG_EN (i j : Nat) : Fld := ⟨0x804000 + 0x8000 * i + 0x10 * j, 0, 0⟩
def FLT_CFG_XTD (i j : Nat) : Fld := ⟨0x804000 + 0x8000 * i + 0x10 * j, 1, 1⟩
def FLT_CFG_KIND (i j : Nat) : Fld := ⟨0x804000 + 0x8000 * i + 0x10 * j, 2, 2⟩
def FLT_CFG_ACTION (i j : Nat) : Fld := ⟨0x804000 + 0x8000 * i + 0x10 * j, 4, 3⟩
def FLT_CFG_HP (i j : Nat) : Fld := ⟨0x804000 + 0x8000 * i + 0x10 * j, 6, 5⟩
def FLT_CFG_OBJ (i j : Nat) : Fld := ⟨0x804000 + 0x8000 * i + 0x10 * j, 12, 7⟩
def FLT_CFG_OBJ_EN (i j : Nat) : Fld := ⟨0x804000 + 0x8000 * i + 0x10 * j, 13, 13⟩
def FLT_V1_VALUE (i j : Nat) : Fld := ⟨0x804004 + 0x8000 * i + 0x10 * j, 28, 0⟩
def FLT_V2_VALUE (i j : Nat) : Fld := ⟨0x804008 + 0x8000 * i + 0x10 * j, 28, 0⟩
def CAN_TXE_ID_W (i j : Nat) : Fld := ⟨0x801000 + 0x8000 * i + 0x80 * j, 31, 0⟩
def CAN_TXE_FMT_FMT (i j : Nat) : Fld := ⟨0x801004 + 0x8000 * i + 0x80 * j, 5, 0⟩
def CAN_TXE_STAMP_W (i j k : Nat) : Fld := ⟨0x801008 + 0x8000 * i + 0x80 * j + 0x4 * k, 31, 0⟩
def CAN_TXE_DATA_W (i j k : Nat) : Fld := ⟨0x801014 + 0x8000 * i + 0x80 * j + 0x4 * k, 31, 0⟩
def FI_CFG_TYPE : Fld := ⟨0x900000, 3, 0⟩
def FI_CFG_LATCH_EN : Fld := ⟨0x900000, 15, 8⟩
def FI_STATE_STATE : Fld := ⟨0x900004, 31, 0⟩
def FI_RAW_RAW : Fld := ⟨0x900008, 31, 0⟩
def FO_CMD_CMD : Fld := ⟨0x900010, 31, 0⟩
def FO_READ_READ : Fld := ⟨0x900014, 31, 0⟩
def FO_FAULT_FAULT : Fld := ⟨0x900018, 31, 0⟩
def FO_GRP_CFG_EN (i : Nat) : Fld := ⟨0x900040 + 0x10 * i, 0, 0⟩
def FO_GRP_CFG_PAR (i : Nat) : Fld := ⟨0x900040 + 0x10 * i, 2, 1⟩
def FO_GRP_CFG_SAFE (i : Nat) : Fld := ⟨0x900040 + 0x10 * i, 15, 8⟩
def FO_GRP_CFG_WD_T (i : Nat) : Fld := ⟨0x900040 + 0x10 * i, 23, 16⟩
def FO_GRP_WD_FEED (i : Nat) : Fld := ⟨0x900044 + 0x10 * i, 7, 0⟩
def FO_GRP_WD_REARM (i : Nat) : Fld := ⟨0x900044 + 0x10 * i, 8, 8⟩
def FO_GRP_WD_EXPIRED (i : Nat) : Fld := ⟨0x900044 + 0x10 * i, 9, 9⟩
def FO_GRP_WD_HOLD (i : Nat) : Fld := ⟨0x900044 + 0x10 * i, 10, 10⟩
def FO_GRP_WD_BADKEY (i : Nat) : Fld := ⟨0x900044 + 0x10 * i, 11, 11⟩
def FI_FLT_FLT (i : Nat) : Fld := ⟨0x900100 + 0x4 * i, 7, 0⟩
def FIELD_SUPPLY_VFIELD : Fld := ⟨0x900080, 9, 0⟩
def FIELD_SUPPLY_UV_WARN : Fld := ⟨0x900080, 20, 16⟩
def FIELD_SUPPLY_UV_FAULT : Fld := ⟨0x900080, 25, 21⟩
def FIELD_SUPPLY_OV : Fld := ⟨0x900080, 30, 26⟩
def FIELD_HOLD_CFG_HOLD_WIN : Fld := ⟨0x900084, 10, 0⟩
def REC_STATUS_RUN : Fld := ⟨0xa00000, 0, 0⟩
def REC_STATUS_DRAM_VALID : Fld := ⟨0xa00000, 1, 1⟩
def REC_STATUS_DUMP_HELD : Fld := ⟨0xa00000, 2, 2⟩
def REC_STATUS_DUMP_COMPLETE : Fld := ⟨0xa00000, 3, 3⟩
def REC_STATUS_DUMP_CAUSE : Fld := ⟨0xa00000, 15, 8⟩
def REC_LOST_REPRO : Fld := ⟨0xa0000c, 15, 0⟩
def REC_LOST_NONREPRO : Fld := ⟨0xa0000c, 31, 16⟩
def REC_FLAGS_LOST : Fld := ⟨0xa00010, 0, 0⟩
def REC_FLAGS_CRC_DROP : Fld := ⟨0xa00010, 1, 1⟩
def REC_FLAGS_FATAL : Fld := ⟨0xa00010, 2, 2⟩
def DUMP_LEN_LEN : Fld := ⟨0xa00014, 31, 0⟩
def OWL_STATUS_TRACE : Fld := ⟨0xa00100, 0, 0⟩
def OWL_STATUS_PORT : Fld := ⟨0xa00100, 1, 1⟩
def OWL_STATUS_RATE : Fld := ⟨0xa00100, 3, 2⟩
def OWL_STATUS_SELECTED : Fld := ⟨0xa00100, 10, 4⟩
def OWL_STATUS_EPOCH : Fld := ⟨0xa00100, 31, 16⟩
def OWL_WRPOS_POS : Fld := ⟨0xa00104, 25, 0⟩
def OWL_PORT_DROP_DROPS : Fld := ⟨0xa00108, 31, 0⟩
def REC_NEWEST_INDEX : Fld := ⟨0xa00004, 31, 0⟩
def REC_OLDEST_INDEX : Fld := ⟨0xa00008, 31, 0⟩
def PWR_DOMAINS_ON : Fld := ⟨0xb00000, 13, 0⟩
def PAD_HOLD_LATCH : Fld := ⟨0xb00014, 0, 0⟩
def PAD_HOLD_RELEASE : Fld := ⟨0xb00014, 1, 1⟩
def PAD_HOLD_HELD : Fld := ⟨0xb00014, 2, 2⟩
def PAD_HOLD_FIELD_HELD : Fld := ⟨0xb00014, 11, 8⟩
def VCORE_STATUS_CONFIRMED : Fld := ⟨0xb00018, 9, 0⟩
def VCORE_STATUS_TARGET : Fld := ⟨0xb00018, 19, 10⟩
def VCORE_STATUS_BUSY : Fld := ⟨0xb00018, 20, 20⟩
def VCORE_STATUS_PG : Fld := ⟨0xb00018, 21, 21⟩
def TEMP_MAX_NOW : Fld := ⟨0xb0001c, 15, 0⟩
def TEMP_MAX_PEAK : Fld := ⟨0xb0001c, 31, 16⟩
def POST_RESULT_FAIL : Fld := ⟨0xb00020, 9, 0⟩
def POST_RESULT_LEVEL : Fld := ⟨0xb00020, 10, 10⟩
def PWR_FLAGS_VCORE_TIMEOUT : Fld := ⟨0xb00024, 0, 0⟩
def PWR_FLAGS_PG_LOST : Fld := ⟨0xb00024, 1, 1⟩
def PWR_FLAGS_THERMAL_WARN : Fld := ⟨0xb00024, 2, 2⟩
def PWR_FLAGS_THERMAL_FAULT : Fld := ⟨0xb00024, 3, 3⟩
def PWR_FLAGS_RESTARTING : Fld := ⟨0xb00024, 4, 4⟩
def WAKE_EN_EN : Fld := ⟨0xb00004, 4, 0⟩
def WAKE_SRC_SRC : Fld := ⟨0xb00008, 4, 0⟩
def WAKE_FI_MASK_MASK : Fld := ⟨0xb0000c, 31, 0⟩
def AON_TIMER_SECONDS : Fld := ⟨0xb00010, 31, 0⟩
def TILE_STATUS_RUN (i : Nat) : Fld := ⟨0xc00000 + 0x40 * i, 0, 0⟩
def TILE_STATUS_CTX (i : Nat) : Fld := ⟨0xc00000 + 0x40 * i, 1, 1⟩
def TILE_USE_LAST (i : Nat) : Fld := ⟨0xc00004 + 0x40 * i, 19, 0⟩
def TILE_PEAK_PEAK (i : Nat) : Fld := ⟨0xc00008 + 0x40 * i, 19, 0⟩
def TILE_ENTRY_PEAK (i : Nat) : Fld := ⟨0xc0000c + 0x40 * i, 2, 0⟩
def TILE_SBX_VIOL (i : Nat) : Fld := ⟨0xc00010 + 0x40 * i, 0, 0⟩
def TILE_SBX_CAUSE (i : Nat) : Fld := ⟨0xc00010 + 0x40 * i, 3, 1⟩
def TILE_SBX_LAW (i : Nat) : Fld := ⟨0xc00010 + 0x40 * i, 9, 4⟩
def TILE_SBX_COUNT (i : Nat) : Fld := ⟨0xc00010 + 0x40 * i, 31, 16⟩
def CLAW_BIND_TILE (i : Nat) : Fld := ⟨0xc04000 + 0x10 * i, 3, 0⟩
def CLAW_BIND_CTX (i : Nat) : Fld := ⟨0xc04000 + 0x10 * i, 4, 4⟩
def CLAW_BIND_STAGE (i : Nat) : Fld := ⟨0xc04000 + 0x10 * i, 5, 5⟩
def CLAW_BIND_BINDINGS (i : Nat) : Fld := ⟨0xc04000 + 0x10 * i, 10, 8⟩
def CLAW_DECL_DECLARED (i : Nat) : Fld := ⟨0xc04004 + 0x10 * i, 19, 0⟩
def CLAW_LAST_LAST (i : Nat) : Fld := ⟨0xc04008 + 0x10 * i, 19, 0⟩
def CLAW_PEAK_PEAK (i : Nat) : Fld := ⟨0xc0400c + 0x10 * i, 19, 0⟩
def AX_STATE_STATE (i : Nat) : Fld := ⟨0xc08000 + 0x20 * i, 2, 0⟩
def AX_STATE_CUR_LAW (i : Nat) : Fld := ⟨0xc08000 + 0x20 * i, 4, 3⟩
def AX_STATE_OUTER (i : Nat) : Fld := ⟨0xc08000 + 0x20 * i, 7, 5⟩
def AX_STATE_FAULT (i : Nat) : Fld := ⟨0xc08000 + 0x20 * i, 15, 8⟩
def AX_STATE_LAW_IDX (i : Nat) : Fld := ⟨0xc08000 + 0x20 * i, 23, 16⟩
def AX_FLAGS_FE_WARN (i : Nat) : Fld := ⟨0xc08004 + 0x20 * i, 0, 0⟩
def AX_FLAGS_AGED (i : Nat) : Fld := ⟨0xc08004 + 0x20 * i, 1, 1⟩
def AX_FLAGS_DEGRADED (i : Nat) : Fld := ⟨0xc08004 + 0x20 * i, 2, 2⟩
def AX_FLAGS_LAW_FALLBACK (i : Nat) : Fld := ⟨0xc08004 + 0x20 * i, 3, 3⟩
def AX_FLAGS_CAL_VALID (i : Nat) : Fld := ⟨0xc08004 + 0x20 * i, 4, 4⟩
def AX_SAT_VCMD (i : Nat) : Fld := ⟨0xc08008 + 0x20 * i, 0, 0⟩
def AX_SAT_VEL_INT (i : Nat) : Fld := ⟨0xc08008 + 0x20 * i, 1, 1⟩
def AX_SAT_TORQUE (i : Nat) : Fld := ⟨0xc08008 + 0x20 * i, 2, 2⟩
def AX_SAT_CUR_INT_D (i : Nat) : Fld := ⟨0xc08008 + 0x20 * i, 3, 3⟩
def AX_SAT_CUR_INT_Q (i : Nat) : Fld := ⟨0xc08008 + 0x20 * i, 4, 4⟩
def AX_SAT_VOLT (i : Nat) : Fld := ⟨0xc08008 + 0x20 * i, 5, 5⟩
def AX_SAT_TILE_ARITH (i : Nat) : Fld := ⟨0xc08008 + 0x20 * i, 6, 6⟩
def AX_SAT_CUSTOM_ARITH (i : Nat) : Fld := ⟨0xc08008 + 0x20 * i, 7, 7⟩
def AX_FERR_FE (i : Nat) : Fld := ⟨0xc0800c + 0x20 * i, 31, 0⟩
def AX_AGE_AGE (i : Nat) : Fld := ⟨0xc08010 + 0x20 * i, 2, 0⟩
def AX_AGE_PEAK (i : Nat) : Fld := ⟨0xc08010 + 0x20 * i, 10, 8⟩
def AX_MAJ_MAJ (i : Nat) : Fld := ⟨0xc08014 + 0x20 * i, 31, 0⟩
def LYNX_STATUS_RUNNING : Fld := ⟨0xd00000, 0, 0⟩
def LYNX_STATUS_STALE_TRACKS : Fld := ⟨0xd00000, 1, 1⟩
def LYNX_STATUS_STALE_MEMBER : Fld := ⟨0xd00000, 2, 2⟩
def LYNX_STATUS_TRACKS : Fld := ⟨0xd00000, 12, 8⟩
def LYNX_FRAME_PLAN : Fld := ⟨0xd00004, 31, 0⟩
def LYNX_FLAGS_STALE : Fld := ⟨0xd00008, 0, 0⟩
def LYNX_FLAGS_DROPPED : Fld := ⟨0xd00008, 1, 1⟩
def LYNX_FLAGS_HOLD : Fld := ⟨0xd00008, 2, 2⟩
def LYNX_SCALE_SCALE (i : Nat) : Fld := ⟨0xd00010 + 0x4 * i, 15, 0⟩
def LYNX_SCALE_CAUSE (i : Nat) : Fld := ⟨0xd00010 + 0x4 * i, 18, 16⟩
def LYNX_CLR_CLR (i : Nat) : Fld := ⟨0xd00030 + 0x4 * i, 31, 0⟩
def SAFE_CH_STATUS_STATE (i : Nat) : Fld := ⟨0xe00000 + 0x20 * i, 1, 0⟩
def SAFE_CH_STATUS_TICK_OK (i : Nat) : Fld := ⟨0xe00000 + 0x20 * i, 2, 2⟩
def SAFE_CH_STATUS_SET_VALID (i : Nat) : Fld := ⟨0xe00000 + 0x20 * i, 3, 3⟩
def SAFE_CH_STATUS_FAULT (i : Nat) : Fld := ⟨0xe00000 + 0x20 * i, 15, 8⟩
def SAFE_CH_SIG_SIG (i : Nat) : Fld := ⟨0xe00004 + 0x20 * i, 31, 0⟩
def SAFE_CH_FRAME_MAJ (i : Nat) : Fld := ⟨0xe00008 + 0x20 * i, 31, 0⟩
def SAFE_CH_IN_LEVEL (i : Nat) : Fld := ⟨0xe0000c + 0x20 * i, 7, 0⟩
def SAFE_CH_IN_DISC (i : Nat) : Fld := ⟨0xe0000c + 0x20 * i, 15, 8⟩
def SAFE_CH_IN_EDM (i : Nat) : Fld := ⟨0xe0000c + 0x20 * i, 23, 16⟩
def SAFE_CH_IN_SW (i : Nat) : Fld := ⟨0xe0000c + 0x20 * i, 31, 24⟩
def SAFE_GRP_STATE_A (i : Nat) : Fld := ⟨0xe00040 + 0x4 * i, 1, 0⟩
def SAFE_GRP_STATE_B (i : Nat) : Fld := ⟨0xe00040 + 0x4 * i, 3, 2⟩
def SAFE_GRP_APPLIED (i : Nat) : Fld := ⟨0xe00040 + 0x4 * i, 5, 4⟩
def SAFE_GRP_FAULT (i : Nat) : Fld := ⟨0xe00040 + 0x4 * i, 6, 6⟩
def SAFE_GRP_RESET_WAIT (i : Nat) : Fld := ⟨0xe00040 + 0x4 * i, 7, 7⟩
def SAFE_GRP_CAUSE (i : Nat) : Fld := ⟨0xe00040 + 0x4 * i, 15, 8⟩
def SAFE_GRP_SLS (i : Nat) : Fld := ⟨0xe00040 + 0x4 * i, 17, 16⟩
def SAFE_CONN_ACCEPTED (i : Nat) : Fld := ⟨0xe00100 + 0x4 * i, 0, 0⟩
def SAFE_CONN_EXPIRED (i : Nat) : Fld := ⟨0xe00100 + 0x4 * i, 1, 1⟩
def SAFE_CONN_DISCARDS (i : Nat) : Fld := ⟨0xe00100 + 0x4 * i, 15, 8⟩
def SAFE_CONN_SEQ (i : Nat) : Fld := ⟨0xe00100 + 0x4 * i, 31, 16⟩
def SAFE_FLAGS_TICK_LOST : Fld := ⟨0xe000c0, 0, 0⟩
def SAFE_FLAGS_ENVELOPE : Fld := ⟨0xe000c0, 1, 1⟩
def SAFE_FLAGS_EDM : Fld := ⟨0xe000c0, 2, 2⟩
def SAFE_FLAGS_TEST_PULSE : Fld := ⟨0xe000c0, 3, 3⟩
def SAFE_FLAGS_SPOS_STALE : Fld := ⟨0xe000c0, 4, 4⟩
def SAFE_FLAGS_CONN_TIMEOUT : Fld := ⟨0xe000c0, 5, 5⟩
def SEP_GRP_STATUS_ZONE_A (i : Nat) : Fld := ⟨0xe00200 + 0x10 * i, 1, 0⟩
def SEP_GRP_STATUS_ZONE_B (i : Nat) : Fld := ⟨0xe00200 + 0x10 * i, 3, 2⟩
def SEP_GRP_STATUS_APPLIED (i : Nat) : Fld := ⟨0xe00200 + 0x10 * i, 5, 4⟩
def SEP_GRP_STATUS_EN (i : Nat) : Fld := ⟨0xe00200 + 0x10 * i, 6, 6⟩
def SEP_GRP_STATUS_ACCEL (i : Nat) : Fld := ⟨0xe00200 + 0x10 * i, 7, 7⟩
def SEP_GRP_STATUS_NEAR (i : Nat) : Fld := ⟨0xe00200 + 0x10 * i, 15, 8⟩
def SEP_GRP_MARGIN_MARGIN_A (i : Nat) : Fld := ⟨0xe00204 + 0x10 * i, 15, 0⟩
def SEP_GRP_MARGIN_MARGIN_B (i : Nat) : Fld := ⟨0xe00204 + 0x10 * i, 31, 16⟩
def SEP_GRP_SP_SP_A (i : Nat) : Fld := ⟨0xe00208 + 0x10 * i, 15, 0⟩
def SEP_GRP_SP_SP_B (i : Nat) : Fld := ⟨0xe00208 + 0x10 * i, 31, 16⟩
def SEP_GRP_VCART_V_A (i : Nat) : Fld := ⟨0xe0020c + 0x10 * i, 15, 0⟩
def SEP_GRP_VCART_V_B (i : Nat) : Fld := ⟨0xe0020c + 0x10 * i, 31, 16⟩
def SEP_SRC_OK (i : Nat) : Fld := ⟨0xe00280 + 0x4 * i, 0, 0⟩
def SEP_SRC_COVER_OCC (i : Nat) : Fld := ⟨0xe00280 + 0x4 * i, 1, 1⟩
def SEP_SRC_TRACKS (i : Nat) : Fld := ⟨0xe00280 + 0x4 * i, 3, 2⟩
def SEP_SRC_AGE (i : Nat) : Fld := ⟨0xe00280 + 0x4 * i, 31, 16⟩
def SEP_FLAGS_STOP : Fld := ⟨0xe000c4, 0, 0⟩
def SEP_FLAGS_SPEED_RED : Fld := ⟨0xe000c4, 1, 1⟩
def SEP_FLAGS_ACCEL : Fld := ⟨0xe000c4, 2, 2⟩
def SEP_FLAGS_COVERAGE : Fld := ⟨0xe000c4, 3, 3⟩
def SEP_FLAGS_TRACK_REJECT : Fld := ⟨0xe000c4, 4, 4⟩
def HOST_STATUS_DEV_STATE : Fld := ⟨0x10000000, 3, 0⟩
def HOST_STATUS_PROTO_MAX : Fld := ⟨0x10000000, 23, 8⟩
def HOST_READY_EST_EST_MS : Fld := ⟨0x10000004, 15, 0⟩
def SES_REQ_BASE_LO_ADDR_LO (i : Nat) : Fld := ⟨0x10001000 + 0x40 * i, 31, 12⟩
def SES_REQ_BASE_HI_ADDR_HI (i : Nat) : Fld := ⟨0x10001004 + 0x40 * i, 31, 0⟩
def SES_RSP_BASE_LO_ADDR_LO (i : Nat) : Fld := ⟨0x10001008 + 0x40 * i, 31, 12⟩
def SES_RSP_BASE_HI_ADDR_HI (i : Nat) : Fld := ⟨0x1000100c + 0x40 * i, 31, 0⟩
def SES_REQ_TAIL_TAIL (i : Nat) : Fld := ⟨0x10001010 + 0x40 * i, 15, 0⟩
def SES_REQ_HEAD_HEAD (i : Nat) : Fld := ⟨0x10001014 + 0x40 * i, 15, 0⟩
def SES_RSP_TAIL_TAIL (i : Nat) : Fld := ⟨0x10001018 + 0x40 * i, 15, 0⟩
def SES_RSP_HEAD_HEAD (i : Nat) : Fld := ⟨0x1000101c + 0x40 * i, 15, 0⟩
def SES_CTRL_IRQ_EN (i : Nat) : Fld := ⟨0x10001020 + 0x40 * i, 0, 0⟩
def SES_STATE_OPEN (i : Nat) : Fld := ⟨0x10001024 + 0x40 * i, 0, 0⟩
def SES_STATE_VERSION (i : Nat) : Fld := ⟨0x10001024 + 0x40 * i, 31, 16⟩
def SES_XFAIL_FAILS (i : Nat) : Fld := ⟨0x10001028 + 0x40 * i, 15, 0⟩
def SES_XFAIL_RING_ERR (i : Nat) : Fld := ⟨0x10001028 + 0x40 * i, 16, 16⟩

end Fld

end Sys2Proof.Machine
end

