-- ==== Sys2Proof/Machine/Types/Device.lean ====
section
/-!
DEFINITION. The whole block: the motion and field dice with everything on them, both safety channels, the loop tiles.
-/
namespace Sys2Proof.Machine

/-- The answer of a mailbox command (R66): status, detail, EFFECT, response payload. -/
structure Ans where
  status : Nat := 0
  detail : Nat := 0
  effect : Nat := 0
  payload : List Byte := []
deriving DecidableEq, Repr, Inhabited

/-- Motion die, field die and what they drive; registers by address, the rest by unit. -/
structure Dev where
  /-- Registers of BAR2 and BAR0 by address, default their reset value (R8, R471). -/
  regs : Tab Word := []
  /-- Everything that has left the device, newest first. -/
  out : List Out := []
  /-- Number of free values used. -/
  fresh : Nat := 0
  /-- Value returned by the last register or bus read. -/
  rd : Nat := 0
  /-- Answer of the last mailbox command taken as a row of its own, with its session. -/
  ans : Nat × Ans := (0, {})
  esc : Esc := {}
  rmt : Rmt := {}
  ses : Tab Ses := []
  img : Img := {}
  rec_ : Rec := {}
  grp : Tab Group := []
  conv : Tab Conveyor := []
  /-- Masters of the cell link: gearing 0 to 7, conveyors 8 to 15 (R121, R141). -/
  masters : Tab Master := []
  trig : Tab Trig := []
  lynx : Lynx := {}
  /-- Joined starts issued and not yet decided (R125). -/
  issue : List Issue := []
  ax : Tab Axis := []
  dl : Tab Port := []
  mods : Tab Module := []
  io : Io := {}
  bad : SafLink := {}
  net : Net := {}
  pwr : Pwr := {}
deriving DecidableEq, Repr, Inhabited

/-- Everything but the queue of commands. -/
structure Blk where
  dev : Dev := {}
  /-- The device as it stood at the start of the present major frame: what queries answer from (R85). -/
  was : Dev := {}
  /-- The two Badgers with their dice: no command of the motion die reaches in here (R16). -/
  saf : Safety := {}
  /-- Loop tiles 0 to 15 (R186). -/
  tiles : Tab Tile := []
deriving DecidableEq, Repr, Inhabited

end Sys2Proof.Machine
end

