-- ==== Sys2Proof/Machine/Ops.lean ====
section
/-!
DEFINITION. The named operations every family uses: bytes, registers and their fields, outputs, free values, event
records.
-/
namespace Sys2Proof.Machine

/-! ### Bytes (R4: little-endian) -/

/-- `n` bytes of `v`, least significant first. -/
def le : Nat → Nat → List Byte
  | 0, _ => []
  | n + 1, v => BitVec.ofNat 8 v :: le n (v / 256)

/-- The number that bytes spell, least significant first. -/
def ofLe : List Byte → Nat
  | [] => 0
  | b :: r => b.toNat + 256 * ofLe r

/-- `n` bytes of `l` from byte `i` on as a number; bytes beyond the end count as 0. -/
def leAt (l : List Byte) (i n : Nat) : Nat := ofLe ((l.drop i).take n)

/-- A signed field of `n` bytes (R5). -/
def sleAt (l : List Byte) (i n : Nat) : Int := (BitVec.ofNat (8 * n) (leAt l i n)).toInt

/-- `n` bytes of a signed number (R5). -/
def sle (n : Nat) (v : Int) : List Byte := le n (BitVec.ofInt (8 * n) v).toNat

/-- `l` filled with zero bytes to length `n`. -/
def padTo (n : Nat) (l : List Byte) : List Byte := l ++ List.replicate (n - l.length) 0

/-- Are bytes `i` to `i + n − 1` of `l` all 0 (R65)? -/
def zeroAt (l : List Byte) (i n : Nat) : Bool := ((l.drop i).take n).all (· == 0)

/-- The low `w` bits of a signed number as a field value (R5). -/
def sfield (w : Nat) (v : Int) : Nat := (BitVec.ofInt w v).toNat

/-- A field value of `w` bits read as signed (R5). -/
def ufield (w : Nat) (v : Nat) : Int := (BitVec.ofNat w v).toInt

/-- `v` kept inside `lo .. hi`. -/
def clampI (lo hi v : Int) : Int := max lo (min hi v)
def clampR (lo hi v : Rat) : Rat := max lo (min hi v)

/-- A rational truncated towards zero (R157), and rounded to nearest with ties away from zero (R147) or to even. -/
def truncR (x : Rat) : Int := if 0 ≤ x then x.floor else x.ceil
def roundAway (x : Rat) : Int := if 0 ≤ x then (x + 1/2).floor else (x - 1/2).ceil
def roundEven (x : Rat) : Int :=
  let f := x.floor
  if x - f < 1/2 then f else if 1/2 < x - f then f + 1 else if f % 2 = 0 then f else f + 1

def absR (x : Rat) : Rat := if x < 0 then -x else x
def signR (x : Rat) : Int := if x < 0 then -1 else if 0 < x then 1 else 0

/-! ### Registers -/

/-- The register file reads an unlisted address as its reset value (R9: 0 where none is assigned). -/
def rget : Tab Word → Nat → Word
  | [], a => regReset a
  | (k, v) :: r, a => if k = a then v else rget r a

/-- Register write in canonical form. -/
def rset (l : Tab Word) (a : Nat) (v : Word) : Tab Word := if v = regReset a then tdel l a else tins l a v

/-- Value of the register at `a`. -/
def Dev.reg (d : Dev) (a : Nat) : Word := rget d.regs a

/-- The register at `a` takes the value `v`: by hardware, whatever the access code. -/
def Dev.setReg (d : Dev) (a : Nat) (v : Word) : Dev := { d with regs := rset d.regs a v }

/-- Mask of a field. -/
def Fld.mask (f : Fld) : Word := BitVec.ofNat 32 ((2 ^ (f.hi - f.lo + 1) - 1) * 2 ^ f.lo)

/-- Value of a field, as a number. -/
def Dev.f (d : Dev) (x : Fld) : Nat := (d.reg x.addr).toNat / 2 ^ x.lo % 2 ^ (x.hi - x.lo + 1)

/-- Value of a one-bit field. -/
def Dev.b (d : Dev) (x : Fld) : Bool := (d.reg x.addr).getLsbD x.lo

/-- A field takes a value, by hardware; bits beyond its width are dropped. -/
def Dev.setF (d : Dev) (x : Fld) (v : Nat) : Dev :=
  d.setReg x.addr ((d.reg x.addr &&& ~~~x.mask) ||| (BitVec.ofNat 32 (v * 2 ^ x.lo) &&& x.mask))

/-- Set or clear a one-bit field by hardware. -/
def Dev.setB (d : Dev) (x : Fld) (v : Bool) : Dev := d.setF x v.toNat

/-- Set a signed field. -/
def Dev.setS (d : Dev) (x : Fld) (v : Int) : Dev := d.setF x (sfield (x.hi - x.lo + 1) v)

/-- A saturating counter field rises by `n`. -/
def Dev.count (d : Dev) (x : Fld) (n : Nat := 1) : Dev := d.setF x (min (2 ^ (x.hi - x.lo + 1) - 1) (d.f x + n))

/-- A peak field keeps the highest value seen since it was read. -/
def Dev.peak (d : Dev) (x : Fld) (v : Nat) : Dev := d.setF x (max (d.f x) (min (2 ^ (x.hi - x.lo + 1) - 1) v))

/-! ### Outputs, free values -/

/-- Something leaves the device. -/
def Dev.emit (d : Dev) (o : Out) : Dev := { d with out := o :: d.out }

/-- The next free value (log entry 3) and the device with the counter advanced. -/
def Dev.free (d : Dev) : Nat × Dev := (Config.freeValue d.fresh, { d with fresh := d.fresh + 1 })

/-- An interrupt of a delegated block whose condition the spec does not give (R101): whether this event raises it is a free value
(log entry 66). -/
def Dev.mayRaise (d : Dev) (vector : Nat) : Dev := if d.free.1 % 2 = 1 then d.free.2.emit (.msix vector) else d.free.2

/-! ### Time -/

/-- M, S and P of Table 2-1 from ESC_CFG; M is 0 while not configured. -/
def Dev.M (d : Dev) : Nat := match d.f .ESC_CFG_MAJ_DIV with | 1 => 2 | 2 => 4 | 3 => 8 | _ => 0
def Dev.S (d : Dev) : Nat := d.f .ESC_CFG_SAFE_DIV
def Dev.P (d : Dev) : Nat := d.f .ESC_CFG_PLAN_DIV

/-- Configured minor frame length in CLK_TIME cycles of 1.25 ns, and the major frame length. -/
def Dev.tMinor (d : Dev) : Nat := d.f .ESC_CFG_MINOR_PER
def Dev.tMajor (d : Dev) : Nat := d.M * d.tMinor

/-- Length of a minor and of a major frame in seconds. -/
def Dev.sMinor (d : Dev) : Rat := (d.tMinor : Rat) / 800000000
def Dev.sMajor (d : Dev) : Rat := (d.tMajor : Rat) / 800000000

/-- Present minor index. -/
def Dev.minor (d : Dev) : Nat := d.f .ESC_MINOR_INDEX

/-- A time base runs (R33). -/
def Dev.running (d : Dev) : Bool := d.b .ESC_STATUS_RUNNING

/-- Minor frame number (R31). -/
def Dev.minorNo (d : Dev) : Nat := d.esc.maj * d.M + d.minor

/-- A duration in ms as major frames, rounded up. -/
def Dev.framesOfMs (d : Dev) (ms : Nat) : Nat := if d.tMajor = 0 then 0 else (ms * 800000 + d.tMajor - 1) / d.tMajor

/-- Major frame, minor index and offset from the minor boundary of an instant of the present or the previous minor
frame. -/
def Dev.locate (d : Dev) (at_ : Nat) : Nat × Nat × Nat :=
  if d.esc.t0 ≤ at_ then (d.esc.maj, d.minor, at_ - d.esc.t0)
  else
    let ofs := at_ - (d.esc.t0 - d.esc.prevLen)
    if d.minor = 0 then (d.esc.maj - 1, d.M - 1, ofs) else (d.esc.maj, d.minor - 1, ofs)

/-! ### Event records (R408 to R412) -/

/-- A parameter as it enters a record: values that do not fit saturate, and SAT is set (R409). -/
def satU (v : Nat) : Nat × Bool := if v < 2 ^ 32 then (v, false) else (2 ^ 32 - 1, true)
def satS (v : Int) : Nat × Bool :=
  if v < -(2 ^ 31) then (2 ^ 31, true) else if 2 ^ 31 ≤ v then (2 ^ 31 - 1, true) else (sfield 32 v, false)

/-- A record of code `code` with parameters; SAT in FLAGS bit 2 where one saturated. -/
def mkRecord (frame code source : Nat) (p0 p1 p2 : Int) : Record :=
  let q := fun (v : Int) => if 0 ≤ v then satU v.toNat else satS v
  { frame := frame, code := code, source := min source 0xFFFF, p0 := (q p0).1, p1 := (q p1).1, p2 := (q p2).1,
    flags := if (q p0).2 || (q p1).2 || (q p2).2 then 4 else 0 }

/-- Same CODE, SOURCE and parameters (R412). -/
def sameRecord (a b : Record) : Bool :=
  a.code == b.code && a.source == b.source && a.p0 == b.p0 && a.p1 == b.p1 && a.p2 == b.p2

/-- R412: the repeat of the newest record with this CODE and SOURCE among the last 64 written, where it equals the new
occurrence and is not CLOSED; `none` where a new record is needed. -/
def repeatIn (r : Record) : Nat → List (Nat × Record) → Option (List (Nat × Record))
  | 0, _ => none
  | _, [] => none
  | n + 1, (i, x) :: rest =>
    if x.code = r.code && x.source = r.source then
      if sameRecord x r && x.flags / 8 % 2 = 0 then
        let k := x.rep + 1
        some ((i, { x with rep := k, flags := if k = 65535 then x.flags + 8 else x.flags }) :: rest)
      else none
    else match repeatIn r n rest with
      | some l => some ((i, x) :: l)
      | none => none

/-- Append a record to the rings of `n` entries (R414), newest first. -/
def ringPush (cap : Nat) (i : Nat) (r : Record) (l : List (Nat × Record)) : List (Nat × Record) :=
  ((i, r) :: l).take cap

/-- A record is written to both rings, or counted as a repeat (R412, R414). Answers whether a new one was made. -/
def Rec.write (c : Rec) (r : Record) : Rec × Bool :=
  match repeatIn r 64 c.dram with
  | some l =>
    ({ c with dram := l, ret := (repeatIn r 64 c.ret).getD c.ret }, false)
  | none =>
    ({ c with dram := ringPush 65536 c.idx r c.dram, ret := ringPush 1024 c.idx r c.ret, idx := c.idx + 1 }, true)

/-- REC_NEWEST and REC_OLDEST follow the rings (R428). -/
def Dev.recRegs (d : Dev) : Dev :=
  (d.setF .REC_NEWEST_INDEX (d.rec_.idx - 1)).setF .REC_OLDEST_INDEX (d.rec_.idx - d.rec_.dram.length)

/-- Outside a time base a record is written at once, with ORDER counted from the reset and OUTSIDE set (R410);
BOOTROM marks BOOT and SAFE-TALK. -/
def Dev.writeOutside (d : Dev) (r : Record) : Dev :=
  let st := d.f .HOST_STATUS_DEV_STATE
  let r := { r with frame := 0xFFFFFFFFFFFF, order := d.rec_.outOrder % 65536,
                    flags := r.flags + 16 + (if st = 1 || st = 3 then 2 else 0) }
  let w := d.rec_.write r
  { d with rec_ := { w.1 with outOrder := d.rec_.outOrder + (if w.2 then 1 else 0) } }.recRegs

/-- Raise a record now: in a time base it is one of the present major frame and takes its ORDER when the frame's
records are ordered (R410). -/
def Dev.raise (d : Dev) (code source : Nat) (p0 p1 p2 : Int) : Dev :=
  let r := mkRecord d.esc.maj code source p0 p1 p2
  if d.running then { d with rec_ := { d.rec_ with now := d.rec_.now ++ [r] } } else d.writeOutside r

/-- Raise a record of an event that falls between boundaries: it belongs to the next major frame (R410, R58). -/
def Dev.raiseNext (d : Dev) (code source : Nat) (p0 p1 p2 : Int) : Dev :=
  let r := mkRecord (d.esc.maj + 1) code source p0 p1 p2
  if d.running then { d with rec_ := { d.rec_ with next := d.rec_.next ++ [r] } } else d.writeOutside r

/-- A record that concerns the device as a whole (R409). -/
def Dev.raiseDev (d : Dev) (code : Nat) (p0 p1 p2 : Int) : Dev := d.raise code 0xFFFF p0 p1 p2

/-! ### Tables of the device -/

def Dev.axis (d : Dev) (n : Nat) : Axis := tget {} d.ax n
def Dev.setAxis (d : Dev) (n : Nat) (a : Axis) : Dev := { d with ax := tset {} d.ax n a }
def Dev.group (d : Dev) (n : Nat) : Group := tget {} d.grp n
def Dev.setGroup (d : Dev) (n : Nat) (g : Group) : Dev := { d with grp := tset {} d.grp n g }
def Dev.session (d : Dev) (n : Nat) : Ses := tget {} d.ses n
def Dev.setSession (d : Dev) (n : Nat) (x : Ses) : Dev := { d with ses := tset {} d.ses n x }
def Dev.port (d : Dev) (n : Nat) : Port := tget {} d.dl n
def Dev.setPort (d : Dev) (n : Nat) (p : Port) : Dev := { d with dl := tset {} d.dl n p }
def Dev.posn (d : Dev) (n k : Nat) : Pos := tget {} (d.port n).pos k
def Dev.setPosn (d : Dev) (n k : Nat) (p : Pos) : Dev :=
  d.setPort n { d.port n with pos := tset {} (d.port n).pos k p }
/-- A module by port × 16 + position. -/
def Dev.modl (d : Dev) (n : Nat) : Module := tget {} d.mods n
def Dev.setModl (d : Dev) (n : Nat) (m : Module) : Dev := { d with mods := tset {} d.mods n m }
def Dev.cv (d : Dev) (n : Nat) : Conveyor := tget {} d.conv n
def Dev.setCv (d : Dev) (n : Nat) (c : Conveyor) : Dev := { d with conv := tset {} d.conv n c }
def Blk.tile (b : Blk) (n : Nat) : Tile := tget {} b.tiles n
def Blk.setTile (b : Blk) (n : Nat) (t : Tile) : Blk := { b with tiles := tset {} b.tiles n t }

/-- Configuration of the running image, none while no image runs. -/
def Dev.axCfg (d : Dev) (n : Nat) : Option AxisCfg := d.img.run.bind (fun i => tget none i.axes n)
def Dev.grpCfg (d : Dev) (n : Nat) : Option GroupCfg := d.img.run.bind (fun i => tget none i.groups n)
def Dev.convCfg (d : Dev) (n : Nat) : Option ConvCfg := d.img.run.bind (fun i => tget none i.convs n)
def Dev.modCfg (d : Dev) (port k : Nat) : ModCfg :=
  match d.img.run with | some i => tget {} i.mods (port * 16 + k) | none => {}
def Dev.law (d : Dev) (k : Nat) : Option CustomLaw := d.img.run.bind (fun i => tget none i.laws k)

/-- Numbers of the configured axes and groups, ascending. -/
def Dev.axisList (d : Dev) : List Nat := (List.range 96).filter (fun n => (d.axCfg n).isSome)
def Dev.groupList (d : Dev) : List Nat := (List.range 12).filter (fun n => (d.grpCfg n).isSome)

/-- Apply a function for each element of a list, first to last. -/
def forEach {σ α : Type} (l : List α) (f : σ → α → σ) (s : σ) : σ := l.foldl f s

end Sys2Proof.Machine
end

