-- ==== Sys2Proof/Machine/Geometry.lean ====
section
/-!
DEFINITION. Geometry the Badgers compute (R328 to R334): link frames from modified Denavit–Hartenberg parameters,
distances between capsules and person volumes. Lengths are whole nm, rotations in units of 2^-64 (log entry 30).
-/
namespace Sys2Proof.Machine

/-- A point or vector, nm (or 2^-64 for directions). -/
structure V3 where
  x : Int := 0
  y : Int := 0
  z : Int := 0
deriving DecidableEq, Repr, Inhabited

def V3.add (a b : V3) : V3 := ⟨a.x + b.x, a.y + b.y, a.z + b.z⟩
def V3.sub (a b : V3) : V3 := ⟨a.x - b.x, a.y - b.y, a.z - b.z⟩
def V3.dot (a b : V3) : Int := a.x * b.x + a.y * b.y + a.z * b.z

/-- A frame: columns of the rotation in 2^-64, origin in nm. -/
structure Frame where
  cx : V3 := ⟨2 ^ 64, 0, 0⟩
  cy : V3 := ⟨0, 2 ^ 64, 0⟩
  cz : V3 := ⟨0, 0, 2 ^ 64⟩
  o : V3 := {}
deriving DecidableEq, Repr, Inhabited

/-- A vector of length `k` (nm, or 2^-64) along a direction. -/
def V3.along (v : V3) (k : Int) : V3 := ⟨(v.x * k).fdiv (2 ^ 64), (v.y * k).fdiv (2 ^ 64), (v.z * k).fdiv (2 ^ 64)⟩

/-- A point given in a frame, in the outer frame. -/
def Frame.point (f : Frame) (p : V3) : V3 := (((f.cx.along p.x).add (f.cy.along p.y)).add (f.cz.along p.z)).add f.o

/-- Sine and cosine of an angle in 2^-24 rev, in 2^-64. -/
def sin24 (a : Int) : Int := sinTurn (a % 2 ^ 24).toNat
def cos24 (a : Int) : Int := sinTurn ((a + 2 ^ 22) % 2 ^ 24).toNat

/-- R131: Rot_X(α) · Trans_X(a) · Rot_Z(θ) · Trans_Z(d) applied to a frame. -/
def Frame.dh (f : Frame) (alpha a theta d : Int) : Frame :=
  let o1 := f.o.add (f.cx.along a)
  let cy1 := (f.cy.along (cos24 alpha)).add (f.cz.along (sin24 alpha))
  let cz1 := (f.cz.along (cos24 alpha)).sub (f.cy.along (sin24 alpha))
  let cx2 := (f.cx.along (cos24 theta)).add (cy1.along (sin24 theta))
  let cy2 := (cy1.along (cos24 theta)).sub (f.cx.along (sin24 theta))
  { cx := cx2, cy := cy2, cz := cz1, o := o1.add (cz1.along d) }

/-- Frame of a unit quaternion (w, x, y, z) and a position (R130). -/
def Frame.ofQuat (w x y z : Rat) (o : V3) : Frame :=
  let k := fun (q : Rat) => (q * 2 ^ 64).floor
  { cx := ⟨k (1 - 2 * (y * y + z * z)), k (2 * (x * y + w * z)), k (2 * (x * z - w * y))⟩,
    cy := ⟨k (2 * (x * y - w * z)), k (1 - 2 * (x * x + z * z)), k (2 * (y * z + w * x))⟩,
    cz := ⟨k (2 * (x * z + w * y)), k (2 * (y * z - w * x)), k (1 - 2 * (x * x + y * y))⟩, o := o }

/-- Largest `r` below 2^(bits) with r² ≤ n, from the high bit down. -/
def isqrtFrom (n : Nat) : Nat → Nat → Nat
  | 0, r => r
  | b + 1, r => isqrtFrom n b (if (r + 2 ^ b) * (r + 2 ^ b) ≤ n then r + 2 ^ b else r)

/-- Square root rounded down. -/
def isqrt (n : Nat) : Nat := isqrtFrom n (n.log2 / 2 + 1) 0

/-- Length of a vector, rounded down to 1 nm. -/
def V3.len (v : V3) : Nat := isqrt (v.dot v).toNat

/-- Squared distance of a point from a segment. -/
def pointSeg2 (p a b : V3) : Rat :=
  let ab := b.sub a
  let ap := p.sub a
  let n := ab.dot ab
  if n = 0 then (ap.dot ap : Int)
  else
    let t := clampR 0 1 ((ap.dot ab : Rat) / n)
    let c := fun (u v : Int) => ((u : Rat) - t * v) * ((u : Rat) - t * v)
    c ap.x ab.x + c ap.y ab.y + c ap.z ab.z

/-- Squared distance of two segments: the interior solution where it exists, else an end of one. -/
def segSeg2 (p0 p1 q0 q1 : V3) : Rat :=
  let u := p1.sub p0
  let v := q1.sub q0
  let w := p0.sub q0
  let a := u.dot u
  let b := u.dot v
  let c := v.dot v
  let d := u.dot w
  let e := v.dot w
  let det := a * c - b * b
  let ends := min (min (pointSeg2 p0 q0 q1) (pointSeg2 p1 q0 q1)) (min (pointSeg2 q0 p0 p1) (pointSeg2 q1 p0 p1))
  if det = 0 then ends
  else
    let s : Rat := ((b * e - c * d : Int) : Rat) / det
    let t : Rat := ((a * e - b * d : Int) : Rat) / det
    if 0 ≤ s ∧ s ≤ 1 ∧ 0 ≤ t ∧ t ≤ 1 then
      let k := fun (wi ui vi : Int) => ((wi : Rat) + s * ui - t * vi) * ((wi : Rat) + s * ui - t * vi)
      min ends (k w.x u.x v.x + k w.y u.y v.y + k w.z u.z v.z)
    else ends

/-- Distance from a squared centre distance less radii (nm), rounded down to 1 mm; 0 when they touch or overlap. -/
def gapMm (d2 : Rat) (radii : Int) : Int :=
  let s : Int := isqrt d2.floor.toNat
  if s ≤ radii then 0 else (s - radii) / 1000000

/-! ### Prisms over a convex polygon -/

/-- Edges of a polygon. -/
def polyEdges (l : List (Int × Int)) : List ((Int × Int) × (Int × Int)) := l.zip (l.drop 1 ++ l.take 1)

/-- Twice the signed area; its sign is the orientation. -/
def polyArea (l : List (Int × Int)) : Int := ((polyEdges l).map (fun e => e.1.1 * e.2.2 - e.2.1 * e.1.2)).sum

/-- Outward side value of point (x, y) at an edge, orientation `o` 1 or −1: positive outside. -/
def edgeSide (o : Int) (e : (Int × Int) × (Int × Int)) (x y : Int) : Int :=
  -o * ((e.2.1 - e.1.1) * (y - e.1.2) - (e.2.2 - e.1.2) * (x - e.1.1))

/-- Interval of the segment parameter for which `f0 + t (f1 − f0) ≤ 0`, cut with `[lo, hi]`; empty where lo > hi. -/
def clipHalf (f0 f1 : Int) (iv : Rat × Rat) : Rat × Rat :=
  if f0 ≤ 0 then (if f1 ≤ 0 then iv else (iv.1, min iv.2 ((f0 : Rat) / (f0 - f1 : Int))))
  else if f1 ≤ 0 then (max iv.1 ((f0 : Rat) / (f0 - f1 : Int)), iv.2) else (1, 0)

/-- Does the segment meet the prism over `poly` from `z0` to `z1`? -/
def segInPrism (poly : List (Int × Int)) (z0 z1 : Int) (p q : V3) : Bool :=
  let o : Int := if polyArea poly < 0 then -1 else 1
  let iv := (polyEdges poly).foldl (fun iv e => clipHalf (edgeSide o e p.x p.y) (edgeSide o e q.x q.y) iv) ((0 : Rat), (1 : Rat))
  let iv := clipHalf (z0 - p.z) (z0 - q.z) iv
  let iv := clipHalf (p.z - z1) (q.z - z1) iv
  decide (iv.1 ≤ iv.2)

/-- Squared distance of a point from the polygon at height `z`, over its interior. -/
def pointFace2 (poly : List (Int × Int)) (z : Int) (p : V3) : Option Rat :=
  let o : Int := if polyArea poly < 0 then -1 else 1
  if (polyEdges poly).all (fun e => decide (edgeSide o e p.x p.y ≤ 0)) then some (((p.z - z) * (p.z - z) : Int) : Rat) else none

/-- Squared distance of a point from the vertical face over an edge, over the face's interior. -/
def pointSide2 (e : (Int × Int) × (Int × Int)) (z0 z1 : Int) (p : V3) : Option Rat :=
  if p.z < z0 ∨ z1 < p.z then none
  else some (pointSeg2 ⟨p.x, p.y, 0⟩ ⟨e.1.1, e.1.2, 0⟩ ⟨e.2.1, e.2.2, 0⟩)

def minOpt (a : Rat) : Option Rat → Rat | none => a | some b => min a b

/-- Squared distance of a segment from a prism, 0 where they meet. -/
def segPrism2 (poly : List (Int × Int)) (z0 z1 : Int) (p q : V3) : Rat :=
  if segInPrism poly z0 z1 p q then 0
  else
    let es := polyEdges poly
    let at_ := fun (v : Int × Int) (z : Int) => (⟨v.1, v.2, z⟩ : V3)
    let ds := es.flatMap (fun e => [segSeg2 p q (at_ e.1 z0) (at_ e.2 z0), segSeg2 p q (at_ e.1 z1) (at_ e.2 z1),
      segSeg2 p q (at_ e.1 z0) (at_ e.1 z1)])
    let fs := [pointFace2 poly z0 p, pointFace2 poly z0 q, pointFace2 poly z1 p, pointFace2 poly z1 q]
      ++ es.flatMap (fun e => [pointSide2 e z0 z1 p, pointSide2 e z0 z1 q])
    match ds with
    | [] => 0
    | d :: r => fs.foldl minOpt (r.foldl min d)

/-- Squared horizontal distance of a segment from an axis-aligned box. -/
def segBox2 (x0 x1 y0 y1 : Int) (p q : V3) : Rat :=
  segPrism2 [(x0, y0), (x1, y0), (x1, y1), (x0, y1)] (-1) 1 ⟨p.x, p.y, 0⟩ ⟨q.x, q.y, 0⟩

end Sys2Proof.Machine
end

