-- ==== Sys2Proof/Machine/Numeric.lean ====
section
/-!
DEFINITION. Real arithmetic of the planner, the arm models and the loop laws: roots, angles, vectors and matrices over
exact rationals. Irrational results are cut at a fixed number of bits (log entry 38).
-/
namespace Sys2Proof.Machine

/-- `x` cut at 40 bits after the point. -/
def cut (x : Rat) : Rat := (((x * 2 ^ 40).floor : Int) : Rat) / 2 ^ 40

/-- Square root of a non-negative number: the root itself where it is rational, else cut to 2^-64. -/
def sqrtR (x : Rat) : Rat :=
  let p := isqrt x.num.toNat
  let q := isqrt x.den
  if p * p = x.num.toNat ∧ q * q = x.den then (p : Rat) / q else (isqrt (x * 2 ^ 128).floor.toNat : Rat) / 2 ^ 64

/-- Cube root rounded down, from the high bit. -/
def icbrtFrom (n : Nat) : Nat → Nat → Nat
  | 0, r => r
  | b + 1, r => icbrtFrom n b (if (r + 2 ^ b) ^ 3 ≤ n then r + 2 ^ b else r)

def icbrt (n : Nat) : Nat := icbrtFrom n (n.log2 / 3 + 1) 0

/-- Cube root of a non-negative number, as `sqrtR`. -/
def cbrtR (x : Rat) : Rat :=
  let p := icbrt x.num.toNat
  let q := icbrt x.den
  if p ^ 3 = x.num.toNat ∧ q ^ 3 = x.den then (p : Rat) / q else (icbrt (x * 2 ^ 192).floor.toNat : Rat) / 2 ^ 64

/-- The number π, to 2^-62. -/
def piR : Rat := 2 * (halfPi : Rat) / 2 ^ 64

/-- Sine of an angle in 2^-24 rev, first order between the points of the table function. -/
def sinR (x : Rat) : Rat :=
  let a := x.floor
  (sin24 a + (x - a) * (piR / 2 ^ 23) * cos24 a) / 2 ^ 64

def cosR (x : Rat) : Rat := sinR (x + 2 ^ 22)

/-- Taylor polynomial of the arctangent, from the term of degree 2k + 1. -/
def atanSeries (t2 : Rat) : Nat → Rat → Nat → Rat
  | 0, _, _ => 0
  | n + 1, p, k => p / (2 * k + 1) - atanSeries t2 n (cut (p * t2)) (k + 1)

/-- Arctangent of |t| ≤ 1, in rad. -/
def atanR (t : Rat) : Rat :=
  let h := fun (u : Rat) => cut (u / (1 + sqrtR (1 + u * u)))
  let u := h (h t)
  4 * atanSeries (u * u) 14 u 0

/-- Angle of the vector (x, y), in rad, in (−π, π]. -/
def atan2R (y x : Rat) : Rat :=
  if x = 0 ∧ y = 0 then 0
  else if absR y ≤ absR x then
    if 0 < x then atanR (y / x) else if 0 ≤ y then piR + atanR (y / x) else atanR (y / x) - piR
  else if 0 < y then piR / 2 - atanR (x / y) else -(piR / 2) - atanR (x / y)

/-- A binary32 number as it stands in a parameter's value (R99, Table 4-6); an infinity or NaN reads as 0. -/
def ofFloat32 (w : Nat) : Rat :=
  let sgn : Rat := if w / 2 ^ 31 % 2 = 1 then -1 else 1
  let e := w / 2 ^ 23 % 256
  let m : Nat := w % 2 ^ 23
  if e = 255 then 0
  else if e = 0 then sgn * (m : Rat) / 2 ^ 149
  else if 150 ≤ e then sgn * ((m + 2 ^ 23 : Nat) : Rat) * 2 ^ (e - 150)
  else sgn * ((m + 2 ^ 23 : Nat) : Rat) / 2 ^ (150 - e)

/-! ### Vectors and rotations -/

/-- A vector of rationals. -/
structure R3 where
  x : Rat := 0
  y : Rat := 0
  z : Rat := 0
deriving DecidableEq, Repr, Inhabited

def R3.add (a b : R3) : R3 := ⟨a.x + b.x, a.y + b.y, a.z + b.z⟩
def R3.sub (a b : R3) : R3 := ⟨a.x - b.x, a.y - b.y, a.z - b.z⟩
def R3.smul (k : Rat) (a : R3) : R3 := ⟨k * a.x, k * a.y, k * a.z⟩
def R3.dot (a b : R3) : Rat := a.x * b.x + a.y * b.y + a.z * b.z
def R3.cross (a b : R3) : R3 := ⟨a.y * b.z - a.z * b.y, a.z * b.x - a.x * b.z, a.x * b.y - a.y * b.x⟩
def R3.cut (a : R3) : R3 := ⟨Machine.cut a.x, Machine.cut a.y, Machine.cut a.z⟩
def R3.len (a : R3) : Rat := sqrtR (a.dot a)
def R3.unit (a : R3) : R3 := if a.len = 0 then ⟨0, 0, 0⟩ else (a.smul (1 / a.len)).cut
def R3.list (a : R3) : List Rat := [a.x, a.y, a.z]
def R3.ofList (l : List Rat) : R3 := ⟨l.getD 0 0, l.getD 1 0, l.getD 2 0⟩
def R3.ofInts (l : List Int) : R3 := ⟨(l.getD 0 0 : Int), (l.getD 1 0 : Int), (l.getD 2 0 : Int)⟩

/-- A pose: the axes of a frame and its origin (nm). -/
structure Pose where
  cx : R3 := ⟨1, 0, 0⟩
  cy : R3 := ⟨0, 1, 0⟩
  cz : R3 := ⟨0, 0, 1⟩
  o : R3 := {}
deriving DecidableEq, Repr, Inhabited

/-- A vector of a frame, and a point of it, in the outer frame. -/
def Pose.vec (f : Pose) (v : R3) : R3 := ((f.cx.smul v.x).add ((f.cy.smul v.y).add (f.cz.smul v.z))).cut
def Pose.point (f : Pose) (v : R3) : R3 := (f.vec v).add f.o
/-- A vector of the outer frame in the frame's own axes. -/
def Pose.inv (f : Pose) (v : R3) : R3 := ⟨f.cx.dot v, f.cy.dot v, f.cz.dot v⟩
/-- Composition of poses. -/
def Pose.mul (f g : Pose) : Pose := ⟨f.vec g.cx, f.vec g.cy, f.vec g.cz, f.point g.o⟩

/-- A pose from a unit quaternion w, x, y, z and an origin (R130). -/
def Pose.ofQuat (q : List Rat) (o : R3) : Pose :=
  match q with
  | [w, x, y, z] =>
    ⟨⟨1 - 2 * (y * y + z * z), 2 * (x * y + w * z), 2 * (x * z - w * y)⟩,
     ⟨2 * (x * y - w * z), 1 - 2 * (x * x + z * z), 2 * (y * z + w * x)⟩,
     ⟨2 * (x * z + w * y), 2 * (y * z - w * x), 1 - 2 * (x * x + y * y)⟩, o⟩
  | _ => { o := o }

/-- Rotation by the vector `w` (rad) applied to a vector. -/
def rotate (w v : R3) : R3 :=
  let th := w.len
  if th = 0 then v
  else
    let k := w.unit
    let a := th * 2 ^ 23 / piR
    ((v.smul (cosR a)).add (((k.cross v).smul (sinR a)).add (k.smul (k.dot v * (1 - cosR a))))).cut

/-- A pose turned by a rotation vector, its origin kept. -/
def Pose.turn (w : R3) (f : Pose) : Pose := ⟨rotate w f.cx, rotate w f.cy, rotate w f.cz, f.o⟩

/-- Rotation vector (rad) that takes the axes of `f` to those of `g`. -/
def rotTo (f g : Pose) : R3 :=
  let v := (((f.cx.cross g.cx).add (f.cy.cross g.cy)).add (f.cz.cross g.cz))
  let tr := f.cx.dot g.cx + f.cy.dot g.cy + f.cz.dot g.cz
  let s := v.len
  if s = 0 then ⟨0, 0, 0⟩ else (v.smul (atan2R s (tr - 1) / s)).cut

/-! ### Matrices as lists of rows -/

abbrev Mat := List (List Rat)

def dotR (a b : List Rat) : Rat := ((a.zip b).map (fun p => p.1 * p.2)).sum
def Mat.apply (m : Mat) (v : List Rat) : List Rat := m.map (fun r => dotR r v)
def Mat.col (m : Mat) (j : Nat) : List Rat := m.map (fun r => r.getD j 0)
def Mat.tr (m : Mat) : Mat := (List.range (m.headD []).length).map (Mat.col m)
/-- m · mᵀ plus `d` on the diagonal. -/
def Mat.gram (m : Mat) (d : Rat) : Mat :=
  (List.range m.length).map (fun i => (List.range m.length).map (fun j => cut (dotR (m.getD i []) (m.getD j [])) + if i = j then d else 0))

/-- One column of Gauss elimination on an augmented matrix: rows done, rows to do. -/
def elimCol (c : Nat) (done todo : Mat) : Mat × Mat :=
  match todo.find? (fun r => decide (r.getD c 0 ≠ 0)) with
  | none => (done, todo)
  | some p =>
    let p := p.map (fun x => x / p.getD c 1)
    let clear := fun (r : List Rat) => (r.zip p).map (fun e => cut (e.1 - r.getD c 0 * e.2))
    let rest := (todo.erase (todo.find? (fun r => decide (r.getD c 0 ≠ 0)) |>.getD [])).map clear
    (done.map clear ++ [p], rest)

def elimAll : Nat → Nat → Mat → Mat → Mat
  | 0, _, done, _ => done
  | n + 1, c, done, todo => let r := elimCol c done todo; elimAll n (c + 1) r.1 r.2

/-- Solution of m · x = v for a square matrix of full rank; zeros where the rank falls short. -/
def Mat.solve (m : Mat) (v : List Rat) : List Rat :=
  let a := (m.zip v).map (fun p => p.1 ++ [p.2])
  let n := m.length
  let d := elimAll n 0 [] a
  (List.range n).map (fun i => (d.getD i []).getD n 0)

/-- Determinant by expansion along pivots. -/
def detFrom : Nat → Mat → Rat → Rat
  | 0, _, acc => acc
  | n + 1, m, acc =>
    match (List.range m.length).find? (fun i => decide ((m.getD i []).getD 0 0 ≠ 0)) with
    | none => 0
    | some i =>
      let p := m.getD i []
      let x := p.getD 0 1
      let rest := (m.eraseIdx i).map (fun r => (r.zip p).drop 1 |>.map (fun e => cut (e.1 - r.getD 0 0 / x * e.2)))
      detFrom n rest (cut (acc * x * (if i % 2 = 0 then 1 else -1)))

def Mat.det (m : Mat) : Rat := detFrom m.length m 1

end Sys2Proof.Machine
end

