-- ==== Sys2Proof/Machine/Profile.lean ====
section
/-!
DEFINITION. Jerk-limited profiles: ramps to a speed, stop ramps (R119), moves to a position (R113, R179), and how they are
played.
-/
namespace Sys2Proof.Machine

/-- State after `t` seconds at constant jerk `j`. -/
def Knot.after (k : Knot) (j t : Rat) : Knot :=
  { s := k.s + k.v * t + k.a * t * t / 2 + j * t * t * t / 6, v := k.v + k.a * t + j * t * t / 2, a := k.a + j * t, j := j }

/-- State after `t` seconds of a list of pieces; beyond the last piece at its end. -/
def playPieces (k : Knot) : List RampPiece → Rat → Knot
  | [], _ => { k with j := 0 }
  | p :: r, t => if t < p.dur then k.after p.jerk t else playPieces (k.after p.jerk p.dur) r (t - p.dur)

/-- Duration of a list of pieces. -/
def piecesTime (l : List RampPiece) : Rat := (l.map (·.dur)).sum

/-- Pieces of positive duration. -/
def pieces (l : List (Rat × Rat)) : List RampPiece :=
  (l.filter (fun p => decide (0 < p.1))).map (fun p => { dur := p.1, jerk := p.2 })

/-- Change of speed by `dv` ≥ 0 in the present direction from acceleration `a` ≤ p: jerk up, hold, jerk down to 0. -/
def rampUp (dv a A J : Rat) : List (Rat × Rat) :=
  if A < a then
    let t := (a - A) / J
    let rest := dv - (a * a - A * A) / (2 * J) - A * A / (2 * J)
    [(t, -J), (rest / A, 0), (A / J, -J)]
  else
    let p := sqrtR (J * dv + a * a / 2)
    if p ≤ A then [((p - a) / J, J), (p / J, -J)]
    else [((A - a) / J, J), ((dv + a * a / (2 * J) - A * A / J) / A, 0), (A / J, -J)]

/-- Ramp of the speed from `v`, `a` to `v1` with acceleration 0, limits `A` and `J`. -/
def velPieces (v a v1 A J : Rat) : List RampPiece :=
  if J ≤ 0 ∨ A ≤ 0 then []
  else if v + a * absR a / (2 * J) ≤ v1 then pieces (rampUp (v1 - v) a A J)
  else (pieces (rampUp (v - v1) (-a) A J)).map (fun p => { p with jerk := -p.jerk })

/-- A stop ramp (R119) along a path from speed `v` ≥ 0: it never reverses; where the speed would reach 0 first, the
deceleration is reduced at the jerk bound until it does. -/
def stopPieces (v a A J : Rat) : List RampPiece :=
  if J ≤ 0 ∨ A ≤ 0 then []
  else if a < 0 ∧ v ≤ a * a / (2 * J) then pieces [((-a - sqrtR (a * a - 2 * J * v)) / J, J)]
  else velPieces v a 0 A J

/-- Distance covered by way of the cruise speed `c`, ending at rest. -/
def viaCruise (v a c A J : Rat) : Rat :=
  let k := playPieces { v := v, a := a } (velPieces v a c A J) (piecesTime (velPieces v a c A J))
  k.s + (let l := velPieces c 0 0 A J; (playPieces { v := c } l (piecesTime l)).s)

/-- Cruise speed between `lo` and `hi` by way of which `d` is covered. -/
def cruiseFor (v a d A J lo hi : Rat) : Nat → Rat
  | 0 => lo
  | n + 1 => let m := (lo + hi) / 2
    if viaCruise v a m A J ≤ d then cruiseFor v a d A J m hi n else cruiseFor v a d A J lo m n

/-- Cruise speed of the fastest move by `d` ≥ 0 from rest to rest that reaches no speed limit: with or without a plateau of the
acceleration. -/
def cruiseRest (d A J : Rat) : Rat :=
  let c := cbrtR (d * d * J / 4)
  if c * J ≤ A * A then c else A * (sqrtR (A * A / (J * J) + 4 * d / A) - A / J) / 2

/-- The fastest move by `d` from speed `v` and acceleration `a` to rest within speed `V`, acceleration `A`, jerk `J`. -/
def movePieces (v a d V A J : Rat) : List RampPiece :=
  if J ≤ 0 ∨ A ≤ 0 ∨ V ≤ 0 then []
  else
    let c := if viaCruise v a V A J ≤ d then V else if d ≤ viaCruise v a (-V) A J then -V
      else if v = 0 ∧ a = 0 then (if 0 ≤ d then cruiseRest d A J else -cruiseRest (-d) A J)
      else cruiseFor v a d A J (-V) V 48
    let hold := if c = 0 then 0 else (d - viaCruise v a c A J) / c
    velPieces v a c A J ++ pieces [(hold, 0)] ++ velPieces c 0 0 A J

end Sys2Proof.Machine
end

