-- ==== Sys2Proof/Machine/ArmModel.lean ====
section
/-!
DEFINITION. Arm models: frames, forward and inverse kinematics, dynamics feed-forward (R130 to R140).
-/
namespace Sys2Proof.Machine

/-! ### Coupling and units (R132) -/

/-- C · v with the identity as default. -/
def couple (c : Mat) (v : List Rat) : List Rat := if c.isEmpty then v else c.apply v
/-- C⁻¹ · v. -/
def uncouple (c : Mat) (v : List Rat) : List Rat := if c.isEmpty then v else Mat.solve c v

/-- Joint variables from axis positions. -/
def jointsOf (g : GroupCfg) (p : List Rat) : List Rat := ((couple g.coupling p).zip g.joints).map (fun e => e.1 + e.2.offset)
/-- Axis positions from joint variables. -/
def axesOf (g : GroupCfg) (q : List Rat) : List Rat := uncouple g.coupling ((q.zip g.joints).map (fun e => e.1 - e.2.offset))

/-- SI value of a joint variable or of its derivative taken in position units: rad or m. -/
def Joint.si (j : Joint) (x : Rat) : Rat := if j.kind = 0 then x * piR / 2 ^ 23 else x / 1000000000
def Joint.ofSi (j : Joint) (x : Rat) : Rat := if j.kind = 0 then x * 2 ^ 23 / piR else x * 1000000000

/-! ### Forward kinematics (R130, R131) -/

/-- Transform of a joint with variable `q`. -/
def Joint.pose (j : Joint) (q : Rat) : Pose :=
  let th := if j.kind = 0 then j.theta + q else (j.theta : Rat)
  let d := if j.kind = 0 then (j.d : Rat) else j.d + q
  let ca := cosR j.alphaPrev
  let sa := sinR j.alphaPrev
  let ct := cosR th
  let st := sinR th
  ⟨R3.cut ⟨ct, st * ca, st * sa⟩, R3.cut ⟨-st, ct * ca, ct * sa⟩, R3.cut ⟨0, -sa, ca⟩, R3.cut ⟨j.aPrev, -sa * d, ca * d⟩⟩

/-- Link frames 1 to n in the base frame. -/
def linksFrom (f : Pose) : List (Joint × Rat) → List Pose
  | [] => []
  | (j, q) :: r => let g := f.mul (j.pose q); g :: linksFrom g r

def links (g : GroupCfg) (q : List Rat) : List Pose := linksFrom {} (g.joints.zip q)

/-- TCP frame in the base frame. -/
def tcp (g : GroupCfg) (q : List Rat) : Pose := ((links g q).getLastD {}).mul (Pose.ofQuat g.toolRot (R3.ofInts g.toolPos))

/-- Arm base frame in W. -/
def basePose (g : GroupCfg) : Pose := Pose.ofQuat g.baseRot (R3.ofInts g.basePos)

/-! ### Inverse kinematics (R136 to R139) -/

/-- Joints that inverse kinematics solves: all but the carriage (R133). -/
def solved (g : GroupCfg) : List Nat := (List.range g.joints.length).filter (fun i => (g.joints.getD i {}).kind ≠ 2)

/-- Arm angle (R138), rad: about the line from shoulder to wrist, from the plane of the base Z axis (base X where that lies on
the line) to the plane of the elbow. -/
def armAngle (g : GroupCfg) (q : List Rat) : Rat :=
  let f := links g q
  let k := if (g.joints.headD {}).kind = 2 then 1 else 0
  let o := fun (i : Nat) => (f.getD (i + k) {}).o.smul (1 / 1000000000)
  let sw := (o 5).sub (o 1)
  let ax : R3 := if sw.x = 0 ∧ sw.y = 0 then ⟨1, 0, 0⟩ else ⟨0, 0, 1⟩
  let n1 := sw.cross ((o 3).sub (o 1))
  let n2 := sw.cross ax
  atan2R ((n2.cross n1).dot sw.unit) (n1.dot n2)

/-- A Cartesian target: pose in the base frame and arm angle (rad). -/
structure Target where
  pose : Pose := {}
  angle : Rat := 0

/-- Task error of R138 over six rows and the arm angle, metres and radians × W_ROT. -/
def taskErrorAll (g : GroupCfg) (t : Target) (q : List Rat) : List Rat :=
  let f := tcp g q
  let p := (t.pose.o.sub f.o).smul (1 / 1000000000)
  let r := (rotTo f t.pose).smul g.wrot
  p.list ++ r.list ++ [g.wrot * (t.angle - armAngle g q)]

/-- Rows of Table 6-2 for the arm's solver. -/
def taskRows (g : GroupCfg) : List Nat :=
  match g.solver with
  | 0 => List.range 6
  | 1 => List.range 7
  | _ => (List.range 6).filter (fun i => g.taskMask.testBit i)

def pickRows (g : GroupCfg) (v : List Rat) : List Rat := (taskRows g).map (fun i => v.getD i 0)
def taskError (g : GroupCfg) (t : Target) (q : List Rat) : List Rat := pickRows g (taskErrorAll g t q)

/-- Change `q` of joint `i` by `dx` in SI units. -/
def nudge (g : GroupCfg) (q : List Rat) (i : Nat) (dx : Rat) : List Rat :=
  q.set i (q.getD i 0 + (g.joints.getD i {}).ofSi dx)

/-- Task Jacobian over the solved joints, per rad or m: one column per joint. -/
def taskColumn (g : GroupCfg) (q : List Rat) (i : Nat) : List Rat :=
  let f := links g q
  let z := (f.getD i {}).cz
  let e := (tcp g q).o
  let h : Rat := 1 / 2 ^ 12
  let arm := if g.solver = 1 then g.wrot * ((armAngle g (nudge g q i h) - armAngle g (nudge g q i (-h))) / (2 * h)) else 0
  let rows := if (g.joints.getD i {}).kind = 0 then
      (z.cross ((e.sub (f.getD i {}).o).smul (1 / 1000000000))).list ++ (z.smul g.wrot).list
    else z.list ++ [0, 0, 0]
  pickRows g (rows ++ [arm])

def taskJacobian (g : GroupCfg) (q : List Rat) : Mat := Mat.tr ((solved g).map (fun i => taskColumn g q i))

/-- λ² of R138. -/
def damping (g : GroupCfg) (j : Mat) : Rat :=
  let w := sqrtR (max 0 (j.gram 0).det)
  if g.solver ≠ 0 ∧ w < g.w0 ∧ 0 < g.w0 then cut (g.l0 * g.l0 * (1 - (w / g.w0) * (w / g.w0))) else 0

/-- Joint change Jᵀ · solve(J Jᵀ + λ² I, e), placed on the solved joints, in SI units. -/
def dlsStep (g : GroupCfg) (q e : List Rat) : List Rat :=
  let j := taskJacobian g q
  let x := Mat.solve (j.gram (damping g j)) e
  let dq := j.tr.apply x
  (List.range q.length).map (fun i => match (solved g).idxOf? i with | some k => cut (dq.getD k 0) | none => 0)

/-- `q` plus a change in SI units. -/
def addSi (g : GroupCfg) (q dq : List Rat) : List Rat :=
  (List.range q.length).map (fun i => cut (q.getD i 0 + (g.joints.getD i {}).ofSi (dq.getD i 0)))

def ikLoop (g : GroupCfg) (t : Target) : Nat → List Rat → List Rat
  | 0, q => q
  | n + 1, q => ikLoop g t n (addSi g q (dlsStep g q (taskError g t q)))

/-- The solution of a frame from the warm start `q`: four iterations (R138); the analytic solution of the branch on which the
path lies is reached by the undamped iteration (R137; log entry 39). -/
def ikSolve (g : GroupCfg) (t : Target) (q : List Rat) : List Rat := ikLoop g t (if g.solver = 0 then 12 else 4) q

/-- Residual of R138: position in nm, orientation in 2^-24 rev. -/
def residual (g : GroupCfg) (t : Target) (q : List Rat) : Rat × Rat :=
  let e := taskErrorAll g t q
  let rows := taskRows g
  let at_ := fun i => if rows.contains i then e.getD i 0 else 0
  ((R3.len ⟨at_ 0, at_ 1, at_ 2⟩) * 1000000000, if g.wrot = 0 then 0 else (R3.len ⟨at_ 3, at_ 4, at_ 5⟩) / g.wrot * 2 ^ 23 / piR)

/-! ### Newton–Euler (R140) -/

/-- Symmetric inertia (Ixx, Iyy, Izz, Ixy, Ixz, Iyz) applied to a vector. -/
def inertiaMul (l : List Rat) (v : R3) : R3 :=
  let i := fun n => l.getD n 0
  ⟨i 0 * v.x + i 3 * v.y + i 4 * v.z, i 3 * v.x + i 1 * v.y + i 5 * v.z, i 4 * v.x + i 5 * v.y + i 2 * v.z⟩

/-- Motion of a link in its own axes. -/
structure LinkMotion where
  w : R3 := {}
  dw : R3 := {}
  acc : R3 := {}
  /-- Pose in the previous link's axes, origin in m. -/
  pose : Pose := {}

/-- Outward recursion, one joint: variable, speed and acceleration in SI units. -/
def outward (m : LinkMotion) (j : Joint) (q v a : Rat) : LinkMotion :=
  let p := j.pose (j.ofSi q)
  let p := { p with o := p.o.smul (1 / 1000000000) }
  let z : R3 := ⟨0, 0, 1⟩
  let w0 := p.inv m.w
  let lin := p.inv ((m.dw.cross p.o).add ((m.w.cross (m.w.cross p.o)).add m.acc))
  if j.kind = 0 then
    { w := (w0.add (z.smul v)).cut, dw := ((p.inv m.dw).add ((w0.cross (z.smul v)).add (z.smul a))).cut, acc := lin.cut, pose := p }
  else
    { w := w0.cut, dw := (p.inv m.dw).cut, acc := (lin.add (((w0.cross (z.smul v)).smul 2).add (z.smul a))).cut, pose := p }

def outwardAll (m : LinkMotion) : List (Joint × Rat × Rat × Rat) → List (Joint × LinkMotion)
  | [] => []
  | (j, q, v, a) :: r => let n := outward m j q v a; (j, n) :: outwardAll n r

/-- Force and moment about the link frame's origin of a body with mass (kg), centre of mass (m) and inertia. -/
def bodyWrench (m : LinkMotion) (mass : Rat) (com : R3) (inertia : List Rat) : R3 × R3 :=
  let ac := ((m.dw.cross com).add ((m.w.cross (m.w.cross com)).add m.acc))
  let f := ac.smul mass
  let n := (inertiaMul inertia m.dw).add (m.w.cross (inertiaMul inertia m.w))
  (f.cut, (n.add (com.cross f)).cut)

/-- Inward recursion: force and moment at each joint, first joint first. -/
def inward : List (Joint × LinkMotion) → R3 × R3 → List Rat × (R3 × R3)
  | [], tip => ([], tip)
  | (j, m) :: r, tip =>
    let t := inward r tip
    let own := bodyWrench m (j.mass / 1000) ((R3.ofInts j.com).smul (1 / 1000000000)) j.inertia
    let next := match r with | [] => t.2 | (_, m') :: _ => (m'.pose.vec t.2.1, (m'.pose.vec t.2.2).add (m'.pose.o.cross (m'.pose.vec t.2.1)))
    let f := own.1.add next.1
    let n := own.2.add next.2
    ((if j.kind = 0 then n.z else f.z) :: t.1, (f.cut, n.cut))

/-- Joint torques (N·m, N) of R140 for joint variables, speeds and accelerations in SI units. -/
def jointTorques (g : GroupCfg) (pay : Payload) (full friction rotor : Bool) (q v a : List Rat) : List Rat :=
  let grav := (basePose g).inv (R3.ofList g.gravity)
  let z := fun (l : List Rat) i => if full then l.getD i 0 else 0
  let js := (List.range g.joints.length).map (fun i => (g.joints.getD i {}, q.getD i 0, z v i, z a i))
  let ms := outwardAll { acc := grav.smul (-1) } js
  let tip := match ms.getLast? with
    | some (_, m) => bodyWrench m (pay.mass / 1000) ((R3.ofInts pay.com).smul (1 / 1000000000)) pay.inertia
    | none => ({}, {})
  let rne := (inward ms tip).1
  (List.range g.joints.length).map (fun i =>
    let j := g.joints.getD i {}
    let qd := v.getD i 0
    rne.getD i 0 + (if rotor then j.rotor * a.getD i 0 else 0)
      + (if friction then j.fc * clampR (-1) 1 (qd / j.vband) + j.fv * qd else 0))

/-- Axis torques Cᵀ · τ. -/
def axisTorques (g : GroupCfg) (tau : List Rat) : List Rat := if g.coupling.isEmpty then tau else (Mat.tr g.coupling).apply tau

/-- Feed-forward of an arm (R140) from axis positions and their derivatives in position units per second. -/
def feedForward (g : GroupCfg) (pay : Payload) (p v a : List Rat) : List Rat :=
  let si := fun (l : List Rat) => (l.zip g.joints).map (fun e => e.2.si e.1)
  let q := si (jointsOf g p)
  let qd := si (couple g.coupling v)
  let qdd := si (couple g.coupling a)
  match g.ffDyn with
  | 0 => g.axes.map (fun _ => 0)
  | 1 => axisTorques g (jointTorques g pay false true false q qd qdd)
  | _ => axisTorques g (jointTorques g pay true true true q qd qdd)

/-- Torques of the full model within TMAX (R113, R140). -/
def torqueOk (g : GroupCfg) (pay : Payload) (p v a : List Rat) : Bool :=
  let si := fun (l : List Rat) => (l.zip g.joints).map (fun e => e.2.si e.1)
  let t := jointTorques g pay true true true (si (jointsOf g p)) (si (couple g.coupling v)) (si (couple g.coupling a))
  (t.zip g.joints).all (fun e => decide (absR e.1 * 1000 ≤ e.2.tmax))

end Sys2Proof.Machine
end

