-- ==== Sys2Proof/Machine/FieldOps.lean ====
section
/-!
DEFINITION. Field inputs, outputs, watchdogs, hold windows and field supplies (chapter 17). Instants are CLK_TIME
cycles; 1 ms is 800,000 of them.
-/
namespace Sys2Proof.Machine

open Fld

def Dev.field (d : Dev) : Field := d.io.field
def Dev.setField (d : Dev) (x : Field) : Dev := { d with io := { d.io with field := x } }
def Dev.fog (d : Dev) (g : Nat) : FoGrp := tget {} d.field.grp g
def Dev.setFog (d : Dev) (g : Nat) (x : FoGrp) : Dev := d.setField { d.field with grp := tset {} d.field.grp g x }

/-- Output group `g`, input group `g` delegated to the host (R101). -/
def foDelegated (d : Dev) (g : Nat) : Bool := (d.f OWN_DELEG_FOUT).testBit g
def fiDelegated (d : Dev) (g : Nat) : Bool := (d.f OWN_DELEG_FIN).testBit g

/-- May `bus` write the group's registers (R9, R407)? -/
def foMay (d : Dev) (g : Nat) : Bus → Bool
  | .felade => !foDelegated d g
  | .bar2 => foDelegated d g
  | .bar0 | .bar4 => false

/-- Size of the joined sets of a group (R400). -/
def setSize (d : Dev) (g : Nat) : Nat := match d.f (FO_GRP_CFG_PAR g) with | 1 => 2 | 2 => 4 | _ => 1

/-- Lowest output of the set of output `k`, and its members. -/
def setLead (d : Dev) (k : Nat) : Nat := k / setSize d (k / 8) * setSize d (k / 8)
def setMembers (d : Dev) (k : Nat) : List Nat := (List.range (setSize d (k / 8))).map (fun i => setLead d k + i)

/-- Is VFOUT of group `g` in undervoltage fault (R405)? -/
def foUv (d : Dev) (g : Nat) : Bool := (d.f FIELD_SUPPLY_UV_FAULT).testBit (g + 1)

/-- State of output `k` (R399 to R405): held level, safe bit or applied command of the set's lowest output, off after a
protection switch-off of any member and without supply. -/
def foLevel (d : Dev) (k : Nat) : Bool :=
  let g := k / 8
  let l := setLead d k
  let want :=
    if d.b (FO_GRP_WD_HOLD g) || (d.f PAD_HOLD_FIELD_HELD).testBit g then d.field.level.getLsbD l
    else if d.b (FO_GRP_WD_EXPIRED g) || !d.b (FO_GRP_CFG_EN g) then (d.f (FO_GRP_CFG_SAFE g)).testBit (l % 8)
    else d.field.applied.getLsbD l
  want && !foUv d g && (setMembers d k).all (fun m => !(d.f FO_FAULT_FAULT).testBit m)

/-- Word of 32 bits from its bits. -/
def word32 (p : Nat → Bool) : Word := BitVec.ofNat 32 (((List.range 32).filter p).map (fun k => 2 ^ k)).sum

/-- The switches follow what commands them; FO_READ follows except in groups without supply (R405). -/
def foUpdate (d : Dev) : Dev :=
  let lv := word32 (foLevel d)
  let rd := word32 (fun k => if foUv d (k / 8) then (d.reg FO_READ_READ.addr).getLsbD k else lv.getLsbD k)
  (d.setReg FO_READ_READ.addr rd).setField { d.field with level := lv }

/-- FO_CMD bits of group `g`. -/
def foCmdBits (d : Dev) (g : Nat) : Nat := d.f FO_CMD_CMD / 2 ^ (8 * g) % 256

/-- The present FO_CMD bits of a group are applied. -/
def foApply (d : Dev) (g : Nat) : Dev :=
  let cmd := d.reg FO_CMD_CMD.addr
  d.setField { d.field with applied := word32 (fun k => if k / 8 = g then cmd.getLsbD k else d.field.applied.getLsbD k) }

/-- FO_CMD bits of `mask` take the values of `v` (R401, R403, R404): kept in every group, applied where it is neither
expired nor held. -/
def foSet (d : Dev) (mask v : Word) : Dev :=
  let d := d.setReg FO_CMD_CMD.addr ((d.reg FO_CMD_CMD.addr &&& ~~~mask) ||| (v &&& mask))
  foUpdate (forEach (List.range 4) (fun x g =>
    if x.b (FO_GRP_WD_EXPIRED g) || x.b (FO_GRP_WD_HOLD g) then x else foApply x g) d)

/-- One output set by Felade itself (BRAKE, DRV_EN, PAYLOAD_SEL0 and 1: R178, R295, R135). -/
def foSetBit (d : Dev) (k : Nat) (v : Bool) : Dev := foSet d (BitVec.ofNat 32 (2 ^ k)) (if v then BitVec.ofNat 32 (2 ^ k) else 0)

/-- Safe bit of output `k`, which engages a brake (R401). -/
def foSafeBit (d : Dev) (k : Nat) : Bool := (d.f (FO_GRP_CFG_SAFE (k / 8))).testBit (k % 8)

/-- FIELD_REARM: of a delegated group it rises on the field die and is told in the next frame (R410). -/
def foRearmed (d : Dev) (g : Nat) : Dev := if foDelegated d g then d.raiseNext 0x8004 g g 0 0 else d.raise 0x8004 g g 0 0

/-- REARM (R403): the FO_CMD bits are applied and the watchdog restarts. -/
def foRearm (d : Dev) (g at_ : Nat) : Dev :=
  if !d.b (FO_GRP_CFG_EN g) then d
  else
    let d := if d.b (FO_GRP_WD_EXPIRED g) then foRearmed (d.setB (FO_GRP_WD_EXPIRED g) false) g else d
    let d := (d.setFog g { fedAt := at_, next5A := false })
    foUpdate (if d.b (FO_GRP_WD_HOLD g) then d else foApply d g)

/-- A FEED value (R402). -/
def foFeed (d : Dev) (g v at_ : Nat) : Dev :=
  if v = 0 then d
  else if v = (if (d.fog g).next5A then 0x5A else 0xA5) then d.setFog g { fedAt := at_, next5A := !(d.fog g).next5A }
  else d.setB (FO_GRP_WD_BADKEY g) true

/-- Expiry of a group (R403) with the cause of FIELD_WD_EXPIRED. -/
def foExpire (d : Dev) (g cause : Nat) : Dev :=
  let d := foUpdate ((d.setB (FO_GRP_WD_EXPIRED g) true).raiseNext 0x8000 g g cause (foCmdBits d g))
  if foDelegated d g then d.mayRaise 37 else d

/-- The watchdog of a group runs out at `at_` (R402): not before 0.98 × WD_T after the last feed, and only while it
runs. -/
def foWatchdog (d : Dev) (g at_ : Nat) : Dev :=
  if d.b (FO_GRP_CFG_EN g) && !d.b (FO_GRP_WD_EXPIRED g) && !d.b (FO_GRP_WD_HOLD g)
      && decide ((d.fog g).fedAt + d.f (FO_GRP_CFG_WD_T g) * 784000 ≤ at_) then
    foExpire d g 1
  else d

/-- EN cleared (R403). -/
def foDisable (d : Dev) (g : Nat) : Dev :=
  if d.b (FO_GRP_CFG_EN g) then foExpire (d.setB (FO_GRP_CFG_EN g) false) g 3 else d

/-- A hold window opens on `groups` at `at_` (R404). -/
def foHold (d : Dev) (groups : List Nat) (cause at_ : Nat) : Dev :=
  let d := forEach groups (fun x g => x.setB (FO_GRP_WD_HOLD g) true) d
  (d.setField { d.field with hold := some (cause, at_) }).raise 0x8003 0xFFFF 1 cause 0

/-- The hold window ends at `at_` (R404): held groups follow their commands, watchdogs restart in full. -/
def foRelease (d : Dev) (at_ : Nat) : Dev :=
  match d.field.hold with
  | none => d
  | some (cause, since) =>
    let d := forEach ((List.range 4).filter (fun g => d.b (FO_GRP_WD_HOLD g))) (fun x g =>
      let x := (x.setB (FO_GRP_WD_HOLD g) false).setFog g { x.fog g with fedAt := at_ }
      if x.b (FO_GRP_WD_EXPIRED g) then x else foApply x g) d
    (foUpdate (d.setField { d.field with hold := none })).raise 0x8003 0xFFFF 0 cause ((at_ - since) / 800000)

/-- HOLD_WIN over (R404), not before 0.98 of it. -/
def foHoldWin (d : Dev) (at_ : Nat) : Dev :=
  match d.field.hold with
  | none => d
  | some (_, since) =>
    if since + d.f FIELD_HOLD_CFG_HOLD_WIN * 784000 ≤ at_ then
      let gs := (List.range 4).filter (fun g => d.b (FO_GRP_WD_HOLD g))
      let d := d.setField { d.field with hold := none }
      forEach gs (fun x g => foExpire (x.setB (FO_GRP_WD_HOLD g) false) g 2) d
    else d

/-- Protection switches an output off (R399): only one that is on. `cause` 1 current limit, 2 overtemperature. -/
def foProtect (d : Dev) (k cause : Nat) : Dev :=
  if d.field.level.getLsbD k then
    let d := (foUpdate (d.setF FO_FAULT_FAULT (d.f FO_FAULT_FAULT ||| 2 ^ k))).raiseNext 0x8001 k k cause 0
    if foDelegated d (k / 8) then d.mayRaise 37 else d
  else d

/-- FO_FAULT bits cleared (R399): at once, a commanded output switches on again. -/
def foFaultClear (d : Dev) (mask : Word) : Dev := foUpdate (d.setReg FO_FAULT_FAULT.addr (d.reg FO_FAULT_FAULT.addr &&& ~~~mask))

/-- A field input's pin has been at `level` for `cycles` (R396): FI_RAW at once, FI_STATE after FLT. -/
def fieldInput (d : Dev) (k : Nat) (level : Bool) (cycles : Nat) : Dev :=
  let put := fun (x : Dev) (f : Fld) =>
    x.setReg f.addr (word32 (fun i => if i = k then level else (x.reg f.addr).getLsbD i))
  let d := put d FI_RAW_RAW
  if d.f (FI_FLT_FLT k) * 80000 ≤ cycles then
    let d := put d FI_STATE_STATE
    if fiDelegated d (k / 8) then d.mayRaise 37 else d
  else d

/-- A supply condition with its threshold and hysteresis, in 0.1 V (R405). -/
def below (was : Bool) (thr v : Nat) : Bool := if was then decide (v < thr + 5) else decide (v < thr)
def above (was : Bool) (thr v : Nat) : Bool := if was then decide (thr - 5 < v) else decide (thr < v)

/-- A bit of a field. -/
def setFieldBit (d : Dev) (f : Fld) (b : Nat) (v : Bool) : Dev :=
  let x := d.f f
  d.setF f (if v then x ||| 2 ^ b else if x.testBit b then x - 2 ^ b else x)

/-- A supply measures `v` (0.1 V): 0 VFIELD, 1 to 4 VFOUT0 to 3 (R405). -/
def fieldSupply (d : Dev) (s v : Nat) : Dev :=
  let w0 := (d.f FIELD_SUPPLY_UV_WARN).testBit s
  let f0 := (d.f FIELD_SUPPLY_UV_FAULT).testBit s
  let o0 := (d.f FIELD_SUPPLY_OV).testBit s
  let w := below w0 190 v
  let f := below f0 175 v
  let o := above o0 320 v
  let d := d.setField { d.field with volts := tset 0 d.field.volts s v }
  let d := if s = 0 then d.setF FIELD_SUPPLY_VFIELD (min 1023 v) else d
  let d := setFieldBit (setFieldBit (setFieldBit d FIELD_SUPPLY_UV_WARN s w) FIELD_SUPPLY_UV_FAULT s f) FIELD_SUPPLY_OV s o
  let d := if s = 0 then setFieldBit d PWR_DOMAINS_ON 11 (!f) else d
  let d := foUpdate d
  if w != w0 || f != f0 || o != o0 then
    d.raiseNext 0x8002 s s (if o then 3 else if f then 2 else if w then 1 else 0) v
  else d

/-- The snapshot of R397: states and validity; `answered`: the field die answered the motion die in this major frame. -/
def fieldSnapshot (d : Dev) (answered : Bool) : Word × Word :=
  let ok := answered && !(d.f FIELD_SUPPLY_UV_FAULT).testBit 0
  let val := word32 (fun k => ok && !fiDelegated d (k / 8))
  (d.reg FI_STATE_STATE.addr &&& val, val)

/-- Outputs the image gives to BRAKE or DRV_EN (R406). -/
def fieldReserved (d : Dev) : List Nat :=
  (d.axisList.filterMap (fun n => (d.axCfg n).bind (fun c => if c.brake < 32 then some c.brake else none)))
    ++ (List.range 12).filterMap (fun c => d.img.run.bind (fun i => (tget none i.steppers c).bind (·.drvEn)))

/-- `io.write` to the field outputs: 0 accepted, 1 RANGE, 2 STATE (R406). -/
def fieldWriteCheck (d : Dev) (mask : Word) : Nat :=
  if (List.range 32).any (fun k => mask.getLsbD k && (foDelegated d (k / 8) || !d.b (FO_GRP_CFG_EN (k / 8)))) then 1
  else if (fieldReserved d).any (fun k => mask.getLsbD k) then 2
  else 0

/-- A field group that stayed latched is released (R449). -/
def fieldUnlatch (d : Dev) (g : Nat) : Dev :=
  let h := d.f PAD_HOLD_FIELD_HELD
  if h.testBit g then (d.setF PAD_HOLD_FIELD_HELD (h - 2 ^ g)).raise 0x9021 0xFFFF 1 (g + 1) 0 else d

/-- `io.write` takes effect at instant `at_` (R399, R403, R406): faults of the named sets cleared, groups touched are
rearmed where expired and released where latched (R449), states applied. -/
def fieldWrite (d : Dev) (mask states : Word) (at_ : Nat) : Dev :=
  let clr := word32 (fun k => mask.getLsbD k || (mask.getLsbD (setLead d k)))
  let d := d.setReg FO_FAULT_FAULT.addr (d.reg FO_FAULT_FAULT.addr &&& ~~~clr)
  let d := d.setReg FO_CMD_CMD.addr ((d.reg FO_CMD_CMD.addr &&& ~~~mask) ||| (states &&& mask))
  let touched := (List.range 4).filter (fun g => (List.range 8).any (fun i => mask.getLsbD (8 * g + i)))
  let d := forEach touched (fun x g => fieldUnlatch (if x.b (FO_GRP_WD_EXPIRED g) then foRearm x g at_ else x) g) d
  foSet d mask states

/-- Response of `io.read` with TARGET 0x01 (R406). -/
def fieldRead (d : Dev) : List Byte :=
  let grp := ((List.range 4).filter (fun g => d.b (FO_GRP_WD_EXPIRED g))).map (fun g => 2 ^ g)
  le 4 d.rmt.snap.toNat ++ le 4 d.rmt.snapValid.toNat ++ le 4 (d.f FO_CMD_CMD) ++ le 4 (d.f FO_READ_READ)
    ++ le 4 (d.f FO_FAULT_FAULT) ++ le 1 grp.sum ++ le 1 (d.f FIELD_SUPPLY_UV_FAULT)

/-- Felade feeds each owned group in the sealing of a batch (R402). -/
def fieldFeedAll (d : Dev) (at_ : Nat) : Dev :=
  forEach ((List.range 4).filter (fun g => !foDelegated d g && d.b (FO_GRP_CFG_EN g) && !d.b (FO_GRP_WD_EXPIRED g)))
    (fun x g => foFeed x g (if (x.fog g).next5A then 0x5A else 0xA5) at_) d

/-- The first image takes effect (R403): each group in use at its safe bits with EXPIRED set, no record. -/
def fieldStart (d : Dev) : Dev :=
  foUpdate (forEach ((List.range 4).filter (fun g => d.b (FO_GRP_CFG_EN g))) (fun x g =>
    (x.setB (FO_GRP_WD_EXPIRED g) true).setB (FO_GRP_WD_HOLD g) false) d)

/-- Every group at its safe bits (fatal handling, SAFE-TALK, STANDBY: Table 17-2). -/
def fieldAllSafe (d : Dev) : Dev :=
  foUpdate (forEach (List.range 4) (fun x g => (x.setB (FO_GRP_WD_EXPIRED g) true).setB (FO_GRP_WD_HOLD g) false)
    (d.setField { d.field with hold := none }))

end Sys2Proof.Machine
end

