-- ==== Sys2Proof/Machine/Pwm.lean ====
section
/-!
DEFINITION. Local power-stage outputs and sigma-delta inputs (chapter 10).
-/
namespace Sys2Proof.Machine

open Fld

def Dev.pwm (d : Dev) (g : Nat) : PwmGrp := tget {} d.io.pwm g
def Dev.setPwm (d : Dev) (g : Nat) (p : PwmGrp) : Dev := { d with io := { d.io with pwm := tset {} d.io.pwm g p } }
def Dev.wave (d : Dev) (c : Nat) : Wave := tget .off d.io.wave c
def Dev.setWave (d : Dev) (c : Nat) (w : Wave) : Dev := { d with io := { d.io with wave := tset .off d.io.wave c w } }

/-- One of the three causes of R253 forces every pad. -/
def Dev.forced (d : Dev) : Bool := d.b PWM_FORCE_CLK_LOSS || d.b PWM_FORCE_FATAL || d.b PWM_FORCE_TEST

/-- The device replays a commit log (R56). -/
def Dev.replaying (d : Dev) : Bool := match d.img.run with | some i => i.replay | none => false

/-- An edge register in steps of 156.25 ps (R241). -/
def edgeSteps (d : Dev) (coarse fine : Fld) : Nat := d.f coarse * 8 + d.f fine

/-- Interval `[a, b)`, none where it has no length. -/
def interval (a b : Nat) : List (Nat × Nat) := if a < b then [(a, b)] else []

/-- R242: rise and fall after the minimum-pulse shaping of the high side, all in steps; `none` for a dropped pulse. -/
def shapeHigh (rise fall per minp : Nat) (stretch : Bool) : Option (Nat × Nat) :=
  let h := fall - rise
  if h = 0 then none
  else if h < minp then
    if stretch then some (rise - (minp - h) / 16 * 8, min per (fall + ((minp - h) + 15) / 16 * 8))
    else none
  else some (rise, fall)

/-- Low-side intervals before R242 (R241). -/
def lowSide (hs : Option (Nat × Nat)) (per dlh dhl : Nat) : List (Nat × Nat) :=
  match hs with
  | none => interval 0 per
  | some (r, f) => interval 0 (r - dlh) ++ interval (f + dhl) per

/-- R241 to R243 for one channel: the pads in the period, whether R242 changed it, whether the refresh of R243 acted.
`boot` is the refresh length in steps, where a refresh is due. -/
def shapeWave (rise fall per dlh dhl minp : Nat) (stretch : Bool) (boot : Option Nat) : Wave × Bool × Bool :=
  let fall := min fall per
  let hs := shapeHigh rise fall per minp stretch
  let low0 := lowSide hs per dlh dhl
  let low := low0.filter (fun i => decide (minp ≤ i.2 - i.1))
  let minpAct := decide (0 < fall - rise && fall - rise < minp) || decide (low.length < low0.length)
  match boot, hs with
  | some b, some (r, f) =>
    if per - dhl - b < f then
      (.run (interval r (per - dhl - b)) (low.filter (fun i => decide (i.1 = 0)) ++ interval (per - b) per),
        minpAct, true)
    else (.run (interval r f) low, minpAct, false)
  | _, some (r, f) => (.run (interval r f) low, minpAct, false)
  | _, none => (.run [] low, minpAct, false)

/-- Has the low side an on-interval in this wave? -/
def Wave.lowOnSome : Wave → Bool
  | .off => false
  | .lowOn => true
  | .run _ low => !low.isEmpty

/-- Do the staged registers of the group differ from the live ones (UPD.DIFF)? -/
def pwmDiff (d : Dev) (g : Nat) : Bool :=
  decide (d.f (PWM_GRP_PER_PER g) ≠ d.f (PWM_LIVE_PER_PER g))
  || decide (d.f (PWM_GRP_DT_DT_LH g) ≠ d.f (PWM_LIVE_DT_DT_LH g))
  || decide (d.f (PWM_GRP_DT_DT_HL g) ≠ d.f (PWM_LIVE_DT_DT_HL g))
  || (List.range 6).any (fun c =>
      decide (edgeSteps d (PWM_GRP_RISE_COARSE g c) (PWM_GRP_RISE_FINE g c)
        ≠ edgeSteps d (PWM_LIVE_RISE_COARSE g c) (PWM_LIVE_RISE_FINE g c))
      || decide (edgeSteps d (PWM_GRP_FALL_COARSE g c) (PWM_GRP_FALL_FINE g c)
        ≠ edgeSteps d (PWM_LIVE_FALL_COARSE g c) (PWM_LIVE_FALL_FINE g c)))

def pwmSetDiff (d : Dev) (g : Nat) : Dev := d.setB (PWM_GRP_UPD_DIFF g) (pwmDiff d g)

/-- The safe level of the group (R250), both off while forced (R253). -/
def safeWave (d : Dev) (g : Nat) : Wave := if d.forced || !d.b (PWM_GCFG_SAFE_MODE g) then .off else .lowOn

/-- Every channel of the group at its safe level, SAFE set. -/
def pwmSafe (d : Dev) (g : Nat) : Dev :=
  forEach (List.range (d.f (PWM_GCFG_COUNT g)))
    (fun x c => x.setWave (d.f (PWM_GCFG_FIRST g) + c) (safeWave d g)) (d.setB (PWM_GCTL_SAFE g) true)

/-- RUN as Felade writes it (R250). -/
def pwmRun (d : Dev) (g : Nat) (on : Bool) : Dev :=
  let d1 := if on && d.b (PWM_GCTL_RUN g) then d else d.setPwm g { d.pwm g with xfer := false }
  d1.setB (PWM_GCTL_RUN g) on

/-- A staging write (R244): the field changes and an armed transfer is disarmed. -/
def pwmStage (d : Dev) (g : Nat) (f : Fld) (v : Nat) : Dev :=
  pwmSetDiff ((d.setF f v).setB (PWM_GRP_UPD_PENDING g) false) g

/-- COMMIT written at instant `at_` (R244, Table 10-2). -/
def pwmCommit (d : Dev) (g : Nat) (at_ : Nat) : Dev :=
  let late := decide (at_ = d.esc.t0) && !(d.pwm g).moved && d.running
  let d1 := d.setB (PWM_GRP_UPD_PENDING g) true
  if late then (d1.setB (PWM_GRP_FLAGS_LATE_COMMIT g) true).setPwm g { d1.pwm g with newLate := true } else d1

/-- One staged edge moves to live; above the new period it becomes PER with FINE 0 (R245). -/
def pwmMoveEdge (d : Dev) (g c : Nat) (sc sf lc lf : Fld) : Dev :=
  let per := d.f (PWM_GRP_PER_PER g)
  if per * 8 < edgeSteps d sc sf then
    let p := d.pwm g
    let d1 := ((d.setF lc per).setF lf 0).setB (PWM_GRP_FLAGS_CLAMP g) true
    d1.setPwm g { p with clamp := match p.clamp with | some x => some x | none => some (c, (d.reg sc.addr).toNat) }
  else (d.setF lc (d.f sc)).setF lf (d.f sf)

/-- Every staged register of the group moves to live (R244). -/
def pwmMove (d : Dev) (g : Nat) : Dev :=
  let d1 := ((d.setF (PWM_LIVE_PER_PER g) (d.f (PWM_GRP_PER_PER g))).setF (PWM_LIVE_DT_DT_LH g)
    (d.f (PWM_GRP_DT_DT_LH g))).setF (PWM_LIVE_DT_DT_HL g) (d.f (PWM_GRP_DT_DT_HL g))
  forEach (List.range 6) (fun x c =>
    pwmMoveEdge (pwmMoveEdge x g c (PWM_GRP_RISE_COARSE g c) (PWM_GRP_RISE_FINE g c) (PWM_LIVE_RISE_COARSE g c)
      (PWM_LIVE_RISE_FINE g c)) g c (PWM_GRP_FALL_COARSE g c) (PWM_GRP_FALL_FINE g c) (PWM_LIVE_FALL_COARSE g c)
      (PWM_LIVE_FALL_FINE g c)) d1

/-- The pads of one channel of a switching group for the period that opens, with the flags of R242 and R243. -/
def pwmShape (d : Dev) (g c : Nat) : Dev :=
  let p := d.pwm g
  let bp := d.f (PWM_GCTL_BOOT_PER g)
  let miss := tget 0 p.lowMiss c
  let boot := if bp ≠ 0 && decide (bp ≤ miss) then some (d.f (PWM_GSHAPE_BOOT_LEN g) * 8) else none
  let w := shapeWave (edgeSteps d (PWM_LIVE_RISE_COARSE g c) (PWM_LIVE_RISE_FINE g c))
    (edgeSteps d (PWM_LIVE_FALL_COARSE g c) (PWM_LIVE_FALL_FINE g c)) (d.f (PWM_LIVE_PER_PER g) * 8)
    (d.f (PWM_LIVE_DT_DT_LH g) * 8) (d.f (PWM_LIVE_DT_DT_HL g) * 8) (d.f (PWM_GSHAPE_MINP g) * 8)
    (d.b (PWM_GCFG_MINP_MODE g)) boot
  let d1 := d.setWave (d.f (PWM_GCFG_FIRST g) + c) w.1
  let d2 := if w.2.1 then d1.setB (PWM_GRP_FLAGS_MINP g) true else d1
  let d3 := if w.2.2 then d2.setB (PWM_GRP_FLAGS_BOOT g) true else d2
  d3.setPwm g { p with lowMiss := tset 0 p.lowMiss c (if w.1.lowOnSome then 0 else min 255 (miss + 1)) }

/-- The count of R243 in a period at safe levels. -/
def pwmMissSafe (d : Dev) (g c : Nat) : Dev :=
  let p := d.pwm g
  let miss := tget 0 p.lowMiss c
  d.setPwm g { p with lowMiss := tset 0 p.lowMiss c (if (safeWave d g).lowOnSome then 0 else min 255 (miss + 1)) }

/-- The reload of a group at a minor boundary (R240, R244 to R246, R249, R250); `ended` is the length of the period
that ends here. -/
def pwmReload (d : Dev) (g ended : Nat) : Dev :=
  let p := d.pwm g
  let d := if p.live && decide (d.f (PWM_LIVE_PER_PER g) ≠ ended) then d.setB (PWM_GRP_FLAGS_PER_MISMATCH g) true else d
  let pend := d.b (PWM_GRP_UPD_PENDING g)
  let cnt := if pend || !pwmDiff d g then 0 else min 3 (d.f (PWM_GRP_UPD_STALE_CNT g) + 1)
  let third := decide (cnt = 3 && d.f (PWM_GRP_UPD_STALE_CNT g) = 2)
  let d := if pend then (pwmMove d g).setB (PWM_GRP_UPD_PENDING g) false else d
  let d := d.setF (PWM_GRP_UPD_STALE_CNT g) cnt
  let d := if third then (d.setB (PWM_GRP_FLAGS_STALE g) true).setPwm g { d.pwm g with newStale := true } else d
  let run := d.b (PWM_GCTL_RUN g)
  let p := d.pwm g
  let xfer := run && (p.xfer || pend)
  let live := xfer && !d.b (PWM_GCTL_TRIPPED g) && !d.forced
  let d := pwmSetDiff (d.setPwm g { p with xfer := xfer, live := live, moved := pend }) g
  let chans := List.range (d.f (PWM_GCFG_COUNT g))
  if live then forEach chans (fun x c => pwmShape x g c) (d.setB (PWM_GCTL_SAFE g) false)
  else forEach chans (fun x c => pwmMissSafe x g c) (pwmSafe d g)

/-- All groups reload. -/
def pwmReloadAll (d : Dev) (ended : Nat) : Dev := forEach (List.range 16) (fun x g => pwmReload x g ended) d

/-- A trip acts on a group (R251, R252): safe levels now, the latch set; the logical record sees it at the next major
boundary. -/
def pwmTripGroup (d : Dev) (t g : Nat) : Dev :=
  let p := d.pwm g
  let p1 := { p with live := false, newTrip := true, tripIn := p.tripIn ||| 2 ^ t,
                     tripMode := if p.newTrip then p.tripMode else d.f (PWM_TRIP_CFG_MODE t) }
  pwmSafe ((d.setB (PWM_GCTL_TRIPPED g) true).setPwm g p1) g

/-- A trip input's pad takes a level and has held it for `cycles` CLK_TIME cycles (R251). -/
def pwmTrip (d : Dev) (t : Nat) (level : Bool) (cycles : Nat) : Dev :=
  let act := level != d.b (PWM_TRIP_CFG_POL t)
  let d := d.setB (PWM_TRIP_CFG_LEVEL t) act
  let d := if act then d.setB (PWM_TRIP_CFG_SEEN t) true else d
  if act && (!d.b (PWM_TRIP_CFG_MODE t) || decide (d.f (PWM_TRIP_CFG_FLT t) ≤ cycles)) then
    forEach ((List.range 16).filter (fun g => (d.f (PWM_GCFG_TRIP_MASK g)).testBit t)) (fun x g => pwmTripGroup x t g) d
  else d

/-- TRIP_CLR (R252): releases the latch when every input of TRIP_MASK is inactive. -/
def pwmTripClr (d : Dev) (g : Nat) : Dev :=
  if (List.range 8).all (fun t => !((d.f (PWM_GCFG_TRIP_MASK g)).testBit t && d.b (PWM_TRIP_CFG_LEVEL t))) then
    d.setB (PWM_GCTL_TRIPPED g) false
  else d

/-- Groups tripped since the last major boundary (R252). -/
def trippedGroups (d : Dev) : List Nat := (List.range 16).filter (fun g => (d.pwm g).newTrip)

/-- Records of Table 10-4 for one group at a major boundary, and FLAGS.TRIP (R252, R258). -/
def pwmMajorGroup (d : Dev) (g : Nat) : Dev :=
  let p := d.pwm g
  let d := if p.newTrip then (d.setB (PWM_GRP_FLAGS_TRIP g) true).raise 0x2050 g g p.tripIn p.tripMode else d
  let d := match p.clamp with | some (c, v) => d.raise 0x2051 g g c v | none => d
  let d := if p.newStale then d.raise 0x2052 g g (d.f (PWM_GRP_UPD_STALE_CNT g)) 0 else d
  let d := if p.newLate then d.raise 0x2053 g g 0 0 else d
  d.setPwm g { d.pwm g with newTrip := false, tripIn := 0, tripMode := 0, clamp := none, newStale := false,
                            newLate := false }

def pwmMajor (d : Dev) : Dev := forEach (List.range 16) pwmMajorGroup d

/-- A cause of R253 forces every channel off. -/
def pwmForceOff (d : Dev) : Dev :=
  let d := forEach (List.range 16) (fun x g => (x.setPwm g { x.pwm g with live := false }).setB (PWM_GCTL_SAFE g) true) d
  { d with io := { d.io with wave := [] } }

/-- R167: edges of a centre-aligned duty, rounded to whole cycles, staged for channel `c` of the group. -/
def pwmDuty (d : Dev) (g c per : Nat) (duty : Rat) : Dev :=
  let rise := (roundEven ((per : Rat) * (1 - duty) / 2)).toNat
  let d := pwmStage (pwmStage d g (PWM_GRP_RISE_COARSE g c) rise) g (PWM_GRP_RISE_FINE g c) 0
  pwmStage (pwmStage d g (PWM_GRP_FALL_COARSE g c) (per - rise)) g (PWM_GRP_FALL_FINE g c) 0

/-- R248: the duties of every channel and PER go to staging, then COMMIT, always before the reload. -/
def pwmPublish (d : Dev) (g per : Nat) (duties : List Rat) : Dev :=
  let d := pwmStage d g (PWM_GRP_PER_PER g) per
  let d := forEach ((List.range duties.length).zip duties) (fun x cd => pwmDuty x g cd.1 per cd.2) d
  d.setB (PWM_GRP_UPD_PENDING g) true

/-! ### Sigma-delta inputs -/

/-- log2 of OSR (R255). -/
def sdK (d : Dev) (i : Nat) : Nat := 5 + d.f (SD_CFG_OSR i)

/-- R255: result of the raw sum `s` with OSR = 2^k, and whether it was clamped. -/
def sdValue (k s : Nat) : Int × Bool :=
  let x := shiftInt ((s : Int) - (2 ^ (3 * k - 1) : Nat)) (16 - 3 * (k : Int))
  (clampI (-32768) 32767 x, decide (x < -32768 || 32767 < x))

/-- A result of input `i`: raw sum, and whether its window holds a transition (R255, R257). -/
def sdResult (d : Dev) (i s : Nat) (transition : Bool) : Dev :=
  let r := sdValue (sdK d i) s
  let d := d.setS (SD_RESULT_RESULT i) r.1
  let d := if r.2 then d.setB (SD_FLAGS_CLIP i) true else d
  let fault := d.b (SD_RESULT_FAULT i) && !transition
  (d.setB (SD_RESULT_FAULT i) fault).setB (SD_RESULT_VALID i) (!fault)

/-- SD_FAULT (R257). -/
def sdFault (d : Dev) (i : Nat) : Dev :=
  let d := ((d.setB (SD_RESULT_FAULT i) true).setB (SD_RESULT_VALID i) false).setB (SD_FLAGS_FAULT i) true
  d.raiseNext 0x2054 i i (d.f (SD_CFG_GROUP i)) 0

/-- The newest result of input `i` in mA or mV (R255). -/
def sdReal (d : Dev) (i : Nat) : Rat :=
  let full := match d.img.run with | some im => tget 0 im.sdFull i | none => 0
  ufield 16 (d.f (SD_RESULT_RESULT i)) * full / 32768

/-- Is the newest result of input `i` valid? -/
def sdValid (d : Dev) (i : Nat) : Bool := d.b (SD_RESULT_VALID i)

end Sys2Proof.Machine
end

