-- ==== Sys2Proof/Machine/Feedback.lean ====
section
/-!
DEFINITION. Feedback channels, latches, compare units and step pairs (chapter 11). Instants are CLK_TIME cycles; CLK_FB
has four of them to a cycle.
-/
namespace Sys2Proof.Machine

open Fld

def Dev.fb (d : Dev) (n : Nat) : FbCh := tget {} d.io.fb n
def Dev.setFb (d : Dev) (n : Nat) (c : FbCh) : Dev := { d with io := { d.io with fb := tset {} d.io.fb n c } }
def Dev.cmp (d : Dev) (n : Nat) : Cmp := tget {} d.io.cmp n
def Dev.setCmp (d : Dev) (n : Nat) (c : Cmp) : Dev := { d with io := { d.io with cmp := tset {} d.io.cmp n c } }
def Dev.pair (d : Dev) (n : Nat) : StepPair := tget {} d.io.step n
def Dev.setPair (d : Dev) (n : Nat) (c : StepPair) : Dev := { d with io := { d.io with step := tset {} d.io.step n c } }

/-- A count wraps modulo 2^48 (R260). -/
def wrap48 (x : Int) : Int := (BitVec.ofInt 48 x).toInt

/-- STILL in CLK_TIME cycles (R269). -/
def stillCycles (d : Dev) (n : Nat) : Nat := d.f (FB_TIME_STILL n) * 8000

/-! ### Compare units (R274 to R277) -/

/-- Numbers of the compare units on channel `ch`. -/
def cmpsOn (d : Dev) (ch : Nat) : List Nat := (List.range 32).filter (fun u => decide (d.f (CMP_CFG_CHAN u) = ch))

/-- Units owned by a trigger binding (R147). -/
def cmpOwned (d : Dev) (u : Nat) : Bool :=
  match d.img.run with | some i => i.trigs.any (fun t => decide (t.unit = u)) | none => false

/-- Modulus of a channel for WRAP (R275). -/
def fbMod (d : Dev) (ch : Nat) : Nat := d.f (FB_MOD_LO_MOD_LO ch) + 2 ^ 32 * d.f (FB_MOD_HI_MOD_HI ch)

/-- A firing starts or extends the pulse of the unit's pin (R277, R278); PW 0 disables the pin. -/
def cmpPulse (d : Dev) (pin t : Nat) : Dev :=
  let pw := d.f (CMP_PIN_CFG_PW pin)
  if pw = 0 || d.forced || d.replaying then d
  else
    let d := d.setB (CMP_PIN_CFG_LEVEL pin) true
    { d with io := { d.io with pinUntil := tset 0 d.io.pinUntil pin (t + pw * 4) } }

/-- The unit fires at instant `t`, late or not (R277). -/
def cmpFire (d : Dev) (u t : Nat) (late : Bool) : Dev :=
  let l := d.locate t
  let d := (d.setF (CMP_FIRE_OFS u) l.2.2).setF (CMP_FIRE_MINOR u) l.2.1
  let d := d.setF (CMP_FMAJ_MAJ u) (l.1 % 2 ^ 32)
  let d := d.setF (CMP_STAT_STATE u) (if late then 4 else 2)
  let d := if late then d.setB (CMP_STAT_LATE u) true else d.setB (CMP_STAT_FIRED u) true
  let d := d.setCmp u { d.cmp u with armed := false, plan := none, detect := none, res := if late then 4 else 2 }
  cmpPulse d (d.f (CMP_CFG_PIN u)) t

/-- When an armed unit is due: the predicted instant once the count has reached target − 1, else the instant after the
detection of the target count (R276). -/
def cmpDue (d : Dev) (u : Nat) : Option Nat :=
  let c := d.cmp u
  if !c.armed then none
  else
    let p := (d.fb (d.f (CMP_CFG_CHAN u))).pos
    match c.plan with
    | some t => if c.detect.isSome || decide ((c.fireCount - p).natAbs ≤ 1) then some t else c.detect
    | none => c.detect

/-- Two newest edges (or frames) of a channel: the interval per count, and whether both run in direction `rev`. -/
def cmpInterval (d : Dev) (ch : Nat) : List FbEdge → Option (FbEdge × Rat)
  | e1 :: e0 :: _ =>
    let k := (e1.count - e0.count).natAbs
    if e1.rev = e0.rev && decide (e1.at_ - e0.at_ ≤ stillCycles d ch) && decide (k ≠ 0) then
      some (e1, ((e1.at_ - e0.at_ : Nat) : Rat) / k)
    else none
  | _ => none

/-- R276: nearest 5 ns grid point, the later one on a tie. -/
def grid5 (x : Rat) : Nat := ((x / 4 + 1 / 2).floor * 4).toNat

/-- The count that fires a unit, once its direction is known (R275): under WRAP the next one congruent to the target. -/
def cmpCount (d : Dev) (u : Nat) (p : Int) (rev : Bool) : Int :=
  let c := d.cmp u
  let m := fbMod d (d.f (CMP_CFG_CHAN u))
  if d.f (CMP_CFG_MODE u) = 2 && decide (2 ≤ m) then
    if rev then p - (if (p - c.target) % (m : Int) = 0 then (m : Int) else (p - c.target) % (m : Int))
    else p + (if (c.target - p) % (m : Int) = 0 then (m : Int) else (c.target - p) % (m : Int))
  else c.target

/-- An armed unit sees its channel's newest edge: direction, target reached, prediction (R275, R276). -/
def cmpEdge (d : Dev) (u : Nat) (edges : List FbEdge) : Dev :=
  let c := d.cmp u
  match edges with
  | [] => d
  | e :: _ =>
    if !c.armed then d
    else
      let ch := d.f (CMP_CFG_CHAN u)
      let h := (d.f (FB_CFG_FLT ch) + 5) * 4
      let rev := c.rev.getD e.rev
      let ahead : Int := if rev then e.count - c.fireCount else c.fireCount - e.count
      let detect := if e.rev = rev && decide (ahead ≤ 0) && c.detect.isNone then some (e.at_ + h) else c.detect
      let plan := match cmpInterval d ch edges with
        | some (e1, iv) =>
          if e1.rev ≠ rev then none
          else if decide (0 < ahead) && decide ((h : Rat) ≤ ahead * iv) then some (grid5 (e1.at_ + ahead * iv)) else c.plan
        | none => if detect.isSome then c.plan else none
      d.setCmp u { c with detect := detect, plan := plan }

/-- Arming of a unit at a major boundary, instant `at_` (R275). -/
def cmpArm (d : Dev) (u : Nat) (target : Int) (at_ : Nat) : Dev :=
  let ch := d.f (CMP_CFG_CHAN u)
  if !d.b (FB_STAT_VALID ch) then (d.setF (CMP_STAT_STATE u) 5).setCmp u { d.cmp u with armed := false, target := target }
  else
    let p := (d.fb ch).pos
    let sp := (d.fb ch).sample.speed
    let rev : Option Bool := match d.f (CMP_CFG_DIR u) with
      | 0 => some false
      | 1 => some true
      | _ => if sp = 0 then none else some (decide (sp < 0))
    let d := d.setCmp u { d.cmp u with target := target, cntArm := p, rev := rev, plan := none, detect := none, armed := false }
    let wrap := d.f (CMP_CFG_MODE u) = 2 && decide (2 ≤ fbMod d ch)
    if (if wrap then decide ((p - target) % (fbMod d ch : Int) = 0) else decide (p = target)) then cmpFire d u at_ false
    else
      let behind := match rev with | some false => decide (target < p) | some true => decide (p < target) | none => false
      if behind && !wrap then
        if d.f (CMP_CFG_MODE u) = 1 then cmpFire d u at_ true
        else
          let d := (d.setF (CMP_STAT_STATE u) 3).setB (CMP_STAT_BEHIND u) true
          d.setCmp u { d.cmp u with res := 3 }
      else
        let r := rev.getD (decide (target < p))
        let d := d.setF (CMP_STAT_STATE u) 1
        let d := d.setCmp u { d.cmp u with armed := true, rev := some r, fireCount := cmpCount d u p r }
        let es := if d.f (FB_CFG_MODE ch) = 4 then (d.fb ch).frames else (d.fb ch).hist
        let h := (d.f (FB_CFG_FLT ch) + 5) * 4
        match cmpInterval d ch es with
        | some (e1, iv) =>
          let ahead : Int := if r then e1.count - (d.cmp u).fireCount else (d.cmp u).fireCount - e1.count
          if e1.rev = r && decide ((h : Rat) ≤ ahead * iv) then
            d.setCmp u { d.cmp u with plan := some (grid5 (e1.at_ + ahead * iv)) }
          else d
        | none => d

/-- The result of the last major frame becomes the one the block of minor frame 0 carries; records where no trigger
binding owns the unit (R266, R277, R281). -/
def cmpCarry (d : Dev) (u : Nat) : Dev :=
  let c := d.cmp u
  let fire := (d.reg (CMP_FIRE_OFS u).addr).toNat
  let maj := d.f (CMP_FMAJ_MAJ u)
  let d := d.setCmp u { c with res := 0, carry := if c.res = 0 then none else some (c.res, maj, fire) }
  if cmpOwned d u then d
  else match c.res with
    | 2 => d.raise 0x2080 u u maj (d.f (CMP_FIRE_OFS u))
    | 3 => d.raise 0x2081 u u (sfield 32 c.target) (sfield 32 c.cntArm)
    | 4 => d.raise 0x2082 u u (sfield 32 c.target) (sfield 32 c.cntArm)
    | _ => d

/-- A staged pair becomes live at the major boundary of instant `at_`; a firing due in that cycle belongs to the old
target (R274, R277). -/
def cmpTransfer (d : Dev) (u at_ : Nat) : Dev :=
  match (d.cmp u).staged with
  | none => d
  | some (t, arm) =>
    let d := match cmpDue d u with | some x => if x ≤ at_ then cmpFire d u x false else d | none => d
    let d := (d.setCmp u { d.cmp u with staged := none, armed := false, plan := none, detect := none }).setB
      (CMP_TGT_HI_STAGED u) false
    if arm then cmpArm d u t at_ else d.setF (CMP_STAT_STATE u) 5

/-- Compare units at a major boundary. -/
def cmpMajor (d : Dev) (at_ : Nat) : Dev :=
  forEach (List.range 32) (fun x u => cmpTransfer x u at_) (forEach (List.range 32) cmpCarry d)

/-- CMPn_TGT_HI written: the pair is staged with the present CMPn_TGT_LO (R274). -/
def cmpStage (d : Dev) (u : Nat) (hi : Nat) (arm : Bool) : Dev :=
  let d := ((d.setF (CMP_TGT_HI_TGT_HI u) hi).setB (CMP_TGT_HI_ARM u) arm).setB (CMP_TGT_HI_STAGED u) true
  let t := ufield 48 (d.f (CMP_TGT_LO_TGT_LO u) + 2 ^ 32 * d.f (CMP_TGT_HI_TGT_HI u))
  d.setCmp u { d.cmp u with staged := some (t, arm) }

/-- Felade stages a whole target (R281, R147). -/
def cmpStageTarget (d : Dev) (u : Nat) (target : Int) (arm : Bool) : Dev :=
  let v := sfield 48 target
  cmpStage (d.setF (CMP_TGT_LO_TGT_LO u) (v % 2 ^ 32)) u (v / 2 ^ 32) arm

/-- Every pin at its inactive level and every pulse ended (R278). -/
def pinsForceOff (d : Dev) : Dev :=
  let d := forEach (List.range 16) (fun x p => x.setB (CMP_PIN_CFG_LEVEL p) false) d
  let d := forEach (List.range 16) (fun x p => x.setPair p { x.pair p with pulses := [] }) d
  { d with io := { d.io with pinUntil := [] } }

/-- End of a pin's pulse (R277). -/
def cmpPulseEnd (d : Dev) (pin at_ : Nat) : Dev :=
  if tget 0 d.io.pinUntil pin ≤ at_ then
    { d.setB (CMP_PIN_CFG_LEVEL pin) false with io := { d.io with pinUntil := tset 0 d.io.pinUntil pin 0 } }
  else d

/-! ### Channels -/

/-- Place of the two levels in the quadrature cycle, A leading B when forward (PRESUMED, log entry 20). -/
def quadPlace (a b : Bool) : Nat := match a, b with | false, false => 0 | true, false => 1 | true, true => 2 | false, true => 3

/-- Edges kept: those of the last 2 µs and the newest three. -/
def keepEdges : List FbEdge → List FbEdge
  | e1 :: e2 :: e3 :: r => e1 :: e2 :: e3 :: r.filter (fun e => decide (e1.at_ ≤ e.at_ + 1600))
  | l => l

/-- One counted edge (R260, Table 11-2), forward or reverse, at time `t`. -/
def fbCount (d : Dev) (n : Nat) (rev : Bool) (t : Nat) : Dev :=
  let rev := rev != d.b (FB_CFG_INV n)
  let c := d.fb n
  let same := match c.hist with | e :: _ => decide (e.rev = rev) | [] => false
  let fresh := decide (c.run = 0)
  let run := if fresh then 1 else if same then min 3 (c.run + 1) else 1
  let pos := wrap48 (c.pos + (if rev then -1 else 1))
  let d := d.setB (FB_STAT_DIR n) rev
  let d := if fresh then (d.setB (FB_STAT_FIRST_EDGE n) true).setB (FB_STAT_STANDSTILL n) false
    else d.setB (FB_STAT_FIRST_EDGE n) false
  let d := if run ≤ 2 then d.setB (FB_STAT_METHOD n) false else d
  let hist := keepEdges ({ at_ := t, rev := rev, count := pos } :: c.hist)
  let d := d.setFb n { c with pos := pos, run := run, e := c.e + 1, since := t, hist := hist }
  forEach (cmpsOn d n) (fun x u => cmpEdge x u hist) d

/-- Is VALID due to clear (R262, R265)? The cause of FB_INVALID, 0 for no. -/
def fbInvalidCause (d : Dev) (n : Nat) : Nat :=
  if !d.b (FB_STAT_VALID n) then 0
  else if decide (1 ≤ d.f (FB_CFG_QERR_LIMIT n)) && decide (d.f (FB_CFG_QERR_LIMIT n) ≤ d.f (FB_STAT_QERR_CNT n)) then 1
  else if (d.fb n).stBad then 3
  else 0

/-- VALID clears: flag, record, and every compare unit on the channel cancelled (R473). -/
def fbInvalid (d : Dev) (n cause : Nat) : Dev :=
  let d := ((d.setB (FB_STAT_VALID n) false).setB (FB_FLAGS_INVALID n) true).raiseNext 0x2062 n n cause 0
  let d := d.setFb n { d.fb n with newInvalid := true }
  forEach (cmpsOn d n) (fun x u =>
    if (x.cmp u).armed || (x.cmp u).staged.isSome then
      ((x.setCmp u { x.cmp u with armed := false, staged := none, plan := none, detect := none }).setF
        (CMP_STAT_STATE u) 5).setB (CMP_TGT_HI_STAGED u) false
    else x) d

/-- VALID clears where it is due (R262, R265). -/
def fbCheckValid (d : Dev) (n : Nat) : Dev := if fbInvalidCause d n = 0 then d else fbInvalid d n (fbInvalidCause d n)

/-- Both levels changed in one sample (R262). -/
def fbQuadError (d : Dev) (n : Nat) : Dev :=
  let d := (d.setB (FB_FLAGS_QUAD_ERR n) true).count (FB_STAT_QERR_CNT n)
  fbCheckValid (d.raiseNext 0x2060 n n (sfield 32 (d.fb n).pos) (d.f (FB_STAT_QERR_CNT n))) n

/-- Inputs A and B take these levels after the filter, edge time `t` (R261, Table 11-1). -/
def fbEdge (d : Dev) (n : Nat) (a b : Bool) (t : Nat) : Dev :=
  let c := d.fb n
  let d1 := d.setFb n { c with a := a, b := b }
  match d.f (FB_CFG_MODE n) with
  | 1 =>
    match (quadPlace a b + 4 - quadPlace c.a c.b) % 4 with
    | 1 => fbCount d1 n false t
    | 3 => fbCount d1 n true t
    | 2 => fbQuadError d1 n
    | _ => d1
  | 2 => if a && !c.a then fbCount d1 n b t else d1
  | 3 =>
    let d2 := if a && !c.a then fbCount d1 n false t else d1
    if b && !c.b then fbCount d2 n true t else d2
  | _ => d1

/-- Index input (R263): on its active level with the gate open the count is captured. -/
def fbIndex (d : Dev) (n : Nat) (z : Bool) : Dev :=
  let c := d.fb n
  let pol := d.b (FB_CFG_IDX_POL n)
  let gate := match d.f (FB_CFG_IDX_GATE n) with | 0 => true | 1 => c.a | 2 => c.b | _ => c.a && c.b
  let m := d.f (FB_CFG_MODE n)
  if z != pol && c.z == pol && gate && (m == 1 || m == 2 || m == 3) then
    (d.setFb n { c with z := z, idx := c.pos }).setB (FB_STAT_IDX_NEW n) true
  else d.setFb n { c with z := z }

/-- Bits, most significant first, as a number. -/
def bitsVal (l : List Bool) : Nat := l.foldl (fun x b => 2 * x + b.toNat) 0

/-- Gray code to binary, most significant first (R264). -/
def grayBits : Bool → List Bool → List Bool
  | _, [] => []
  | p, b :: r => (p != b) :: grayBits (p != b) r

/-- A serial frame (R264, R265): line level before the first falling edge, bits as sampled, instant of the latch. -/
def fbSerial (d : Dev) (n : Nat) (idle : Bool) (bits : List Bool) (t : Nat) : Dev :=
  if d.f (FB_CFG_MODE n) ≠ 4 then d
  else
    let j := n - 16
    let w := d.f (FB_SER_BITS j)
    let bs := bits.drop (d.f (FB_SER_SKIP j))
    let data := bs.take w
    let stat := (bs.drop w).take (d.f (FB_SER_STATUS j))
    let par := (bs.drop w).drop (d.f (FB_SER_STATUS j))
    let raw : Int := bitsVal (if d.b (FB_SER_GRAY j) then grayBits false data else data)
    let odd := d.b (FB_SER_PARITY j) && (data ++ stat ++ par.take 1).foldl (fun x b => x != b) false
    let masked := ((List.range stat.length).zip stat).any (fun p => p.2 && (d.f (FB_SER_ST_MASK j)).testBit p.1)
    let cause := if !idle then 2 else if odd then 1 else if masked then 3 else 0
    let c := d.fb n
    let d := d.setFb n { c with raw := raw, stBad := decide (cause = 3) }
    if cause = 0 then
      let c := d.fb n
      let pos := match c.rawPrev with
        | none => wrap48 raw
        | some r => wrap48 (c.pos + (BitVec.ofInt w (raw - r)).toInt)
      let rev := match c.frames with | e :: _ => decide (pos < e.count) | [] => false
      let fr := (({ at_ := t, rev := rev, count := pos } : FbEdge) :: c.frames).take 2
      let moved := match c.frames with | e :: _ => decide (pos ≠ e.count) | [] => true
      let d := (d.setB (FB_STAT_SER_OK n) true).setFb n
        { c with pos := pos, rawPrev := some raw, frames := fr, since := if moved then t else c.since }
      forEach (cmpsOn d n) (fun x u => cmpEdge x u fr) d
    else
      let d := ((d.setB (FB_STAT_SER_OK n) false).setB (FB_FLAGS_SER_ERR n) true).setF (FB_FLAGS_SER_CAUSE n) cause
      fbCheckValid (d.raiseNext 0x2061 n n cause (raw % 2 ^ 32)) n

/-- Speed of modes 1 to 3 at sample instant `t` (R267 to R269), and whether count mode is in use after it. -/
def fbSpeed (d : Dev) (n t : Nat) : Int × Bool :=
  let c := d.fb n
  let T : Int := d.tMinor
  match c.hist with
  | e1 :: e0 :: _ =>
    if c.run ≤ 1 then (0, false)
    else
      let per : Int := (4096 * T) / (max (e1.at_ - e0.at_) (t - e1.at_) : Nat)
      let period := if e1.rev then -per else per
      let m := d.b (FB_STAT_METHOD n)
      let count := if c.run = 2 then false else if m then !decide (c.e < 4) else decide (8 < c.e)
      match count, c.prevAt with
      | true, some a =>
        if a < e1.at_ then (((c.pos - c.prevCount) * 4096 * T).tdiv (e1.at_ - a : Nat), true) else (period, false)
      | _, _ => (period, false)
  | _ => (0, false)

/-- The sample instant (R266). -/
def fbSample (d : Dev) (n t : Nat) : Dev :=
  let c := d.fb n
  if d.f (FB_CFG_MODE n) = 0 then d
  else
    let quiet := decide (stillCycles d n ≤ t - c.since)
    let v : Int × Bool :=
      if d.f (FB_CFG_MODE n) = 4 then
        match c.frames with
        | e1 :: e0 :: _ =>
          (((e1.count - e0.count) * 4096 * (d.tMinor : Int)).tdiv (max 1 (e1.at_ - e0.at_) : Nat), false)
        | _ => (0, false)
      else if quiet then (0, false) else fbSpeed d n t
    let d := (d.setS (FB_SPEED_SPEED n) v.1).setB (FB_STAT_METHOD n) v.2
    let d := d.setB (FB_STAT_STANDSTILL n) quiet
    let d := if d.f (FB_CFG_MODE n) = 4 && decide (v.1 ≠ 0) then d.setB (FB_STAT_DIR n) (decide (v.1 < 0)) else d
    let d := if quiet then d.setB (FB_STAT_FIRST_EDGE n) false else d
    let s : FbSamp := { count := c.pos, speed := v.1, stat := d.reg (FB_STAT_VALID n).addr, idx := c.idx, at_ := t }
    (d.setB (FB_STAT_IDX_NEW n) false).setFb n
      { c with sample := s, e := 0, prevCount := c.pos, prevAt := c.hist.head?.map (·.at_), run := if quiet then 0 else c.run }

/-- REVALID (R262, R473). -/
def fbRevalid (d : Dev) (n : Nat) : Dev :=
  ((d.setB (FB_STAT_VALID n) true).setF (FB_STAT_QERR_CNT n) 0).setFb n { d.fb n with stBad := false }

/-- A channel is enabled by an image: count 0, valid, no edge yet (R260; log entry 21). -/
def fbEnable (d : Dev) (n at_ : Nat) : Dev :=
  let c := d.fb n
  let d := d.setFb n { a := c.a, b := c.b, z := c.z, since := at_ }
  (d.setF (FB_STAT_VALID n) 0).setB (FB_STAT_VALID n) (decide (d.f (FB_CFG_MODE n) ≠ 0))

/-! ### Latches -/

/-- Count of a channel at an instant, from its present count and its newest edges. -/
def countAt : Int → List FbEdge → Nat → Int
  | p, [], _ => p
  | _, e :: r, t => if e.at_ ≤ t then e.count else countAt (wrap48 (e.count + (if e.rev then 1 else -1))) r t

/-- Nominal delay of the field latch path, 4.0 µs (R272, R273). -/
def fieldDelay : Nat := 3200

/-- Position a latch captures (R272); `t` is the capture instant. -/
def latchPos (d : Dev) (src t : Nat) : Int :=
  let n := d.f (LAT_CFG_SRC src)
  if d.b (LAT_CFG_KIND src) then
    let a := d.axis n
    let rotary := match d.axCfg n with | some c => c.rotary | none => true
    wrap48 (roundAway (a.sample.pos + a.homeOfs + a.sample.speed * (if rotary then 4096 else 1000) * ((t : Rat) - a.sampleAt) / 800000000))
  else
    let c := d.fb n
    if d.f (FB_CFG_MODE n) = 4 then
      wrap48 (roundAway (c.sample.count + (c.sample.speed : Rat) * ((t : Rat) - c.sample.at_) / (4096 * d.tMinor)))
    else if src < 16 then countAt c.pos c.hist t
    else wrap48 (c.pos - roundAway ((c.sample.speed : Rat) * fieldDelay / (4096 * d.tMinor)))

/-- Batch that takes an input stamped at `t`: E of R48. -/
def batchOf (d : Dev) (t : Nat) : Nat :=
  let u := t + d.f RMT_CFG_CUTOFF_US * 800
  if u < d.esc.majAt then d.esc.maj else if u < d.esc.majAt + d.tMajor then d.esc.maj + 1 else d.esc.maj + 2

/-- An event of latch source `src` waits for the batch that would take one captured at `t` (R273). -/
def latchWaits (d : Dev) (src t : Nat) : Bool :=
  d.rmt.inputs.any (fun x => match x.input with
    | .latch s _ t' _ => decide (s = src) && decide (batchOf d t' = batchOf d t)
    | _ => false)

/-- LATn_STAT.NEW follows the events that wait for sealing. -/
def latchNew (d : Dev) : Dev :=
  forEach (List.range 24) (fun d k => d.setB (LAT_STAT_NEW k) (d.rmt.inputs.any (fun x => match x.input with
    | .latch s .. => decide (s = k)
    | _ => false))) d

/-- A latch event (R271 to R273): confirmed edge to `level`; `at_` is the capture instant of a pin source, the
confirmation of a field source. -/
def latchEvent (d : Dev) (src at_ : Nat) (level : Bool) : Dev :=
  let t := if src < 16 then at_ else at_ - fieldDelay
  let edge := d.f (LAT_CFG_EDGE src)
  let n := d.f (LAT_CFG_SRC src)
  if !d.b (LAT_CFG_EN src) || !edge.testBit (if level then 0 else 1) then d
  else if 16 ≤ src ∧ !(d.f FI_CFG_LATCH_EN).testBit (src - 16) then d
  else if !d.b (LAT_CFG_KIND src) && !d.b (FB_STAT_VALID n) then d
  else if latchWaits d src t then
    let d := (d.setB (LAT_STAT_OVR src) true).count (LAT_STAT_OVR_CNT src)
    d.raiseNext 0x2070 src src 1 0
  else
    let pos := latchPos d src t
    let l := d.locate t
    let d := { d with io := { d.io with latPos := tset 0 d.io.latPos src pos } }
    let d := ((d.setF (LAT_TIME_OFS src) l.2.2).setF (LAT_TIME_MINOR src) l.2.1).setB (LAT_TIME_LEVEL src) level
    let d := (d.setF (LAT_MAJ_MAJ src) (l.1 % 2 ^ 32)).setB (LAT_STAT_NEW src) true
    { d with rmt := { d.rmt with inputs := d.rmt.inputs ++ [{ stamp := t, frame := l.1, input := .latch src pos t level }] } }

/-! ### Step and direction pairs -/

/-- R280: the pulses that are emitted of those wanted, and how many are dropped. -/
def stepKeep (pw per : Nat) : Option Int → List Nat → List Nat × Nat
  | _, [] => ([], 0)
  | prev, s :: r =>
    let bad := decide (per < s + pw) || (match prev with | some p => decide ((s : Int) < p + 2 * pw) | none => false)
    if bad then let k := stepKeep pw per prev r; (k.1, k.2 + 1)
    else let k := stepKeep pw per (some s) r; (s :: k.1, k.2)

/-- The reload of a pair for a period of `per` cycles; `ended` is the period that ends (R279, R280). -/
def stepReload (d : Dev) (n per ended : Nat) : Dev :=
  let p := d.pair n
  let pend := d.b (STEP_UPD_PENDING n)
  let steps : Int := if pend && d.b (STEP_CFG_EN n) && !d.forced && !d.replaying then ufield 16 (d.f (STEP_CMD_N n)) else 0
  let rev := if steps = 0 then p.rev else decide (steps < 0)
  let wanted := (List.range steps.natAbs).map (fun j =>
    let s := d.f (STEP_PH_PH n) + j * d.f (STEP_INT_INT n) / 256
    if rev != p.rev then max s (d.f (STEP_CFG_SETUP n)) else s)
  let k := stepKeep (d.f (STEP_CFG_PW n)) per (p.last.map (· - (ended : Int))) wanted
  let moved : Int := if rev then -(k.1.length : Int) else k.1.length
  let last : Option Int := match k.1.getLast? with | some s => some (s : Int) | none => p.last.map (· - (ended : Int))
  let d := (d.setB (STEP_UPD_PENDING n) false).setPair n
    { pos := wrap48 (p.pos + moved), rev := rev, pulses := k.1, last := last, moved := pend }
  if k.2 = 0 then d
  else
    let d := (d.count (STEP_FLAGS_DROP_CNT n) k.2).setB (STEP_FLAGS_DROP n) true
    d.raiseNext 0x2090 n n k.2 d.minor

def stepReloadAll (d : Dev) (per ended : Nat) : Dev := forEach (List.range 16) (fun x n => stepReload x n per ended) d

/-- COMMIT of a pair (R279, Table 10-2). -/
def stepCommit (d : Dev) (n at_ : Nat) : Dev :=
  let d := if decide (at_ = d.esc.t0) && d.running && !(d.pair n).moved then d.setB (STEP_FLAGS_LATE_COMMIT n) true else d
  d.setB (STEP_UPD_PENDING n) true

/-- A staged write to a pair. -/
def stepStage (d : Dev) (n : Nat) (f : Fld) (v : Nat) : Dev := (d.setF f v).setB (STEP_UPD_PENDING n) false

end Sys2Proof.Machine
end

