-- ==== Sys2Proof/Machine/StepperOps.lean ====
section
/-!
DEFINITION. Stepper channels: microstep position, resolution levels, quiet and strong drive, step/direction output
(chapter 12).
-/
namespace Sys2Proof.Machine

open Fld

def Dev.stp (d : Dev) (c : Nat) : Stepper := tget {} d.io.stp c
def Dev.setStp (d : Dev) (c : Nat) (x : Stepper) : Dev := { d with io := { d.io with stp := tset {} d.io.stp c x } }

/-- Configuration of channel `c` in the running image. -/
def Dev.stpCfg (d : Dev) (c : Nat) : StepperCfg := match d.img.run with | some i => (tget none i.steppers c).getD {} | none => {}

/-- Entry `j` of the table set an image does not supply (R287): 1,023 × sin((j + ½)π ÷ 512), rounded to nearest. -/
def defaultTable (j : Nat) : Nat := ((1023 * sinTurn ((2 * j + 1) * 2 ^ 13) + 2 ^ 63) / 2 ^ 64).toNat

/-- Table 12-1: the signed phase weights of an applied angle. -/
def phaseWeights (T : Nat → Nat) (theta : Nat) : Int × Int :=
  let j := theta % 256
  match theta / 256 % 4 with
  | 0 => ((T j : Int), (T (255 - j) : Int))
  | 1 => ((T (255 - j) : Int), -(T j : Int))
  | 2 => (-(T j : Int), -(T (255 - j) : Int))
  | _ => (-(T (255 - j) : Int), (T j : Int))

/-- R289: the applied angle at level `l`. -/
def appliedAngle (m : Int) (l : Nat) : Nat :=
  if l = 0 then (m % 1024).toNat
  else ((m.fdiv (2 ^ l : Nat) * (2 ^ l : Nat) + (2 ^ (l - 1) : Nat)) % 1024).toNat

/-- R288: the level after a major boundary. -/
def nextLevel (vfs base hyst : Rat) (maxL l : Nat) : Nat :=
  match ((List.range (maxL + 1)).filter (fun k => decide (l < k) && decide (base * (2 : Rat) ^ (k - 1) < vfs))).getLast? with
  | some k => k
  | none => if 0 < l ∧ vfs < base * (2 : Rat) ^ (l - 1) * (1 - hyst / 256) then l - 1 else l

/-- R284: the microstep set point of an axis position. -/
def microSet (x : Stepper) (cfg : StepperCfg) (p : Rat) : Int :=
  x.mRef + roundEven ((p - x.pRef) * cfg.num / cfg.den)

/-- A channel at a major boundary, with the set points that come into force (R284, R288, R290, R291). -/
def stepperMajor (d : Dev) (c : Nat) (p v : Rat) : Dev :=
  let cfg := d.stpCfg c
  let x := d.stp c
  let vfs := absR v * absR cfg.num / (cfg.den * 256)
  let still := if v = 0 then min 65535 (x.still + 1) else 0
  let d := d.setStp c { x with mPrev := x.m, mSet := microSet x cfg p, vfs := vfs, still := still }
  let d := if v = 0 then d else d.setB (STP_STAT_HOLD c) false
  let d := d.setF (STP_STAT_LEVEL c) (nextLevel vfs (d.f (STP_RES_RES_BASE c)) (d.f (STP_RES_RES_HYST c))
    (d.f (STP_CFG_RES_MAX c)) (d.f (STP_STAT_LEVEL c)))
  let strong := d.b (STP_STAT_STRONG c)
  let strong' := d.b (STP_CFG_COMPAT c)
    && (if strong then !decide (vfs < d.f (STP_COMPAT_V_QUIET c)) else decide ((d.f (STP_COMPAT_V_STRONG c) : Rat) < vfs))
  let d := d.setB (STP_STAT_STRONG c) strong'
  if strong' = strong then d else (d.count (STP_STAT_CHG_CNT c)).setB (STP_STAT_HOLD c) (d.b (STP_STAT_HOLD c) && !strong')

/-- R284: m of minor frame `i`, and the applied angle of R289. -/
def stepperAdvance (d : Dev) (c i : Nat) : Dev :=
  let x := d.stp c
  let m := wrap48 (x.mPrev + (((i : Int) + 1) * (x.mSet - x.mPrev)).fdiv (max 1 d.M : Nat))
  let d := d.setStp c { x with m := m }
  d.setF (STP_ANGLE_THETA c) (appliedAngle m (d.f (STP_STAT_LEVEL c)))

/-- Duties of the two half-bridges of a phase at voltage `u` (R290). -/
def phaseDuty (u vbus : Rat) : List Rat := [1 / 2 + u / (2 * vbus), 1 / 2 - u / (2 * vbus)]

/-- R292: is the phase driven, in the direction of its weight? -/
def phaseDriven (iPeak i : Rat) (w : Int) : Bool :=
  decide (w ≠ 0) && decide ((if w < 0 then -i else i) < iPeak * (w.natAbs : Rat) / 1023)

/-- The phase in the strong drive: duties, and the number of minor frames it has decayed above 512. -/
def strongPhase (iPeak i vmax vbus : Rat) (w : Int) (n : Nat) : List Rat × Nat :=
  if phaseDriven iPeak i w then (phaseDuty (if w < 0 then -vmax else vmax) vbus, 0)
  else ([0, 0], if 512 < w.natAbs then n + 1 else 0)

/-- The minor-frame stage on a bridge output (R290, R292): duties staged with COMMIT for a period of `per` cycles.
Answers whether a voltage clamp acted. -/
def stepperBridge (d : Dev) (c per : Nat) (modMax vbus iA iB : Rat) : Dev × Bool :=
  let cfg := d.stpCfg c
  let x := d.stp c
  let w := phaseWeights (fun j => d.f (STP_TBL_T (d.f (STP_CFG_SET c)) j)) (d.f (STP_ANGLE_THETA c))
  let g := d.f (STP_CFG_BIND c)
  let vmax := modMax * vbus
  if d.b (STP_STAT_STRONG c) then
    let a := strongPhase cfg.iPeak iA vmax vbus w.1 x.decayA
    let b := strongPhase cfg.iPeak iB vmax vbus w.2 x.decayB
    let x := { x with decayA := a.2, decayB := b.2, starvedA := x.starvedA && decide (0 < a.2),
                      starvedB := x.starvedB && decide (0 < b.2) }
    (pwmPublish (d.setStp c x) g per (a.1 ++ b.1), false)
  else
    let amp := if d.b (STP_STAT_HOLD c) then cfg.ampHold else cfg.amp
    let u := fun (k : Int) => (amp + cfg.kff * x.vfs) * k / 1023
    let ua := clampR (-vmax) vmax (u w.1)
    let ub := clampR (-vmax) vmax (u w.2)
    let x := { x with decayA := 0, decayB := 0, starvedA := false, starvedB := false }
    (pwmPublish (d.setStp c x) g per (phaseDuty ua vbus ++ phaseDuty ub vbus), decide (ua ≠ u w.1) || decide (ub ≠ u w.2))

/-- The minor-frame stage on a step/direction output for a period of `per` cycles (R294). -/
def stepperPulses (d : Dev) (c per : Nat) (on : Bool) : Dev :=
  let cfg := d.stpCfg c
  let x := d.stp c
  let p := d.f (STP_CFG_BIND c)
  let q := x.m.fdiv (cfg.drvRes : Nat)
  let n : Int := if on then q - x.q else 0
  let d := d.setStp c { x with q := q }
  let d := stepStage d p (STEP_CMD_N p) (sfield 16 n)
  let d := if n = 0 then d
    else
      let ph := max (d.f (STEP_CFG_SETUP p)) (per / (2 * n.natAbs))
      stepStage (stepStage d p (STEP_PH_PH p) ph) p (STEP_INT_INT p) (256 * (per - ph) / n.natAbs)
  d.setB (STEP_UPD_PENDING p) true

/-- STEP_CHOP_STARVED (R292): phase 0 A or 1 B has decayed for 32 minor frames; once per episode. -/
def chopStarved (d : Dev) (c ph : Nat) : Dev :=
  let x := d.stp c
  let due := if ph = 0 then decide (32 ≤ x.decayA) && !x.starvedA else decide (32 ≤ x.decayB) && !x.starvedB
  if due then
    let ax := (d.stpCfg c).axis
    let d := (d.setStp c (if ph = 0 then { x with starvedA := true } else { x with starvedB := true })).setB
      (STP_FLAGS_CHOP_STARVED c) true
    d.raiseNext 0x20A0 ax ax ph (truncR x.vfs)
  else d

/-- AMP_HOLD (R290): after HOLD_FRAMES major frames at v_set 0 the quiet drive uses AMP_HOLD. -/
def ampHold (d : Dev) (c : Nat) : Dev :=
  if (d.stpCfg c).holdFrames ≤ (d.stp c).still ∧ !d.b (STP_STAT_STRONG c) then d.setB (STP_STAT_HOLD c) true else d

/-- Enabling a stepper (R286): at the first enable since power-on reset m is 0 and p_ref the axis position. -/
def stepperEnable (d : Dev) (c : Nat) (p : Rat) : Dev :=
  let x := d.stp c
  if x.aligned then d
  else d.setStp c { x with aligned := true, m := 0, mPrev := 0, mSet := 0, pRef := p, mRef := 0, q := 0 }

/-- A successful homing sets p_ref and leaves m (R296). -/
def stepperHomed (d : Dev) (c : Nat) (p : Rat) : Dev := d.setStp c { d.stp c with pRef := p, mRef := (d.stp c).m }

end Sys2Proof.Machine
end

