-- ==== Sys2Proof/Machine/AxisOps.lean ====
section
/-!
DEFINITION. Axes: states, faults, enabling, brakes, samples and their age, supervision, laws and outer modes, calibration,
status (chapter 07).
-/
namespace Sys2Proof.Machine

open Fld

/-! ### Units (R157, Table 4-6) -/

/-- Position units per unit of speed, acceleration and jerk. -/
def AxisCfg.vu (c : AxisCfg) : Rat := if c.rotary then 4096 else 1000
def AxisCfg.au (c : AxisCfg) : Rat := if c.rotary then 65536 else 1000
def AxisCfg.ju (c : AxisCfg) : Rat := if c.rotary then 16777216 else 1000000
/-- SI value (rad or m) of a position in axis units. -/
def AxisCfg.si (c : AxisCfg) (x : Rat) : Rat := if c.rotary then x * piR / 8388608 else x / 1000000000
/-- Speed in its unit from position units per second, cut towards zero. -/
def AxisCfg.speedOf (c : AxisCfg) (x : Rat) : Rat := truncR (x / c.vu)
/-- A rotary modulo axis: difference taken in (−half turn, half turn]. -/
def AxisCfg.diff (c : AxisCfg) (x : Rat) : Rat :=
  if c.modulo then let r := x - (x / 16777216).floor * 16777216; if 8388608 < r then r - 16777216 else r else x

/-- An axis whose actual position equals its setpoint: a virtual one, or a stepper without a feedback binding (R156, R285). -/
def AxisCfg.noFeedback (c : AxisCfg) : Bool := decide (c.kind = .virtual) || (decide (c.kind = .stepper) && decide (24 ≤ c.fbMotor))

def AState.code : AState → Nat
  | .disabled => 0 | .enabled => 1 | .faultHold => 2 | .faulted => 3

/-- An axis under control or with torque (R172). -/
def Axis.live (a : Axis) : Bool := decide (a.st = .enabled) || decide (a.st = .faultHold)

/-- Configuration of an axis, the defaults where the image has none. -/
def Dev.acfg (d : Dev) (n : Nat) : AxisCfg := (d.axCfg n).getD {}

/-! ### States and faults (R158, R175 to R177) -/

/-- AXIS_STATE with every change of state. -/
def axState (d : Dev) (n : Nat) (st : AState) : Dev :=
  let a := d.axis n
  if a.st = st then d else (d.setAxis n { a with st := st }).raise 0x2030 n n a.st.code st.code

/-- The brake of an axis (R178): a field output at its safe bit, or the BRK bit of the module record. -/
def axBrake (d : Dev) (n : Nat) (on : Bool) : Dev :=
  let c := d.acfg n
  let d := d.setAxis n { d.axis n with brakeOn := on }
  if c.brake < 32 then foSetBit d c.brake (foSafeBit d c.brake == on) else d

/-- Outputs of an axis go on or off: the enable of its record, RUN of its bridge group, the steps of its pair. -/
def axOutputs (d : Dev) (n : Nat) (on : Bool) : Dev :=
  let c := d.acfg n
  let d := d.setAxis n { d.axis n with outputsOn := on }
  match c.kind with
  | .local_ => pwmRun d c.bridge on
  | .stepper => if d.b (STP_CFG_OUT c.stepper) then d else pwmRun d (d.f (STP_CFG_BIND c.stepper)) on
  | _ => d

/-- Torque removed at once, the brake engaged with it. -/
def axTorqueOff (d : Dev) (n : Nat) : Dev :=
  let d := axBrake (axOutputs d n false) n true
  d.setAxis n { d.axis n with brakeWait := none, torqueWait := none }

/-- An axis ramp of a free axis begins at the present setpoint (R158, R176). -/
def axRamp (d : Dev) (n : Nat) (acc jerk : Rat) : Dev :=
  let c := d.acfg n
  let a := d.axis n
  let l := if 0 ≤ a.vSet then stopPieces a.vSet a.aSet (acc * c.au) (jerk * c.ju)
    else (stopPieces (-a.vSet) (-a.aSet) (acc * c.au) (jerk * c.ju)).map (fun p => { p with jerk := -p.jerk })
  d.setAxis n { a with rampPieces := l, rampTime := 0, rampFrom := { s := a.pSet, v := a.vSet, a := a.aSet }, ramping := true }

/-- Faults of one evaluation, as (code, value): each raises AXIS_FAULT, a torque-off fault decides the next state, the
lowest code is kept unless one stands (R175). A virtual axis never faults (R156). -/
def axFaults (d : Dev) (n : Nat) (l : List (Nat × Int)) : Dev :=
  let a := d.axis n
  let c := d.acfg n
  let l := if c.kind = .virtual then [] else match a.st with
    | .enabled => l
    | .faultHold => l.filter (fun e => decide (0x10 ≤ e.1))
    | _ => []
  match l with
  | [] => d
  | e :: r =>
    let torque := l.any (fun x => decide (0x10 ≤ x.1))
    let low := (r.map (·.1)).foldl min e.1
    let d := forEach l (fun x f => x.raise 0x2000 n n f.1 f.2) d
    let d := d.setAxis n { d.axis n with fault := if a.fault = 0 then low else a.fault, newFault := true }
    let d := axState d n (if torque then .faulted else .faultHold)
    let ss1 := l.any (fun x => (decide (x.1 = 1) && c.feReact) || (decide (x.1 = 2) && c.velReact))
    let d := if ss1 then { d with bad := { d.bad with ss1Req := d.bad.ss1Req ||| 2 ^ c.stoGroup } } else d
    if torque then axTorqueOff d n
    else if c.group.isNone then axRamp d n c.axQacc c.axQjerk else d

/-! ### Enabling and disabling (R158, R159) -/

/-- STO group released for an axis. -/
def axReleased (d : Dev) (c : AxisCfg) : Bool := d.bad.known.testBit c.stoGroup

/-- Feedback of the axis reports valid: its local channels, its module's record (Table 7-5, R473). -/
def axFeedbackOk (d : Dev) (n : Nat) : Bool :=
  let c := d.acfg n
  let src := fun (k : Nat) => if k < 24 then d.b (FB_STAT_VALID k) else if k = 0x40 then (d.axis n).sample.valid else true
  c.noFeedback || (src c.fbMotor && src c.fbLoad)

/-- A local channel in mode 4 of the axis has no valid frame: the axis has no sample (R172, R265). -/
def axFrameMissing (d : Dev) (c : AxisCfg) : Bool :=
  !c.noFeedback && [c.fbMotor, c.fbLoad].any (fun k => decide (k < 24) && decide (d.f (FB_CFG_MODE k) = 4) && !d.b (FB_STAT_SER_OK k))

/-- Channel `ch` has lost VALID: the axes bound to it fault with FEEDBACK (R262, R265, R473); `was`: the device before. -/
def feedbackLost (was d : Dev) (ch : Nat) : Dev :=
  if was.b (FB_STAT_VALID ch) && !d.b (FB_STAT_VALID ch) then
    forEach (d.axisList.filter (fun n => let c := d.acfg n
        !c.noFeedback && (decide (c.fbMotor = ch) || decide (c.fbLoad = ch))))
      (fun y n => axFaults y n [(0x11, truncR (y.axis n).sample.pos)]) d
  else d

/-- Feedback as it counts for an enable: Felade writes REVALID for the local channels bound to the axis when it takes the enable
(R473), so there only the newest serial frame counts. -/
def axFeedbackReady (d : Dev) (n : Nat) : Bool :=
  let c := d.acfg n
  let src := fun (k : Nat) => if k < 24 then decide (d.f (FB_CFG_MODE k) ≠ 4) || d.b (FB_STAT_SER_OK k)
    else if k = 0x40 then (d.axis n).sample.valid else true
  c.noFeedback || (src c.fbMotor && src c.fbLoad)

/-- R159. -/
def axReady (d : Dev) (n : Nat) : Bool :=
  let c := d.acfg n
  let a := d.axis n
  let p := d.posn (c.module / 16) (c.module % 16)
  axReleased d c && axFeedbackReady d n && (c.noFeedback || decide (a.age = 0)) && a.calLeft.isNone
    && (decide (c.kind ≠ .remote) || (p.joined && !p.repFault && !a.sample.fault))

/-- Position of an axis as it stands: the sample, or the setpoint of a virtual axis (R156). -/
def axActual (d : Dev) (n : Nat) : Rat :=
  let a := d.axis n
  let c := d.acfg n
  if c.noFeedback then a.pSet else a.homeOfs + (if c.fbLoad = 0xFF then a.sample.pos else a.sample.load)

/-- Energise at the present position (R159). -/
def axEnergise (d : Dev) (n : Nat) : Dev :=
  let c := d.acfg n
  let a := d.axis n
  let p := axActual d n
  let d := forEach ([c.fbMotor, c.fbLoad].filter (fun k => decide (k < 24) && decide (c.kind ≠ .virtual))) fbRevalid d
  let d := d.setAxis n { a with
    pSet := p, vSet := 0, aSet := 0, pNext := p, vNext := 0, aNext := 0, loop := {}, fault := 0,
    ramping := false, rampPieces := [], disablePend := false, feTimer := 0, feWarned := false, overI := 0, degraded := false,
    d0 := a.sample.load - a.sample.pos / c.gearRatio, torqueWait := none, brakeWait := some c.brakeFrames, first := true }
  let d := if c.kind = .stepper then stepperEnable d c.stepper p else d
  axOutputs (axState d n .enabled) n true

/-- To DISABLED by a disable: the brake engages, torque goes BRAKE_FRAMES later, the fault is acknowledged (R158, R178). -/
def axDeenergise (d : Dev) (n : Nat) : Dev :=
  let c := d.acfg n
  let d := axBrake d n true
  let a := d.axis n
  let d := d.setAxis n { a with
    fault := 0, disablePend := false, ramping := false, brakeWait := none,
    torqueWait := if a.outputsOn then some c.brakeFrames else none, vSet := 0, aSet := 0, vNext := 0, aNext := 0 }
  axState d n .disabled

/-- STO covering the axis's group: DISABLED from any state, integrators cleared. -/
def axSto (d : Dev) (n : Nat) : Dev :=
  let a := d.axis n
  if a.st = .disabled then d
  else
    let d := axTorqueOff d n
    axState (d.setAxis n { d.axis n with
      loop := {}, fault := 0, ramping := false, disablePend := false, vSet := 0, aSet := 0,
      vNext := 0, aNext := 0 }) n .disabled

/-- BRAKE_RELEASE: BRAKE_FRAMES after energising the brake of an enabled axis is released (R159). -/
def brakeRelease (d : Dev) (n : Nat) : Dev :=
  let a := d.axis n
  if a.brakeWait = some 0 ∧ a.live then let d := d.setAxis n { a with brakeWait := none }; axBrake d n false else d

/-- TORQUE_REMOVAL: BRAKE_FRAMES after a disable the outputs go off (R178). -/
def torqueRemoval (d : Dev) (n : Nat) : Dev :=
  let a := d.axis n
  if a.torqueWait = some 0 then axOutputs (d.setAxis n { a with torqueWait := none }) n false else d

/-- The two delays of a major boundary. -/
def axDelays (d : Dev) (n : Nat) : Dev :=
  let a := d.axis n
  let dec := fun (x : Option Nat) => x.map (fun k => k - 1)
  torqueRemoval (brakeRelease (d.setAxis n { a with brakeWait := dec a.brakeWait, torqueWait := dec a.torqueWait }) n) n

/-! ### Samples and their age (R172, R173) -/

/-- Position and speed that the loops use: extrapolated from the last sample at its age. -/
def axPos (d : Dev) (n : Nat) : Rat × Rat :=
  let a := d.axis n
  let c := d.acfg n
  let p := if c.fbLoad = 0xFF then a.sample.pos else a.sample.load
  if c.noFeedback then (a.pSet, a.vSet / c.vu)
  else (p + a.homeOfs + a.sample.speed * c.vu * d.sMinor * a.age, a.sample.speed)

/-- Position, speed and age of minor frame 0 (R160, R173). -/
def axZero (d : Dev) (n : Nat) : Dev :=
  if d.minor = 0 then
    let p := axPos d n
    let a := d.axis n
    d.setAxis n { a with pFb := p.1, vFb := p.2, age0 := a.age }
  else d

/-- Sample of an aged run recovered: SAMPLE_RECOVERED with the peak age (R173). -/
def axRecover (d : Dev) (n : Nat) : Dev :=
  let a := d.axis n
  if a.degraded then
    let d := d.setAxis n { a with degraded := false, degPeak := 0, degMinors := 0 }
    if a.live then d.raise 0x2003 n n a.degPeak a.degMinors else d
  else d

/-- The bus voltage is valid (R168). -/
def vbusOk (c : AxisCfg) (mv : Rat) : Bool :=
  decide (c.vbusSrc = 2) || (if c.vbusFix = 0 then decide (1000 ≤ mv) else decide (c.vbusFix / 10 ≤ mv))

/-- A valid sample of the present minor frame, with its instant and its offset from the boundary; positions come before
homing. Currents come before the offsets of
R183; faults the sample shows are raised (0x11, 0x14). -/
def axSample (d : Dev) (n : Nat) (s : Sample) (at_ ofs : Nat) : Dev :=
  let d := axRecover d n
  let a := d.axis n
  let c := d.acfg n
  let o := a.calOfs
  let s := { s with ia := s.ia - o.1, ib := s.ib - o.2.1, ic := s.ic - o.2.2 }
  let d := d.setAxis n { a with sample := s, sampleAt := at_, sampleOfs := ofs, age := 0, fresh := true }
  let d := axZero d n
  let servo := decide (c.kind = .remote) || decide (c.kind = .local_)
  axFaults d n ((if !axFeedbackOk d n || (servo && !vbusOk c s.vbus) then [(0x11, truncR s.pos)] else [])
    ++ (if s.fault then [(0x14, 0)] else []))

/-- No valid sample in the present minor frame (R172, Table 7-4). -/
def axMissing (d : Dev) (n : Nat) : Dev :=
  let a := d.axis n
  let c := d.acfg n
  if a.fresh || a.counted || c.noFeedback then d
  else
    let age := min 255 (a.age + 1)
    let d := d.setAxis n { a with age := age, counted := true, agePeakStatus := max a.agePeakStatus age, agePeakReg := max a.agePeakReg (min 7 age) }
    let d := axZero d n
    let a := d.axis n
    if !a.live then d
    else
      let place : Nat := if c.kind = .remote then c.module else 0xFFFF
      let a := { a with flagAcc := a.flagAcc ||| (if age < 2 then 2 else 6) }
      if age < 2 then d.setAxis n a
      else
        let a' := { a with degraded := true, degPeak := max a.degPeak age, degMinors := a.degMinors + 1 }
        let d := d.setAxis n a'
        let d := if a.degraded then d else d.raise 0x2002 n n age place
        if c.ageLimit < age then axFaults d n [(0x10, age)] else d

/-- At a minor boundary: every axis without a sample in the ended frame counts it, and the marks are cleared. -/
def axMinorEnd (d : Dev) (n : Nat) : Dev :=
  let d := axMissing d n
  d.setAxis n { d.axis n with fresh := false, counted := false }

/-- SAMPLE_AGE as a row of its own: an age above AGE_LIMIT faults the axis. -/
def sampleAge (d : Dev) (n : Nat) : Dev :=
  let a := d.axis n
  if (d.acfg n).ageLimit < a.age then axFaults d n [(0x10, a.age)] else d

/-! ### Supervision of a major frame (R169, R174, R175) -/

/-- Is the axis on a hard-stop method of a running homing (R127)? -/
def hardStop (d : Dev) (n : Nat) : Bool :=
  let c := d.acfg n
  match c.group with
  | none => false
  | some g =>
    let x := d.group g
    let k := match d.grpCfg g with | some gc => gc.axes.idxOf n | none => 0
    decide (x.st = .homing) && x.homeMask.testBit k && decide (c.homeStage = x.homeStage)
      && (decide (c.home = .stopCurrent) || decide (c.home = .stopFerr))

def feLimit (d : Dev) (n : Nat) : Rat := if hardStop d n then (d.acfg n).homeFelim else (d.acfg n).feLimit

/-- Faults of the following error, speed, limits and dual encoders that stand. -/
def axMajorFaults (d : Dev) (n : Nat) : List (Nat × Int) :=
  let a := d.axis n
  let c := d.acfg n
  let fe := feLimit d n
  (if decide (a.outer ≠ 3) && decide (0 < fe) && decide (c.feTime < a.feTimer) then [(1, truncR a.fe)] else [])
  ++ (if decide (0 < c.velTrip) && decide (c.velTrip < absR a.vFb) then [(2, truncR a.vFb)] else [])
  ++ (if a.homed && decide (c.posMin < c.posMax) && (decide (a.pFb < c.posMin - fe) || decide (c.posMax + fe < a.pFb)) then [(3, truncR a.pFb)] else [])
  ++ (if decide (c.fbLoad ≠ 0xFF) && decide (0 < c.dualDev)
        && decide (c.dualDev < absR (a.sample.load - a.sample.pos / c.gearRatio - a.d0)) then [(0x15, truncR (a.sample.load - a.sample.pos / c.gearRatio - a.d0))] else [])

/-- Following error, its warning and timer at the end of a major frame (R174). -/
def axFollow (d : Dev) (n : Nat) : Dev :=
  let a := d.axis n
  let c := d.acfg n
  let fe := if c.noFeedback then 0 else c.diff (a.pSet - a.pFb)
  let watched := decide (a.outer ≠ 3) && a.live
  let lim := feLimit d n
  let excess := decide (0 < lim) && decide (lim < absR fe)
  let timer := if 2 ≤ a.age0 then a.feTimer else if excess then min 65535 (a.feTimer + 1) else 0
  let warn := watched && decide (0 < c.feWarn) && decide (c.feWarn < absR fe)
  let d := d.setAxis n { a with fe := fe, feTimer := if watched then timer else 0, feWarned := warn,
                                flagAcc := a.flagAcc ||| (if warn then 1 else 0) }
  if warn && !a.feWarned then d.raise 0x2001 n n (truncR fe) (truncR c.feWarn) else d

/-- A channel that lost VALID since the last major boundary, a tripped bridge group (0x11, 0x13). -/
def axLocalFaults (d : Dev) (n : Nat) : List (Nat × Int) :=
  let c := d.acfg n
  if c.kind = .virtual then []
  else
    let ch := [c.fbMotor, c.fbLoad].filter (fun k => decide (k < 24) && !d.b (FB_STAT_VALID k))
    (match ch with | [] => [] | k :: _ => [(0x11, (k : Int))])
    ++ (if decide (c.kind = .local_) && d.b (PWM_GCTL_TRIPPED c.bridge) then [(0x13, (c.bridge : Int))] else [])

/-- FOLLOWING_ERROR as a row of its own. -/
def followingError (d : Dev) (n : Nat) : Dev := axFaults d n ((axMajorFaults d n).filter (fun e => decide (e.1 = 1)))

/-- Sample age as status shows it: 0 where the axis takes no samples (R156). -/
def AxisCfg.shownAge (c : AxisCfg) (k : Nat) : Nat := if c.noFeedback then 0 else k

/-- Registers of an axis, updated at the end of each major frame (R185). -/
def axRegs (d : Dev) (n : Nat) : Dev :=
  let a := d.axis n
  let d := ((((d.setF (AX_STATE_STATE n) a.st.code).setF (AX_STATE_CUR_LAW n) a.curLaw).setF (AX_STATE_OUTER n) a.outer).setF
    (AX_STATE_FAULT n) a.fault).setF (AX_STATE_LAW_IDX n) a.lawIdx
  let or := fun (x : Dev) (r : Nat) (m : Nat) => x.setReg r (x.reg r ||| BitVec.ofNat 32 m)
  let d := (or (or d (AX_FLAGS_AGED n).addr a.flagAcc) (AX_SAT_VCMD n).addr a.satAcc).setB (AX_FLAGS_CAL_VALID n) a.calValid
  let d := d.setS (AX_FERR_FE n) (clampI (-(2 ^ 31)) (2 ^ 31 - 1) (truncR a.fe))
  let c := d.acfg n
  let d := (d.setF (AX_AGE_AGE n) (min 7 (c.shownAge a.age))).peak (AX_AGE_PEAK n) (min 7 (c.shownAge a.agePeakReg))
  let d := d.setF (AX_MAJ_MAJ n) (d.esc.maj % 2 ^ 32)
  d.setAxis n { a with flagAcc := 0, satAcc := 0, agePeakReg := a.age }

/-- Flags of AXn_SAT are set in the frame of the event (R182). -/
def axSat (d : Dev) (n : Nat) (bits : Nat) : Dev := d.setAxis n { d.axis n with satAcc := (d.axis n).satAcc ||| bits }

/-- The ended major frame of an axis: following error, faults, registers. -/
def axEndFrame (d : Dev) (n : Nat) : Dev :=
  let d := axFollow d n
  let d := axFaults d n (axMajorFaults d n ++ axLocalFaults d n)
  axRegs d n

/-! ### Setpoints of free axes (R179) -/

/-- The setpoint of the next major frame of a free axis. -/
def axGenerate (d : Dev) (n : Nat) : Dev :=
  let a := d.axis n
  let t := a.rampTime + d.sMajor
  if a.ramping then
    let k := playPieces a.rampFrom a.rampPieces t
    let done := decide (piecesTime a.rampPieces ≤ t)
    let still := done && decide (absR k.v < 1)
    d.setAxis n { a with rampTime := t, pNext := k.s, vNext := if still then 0 else k.v, aNext := if done then 0 else k.a, ramping := !done || !still }
  else d.setAxis n { a with pNext := a.pNext + a.vNext * d.sMajor, aNext := 0 }

/-- The setpoints of the next major frame come into force. -/
def axShift (d : Dev) (n : Nat) : Dev :=
  let a := d.axis n
  let a := { a with pSet := a.pNext, vSet := a.vNext, aSet := a.aNext }
  d.setAxis n (if (d.acfg n).noFeedback then { a with pFb := a.pSet, vFb := (d.acfg n).speedOf a.vSet } else a)

/-- A free axis at standstill with a disable pending goes to DISABLED (R158). -/
def axStandstill (d : Dev) (n : Nat) : Dev :=
  let a := d.axis n
  if a.disablePend ∧ !a.ramping ∧ a.vSet = 0 then axDeenergise d n else d

/-! ### Laws and outer modes (R179 to R181) -/

/-- Does a custom law serve the axis at the stage asked for? -/
def lawFor (d : Dev) (n k : Nat) (current : Bool) : Bool :=
  match d.law k with
  | some l => (d.acfg n).laws.contains k && decide (l.current = current) && l.bindings.any (fun b => decide (b.axis = n))
  | none => false

/-- `axis.law` names a law or a mode the axis may select (R179). -/
def lawOk (d : Dev) (n cur outer idx : Nat) (set_ : Int) : Bool :=
  let c := d.acfg n
  decide (cur ≤ 2) && decide (outer ≤ 4) && (decide (cur ≠ 2) || lawFor d n idx true) && (decide (outer ≠ 4) || lawFor d n idx false)
    && (decide (cur ≠ 1) || c.predCap)
    && (c.group.isNone || decide (outer = 0) || decide (outer = 4))
    && (decide (c.kind ≠ .virtual) || (decide (cur = 0) && decide (outer ≤ 2)))
    && ((decide (outer ≠ 0) && decide (outer ≠ 4)) || decide (set_ = 0))

/-- CUR_LAW, OUTER and LAW_IDX at their places in AXn_STATE. -/
def lawPack (cur outer idx : Nat) : Nat := cur * 8 + outer * 32 + idx * 65536

/-- Steady state of a filter at `t`. -/
def steady (t : Rat) : BqState := { x1 := t, x2 := t, y1 := t, y2 := t }

/-- PI from another current law (Table 7-8). -/
def toPi (c : AxisCfg) (l : Loop) : Loop := { l with xd := l.ud - c.kpI * l.ed, xq := l.uq - c.kpI * l.eq }

/-- PREDICTIVE from PI (Table 7-8). -/
def toPredictive (a : Axis) (l : Loop) : Loop := { l with predU := (l.ud, l.uq), predI := a.lastDq }

/-- A cascade mode from CUSTOM or TORQUE (Table 7-8). -/
def toCascade (c : AxisCfg) (v : Rat) (l : Loop) : Loop :=
  { l with integ := if c.kv = 0 then 0 else (l.tCmd - l.tFf) / c.kv - l.ev, f1 := steady v, f2 := steady l.tCmd, n1 := steady l.tCmd,
           n2 := steady l.tCmd, satT := false }

/-- The current law changes (from the next major boundary, R180). -/
def axCurLaw (d : Dev) (n cur idx : Nat) : Dev :=
  let a := d.axis n
  let c := d.acfg n
  let l := if cur = a.curLaw then a.loop else match cur with
    | 0 => toPi c a.loop
    | 1 => toPredictive a a.loop
    | _ => a.loop
  d.setAxis n { a with curLaw := cur, lawIdx := if cur = 2 ∨ a.outer = 4 then idx else 0, loop := l, lawPend := none,
                       first := a.first || decide (cur = 2 ∧ a.curLaw ≠ 2) }

/-- The outer mode changes (R179, Table 7-8). -/
def axOuter (d : Dev) (n outer : Nat) (target : Int) : Dev :=
  let a := d.axis n
  let c := d.acfg n
  let cascade := fun (m : Nat) => decide (m < 3)
  let l := if cascade outer && !cascade a.outer then toCascade c a.vFb a.loop else a.loop
  let changed := decide (a.outer ≠ outer)
  let free := c.group.isNone
  let v0 := a.vFb * c.vu
  let k : Knot :=
    if !free then { s := a.pSet, v := a.vSet, a := a.aSet }
    else match changed, outer with
      | true, 0 => { s := a.pFb, v := v0 }
      | true, 2 => { s := a.pFb, v := v0 }
      | true, 1 => { s := if a.outer = 3 then a.pFb else a.pSet, v := v0 }
      | _, _ => { s := a.pSet, v := a.vSet, a := a.aSet }
  let acc := c.axAcc * c.au
  let jerk := c.axJerk * c.ju
  let ps := if !free then [] else match outer with
    | 0 => velPieces k.v k.a 0 acc jerk
    | 1 => velPieces k.v k.a (target * c.vu) acc jerk
    | 2 => movePieces k.v k.a (target - k.s) (c.axVmax * c.vu) acc jerk
    | _ => []
  let live := a.live && free && decide (outer ≤ 2)
  d.setAxis n { a with
    outer := outer, target := target, loop := l, first := a.first || (decide (outer = 4) && changed),
    pSet := if live then k.s else a.pSet, vSet := if live then k.v else a.vSet, pNext := if live then k.s else a.pNext,
    vNext := if live then k.v else a.vNext, rampFrom := if live then k else a.rampFrom, rampPieces := if live then ps else a.rampPieces,
    rampTime := if live then 0 else a.rampTime, ramping := live && !ps.isEmpty }

/-- `axis.law` takes effect (R180): the outer stage now, the current law from the next major boundary. -/
def axLaw (d : Dev) (n cur outer idx : Nat) (target : Int) : Dev :=
  let a := d.axis n
  let idx' := if cur = 2 ∨ outer = 4 then idx else 0
  let d := axOuter d n outer target
  let d := d.setAxis n { d.axis n with lawPend := some (cur, idx'), fallback := none }
  if lawPack a.curLaw a.outer a.lawIdx = lawPack cur outer idx' then d
  else d.raise 0x2010 n n (lawPack a.curLaw a.outer a.lawIdx) (lawPack cur outer idx')

/-- The pending current law runs from minor frame 0 (R180). -/
def axLawNow (d : Dev) (n : Nat) : Dev :=
  match (d.axis n).lawPend with
  | some (cur, idx) => axCurLaw d n cur idx
  | none => d

/-- LAW_FALLBACK (R181): the axis passes to PI and FOLLOW. -/
def lawFallback (d : Dev) (n : Nat) : Dev :=
  let a := d.axis n
  match a.fallback with
  | none => d
  | some (k, cause) =>
    let d := axCurLaw (axOuter d n 0 0) n 0 0
    let a := d.axis n
    (d.setAxis n { a with fallback := none, lawIdx := 0, flagAcc := a.flagAcc ||| 8 }).raise 0x2011 n n k cause

/-! ### Calibration (R183) -/

/-- Phase offsets in mA as the record carries them. -/
def calRecord (d : Dev) (n : Nat) (o : Rat × Rat × Rat) : Dev :=
  d.raise 0x2020 n (roundEven o.1) (roundEven o.2.1) (roundEven o.2.2)

/-- The measurement ends: offsets applied, AXIS_CAL_DONE (R183). -/
def calDone (d : Dev) (n : Nat) (o : Rat × Rat × Rat) : Dev :=
  let a := d.axis n
  if a.calLeft.isNone then d
  else calRecord (d.setAxis n { a with calLeft := none, calSum := (0, 0, 0), calNum := 0, calOfs := o, calValid := true }) n o

/-- A measurement interrupted keeps the previous offsets. -/
def calBroken (d : Dev) (n : Nat) : Dev :=
  let a := d.axis n
  if a.calLeft.isNone then d
  else (d.setAxis n { a with calLeft := none, calSum := (0, 0, 0), calNum := 0 }).raise 0x2020 n (-(2 ^ 31)) (-(2 ^ 31)) (-(2 ^ 31))

/-- Measurement of an axis starts. -/
def calStart (d : Dev) (n frames : Nat) : Dev :=
  d.setAxis n { d.axis n with calLeft := some (if frames = 0 then 64 else frames), calSum := (0, 0, 0), calNum := 0 }

/-- A sample of a local axis under measurement, before the offsets. -/
def calTake (d : Dev) (n : Nat) (ia ib ic : Rat) : Dev :=
  let a := d.axis n
  if a.calLeft.isNone then d
  else d.setAxis n { a with calSum := (a.calSum.1 + ia, a.calSum.2.1 + ib, a.calSum.2.2 + ic), calNum := a.calNum + 1 }

/-- Averages of a local measurement. -/
def calMean (a : Axis) : Rat × Rat × Rat :=
  let k : Rat := max 1 a.calNum
  (a.calSum.1 / k, a.calSum.2.1 / k, a.calSum.2.2 / k)

/-- A major boundary of a measurement: CAL_FRAMES run down; a local measurement ends with its averages. -/
def calMajor (d : Dev) (n : Nat) : Dev :=
  let a := d.axis n
  match a.calLeft with
  | none => d
  | some k =>
    if a.st ≠ .disabled then calBroken d n
    else if 1 < k then d.setAxis n { a with calLeft := some (k - 1) }
    else if (d.acfg n).kind = .remote then d.setAxis n { a with calLeft := some 0 }
    else if a.calNum = 0 then calBroken d n
    else calDone d n (calMean a)

/-- AXIS_CAL_DONE as a row of its own: the end of CAL_FRAMES. -/
def calEnd (d : Dev) (n : Nat) : Dev :=
  let a := d.axis n
  if a.calLeft = some 0 ∨ a.calLeft = some 1 then (if a.calNum = 0 then d else calDone d n (calMean a)) else d

/-! ### Commands (R184, Table 7-9) -/

/-- Why an enable or disable of a free axis is refused: RANGE, STATE, or 0. -/
def axFreeCheck (d : Dev) (n : Nat) : Nat :=
  match d.axCfg n with
  | none => 0x22
  | some c => if c.group.isSome then 0x21 else 0

def axEnableCheck (d : Dev) (n : Nat) : Nat :=
  let s := axFreeCheck d n
  if s ≠ 0 then s else if (d.axis n).st = .disabled ∧ axReady d n then 0 else 0x21

/-- Is a free axis in motion? -/
def axMoving (d : Dev) (n : Nat) : Bool := (d.axis n).ramping || decide ((d.axis n).vSet ≠ 0)

/-- `axis.disable` (R158). Answers whether it is ACCEPTED only. -/
def axDisable (d : Dev) (n : Nat) : Dev × Bool :=
  let a := d.axis n
  let c := d.acfg n
  match a.st with
  | .disabled => (d, false)
  | .enabled =>
    if axMoving d n then
      let d := axRamp d n c.axAcc c.axJerk
      (d.setAxis n { d.axis n with disablePend := true }, true)
    else (axDeenergise d n, false)
  | _ => (axDeenergise d n, false)

/-- Why `axis.law` is refused (R179, R180). -/
def axLawCheck (d : Dev) (n cur outer idx : Nat) (target : Int) : Nat :=
  match d.axCfg n with
  | none => 0x22
  | some _ =>
    let a := d.axis n
    if !lawOk d n cur outer idx target then 0x22
    else if a.newFault ∨ a.st = .faultHold ∨ a.st = .faulted then 0x21 else 0

/-- Why `axis.calibrate_offset` is refused (R183). -/
def axCalCheck (d : Dev) (n frames : Nat) : Nat :=
  match d.axCfg n with
  | none => 0x22
  | some _ => if 1000 < frames then 0x22 else if (d.axis n).st = .disabled ∧ !(d.axis n).outputsOn then 0 else 0x21

/-- `axis.status`: response, and AXn_SAT bits named cleared (Table 7-9). -/
def axStatus (d : Dev) (n clear : Nat) : List Byte × Dev :=
  let a := d.axis n
  let c := d.acfg n
  let sat := (d.reg (AX_SAT_VCMD n).addr) ||| BitVec.ofNat 32 a.satAcc
  let flags := (d.reg (AX_FLAGS_AGED n).addr) ||| BitVec.ofNat 32 (a.flagAcc + if a.calValid then 16 else 0)
  let iq := truncR (a.loop.iq * 1000)
  let bytes := le 1 a.st.code ++ le 1 a.curLaw ++ le 1 a.outer ++ le 1 a.fault ++ le 4 flags.toNat ++ le 4 sat.toNat
    ++ sle 4 (clampI (-(2 ^ 31)) (2 ^ 31 - 1) (truncR a.fe)) ++ le 1 (c.shownAge a.age) ++ le 1 (c.shownAge a.agePeakStatus) ++ sle 6 (truncR a.pFb)
    ++ sle 4 (clampI (-(2 ^ 31)) (2 ^ 31 - 1) (truncR a.vFb)) ++ sle 4 (clampI (-(2 ^ 31)) (2 ^ 31 - 1) iq)
  let keep := ~~~(BitVec.ofNat 32 clear)
  let d := d.setReg (AX_SAT_VCMD n).addr (d.reg (AX_SAT_VCMD n).addr &&& keep)
  (bytes, d.setAxis n { d.axis n with satAcc := (BitVec.ofNat 32 a.satAcc &&& keep).toNat, agePeakStatus := a.age })

end Sys2Proof.Machine
end

