-- ==== Sys2Proof/Machine/SampleOps.lean ====
section
/-!
DEFINITION. Minor-frame samples (R46, R52, R157, R256): what an axis takes from its module's record and its local channels,
and the entries of the commit log.
-/
namespace Sys2Proof.Machine

open Fld

/-- A minor-frame sample enters the commit log (R52, Table 2-9). -/
def logSample (d : Dev) (cls source : Nat) (body : List Byte) : Dev :=
  { d with rmt := { d.rmt with samples := d.rmt.samples ++ [{ cls := cls, minor := d.minor, source := source, order := d.rmt.samples.length, body := body }] } }

/-- Position units of `k` counts of FB_MOTOR, or of FB_LOAD (R157). -/
def AxisCfg.motorUnits (c : AxisCfg) (k : Rat) : Rat := k * c.cntNum / c.cntDen
def AxisCfg.loadUnits (c : AxisCfg) (k : Rat) : Rat := k * c.lcntNum / c.lcntDen

/-- Count and speed (counts per minor frame) of FB_MOTOR or FB_LOAD: a local channel, or what the module reports. -/
def fbOf (d : Dev) (k : Nat) (m : Int × Rat) : Rat × Rat :=
  if k < 24 then (((d.fb k).sample.count : Int), ((d.fb k).sample.speed : Rat) / 4096) else ((m.1 : Int), m.2)

/-- Feedback of an axis in axis units (R157, R169): motor position, load position, speed. With two encoders the speed is the
motor's, divided by GEAR_RATIO. -/
def axFeedback (d : Dev) (c : AxisCfg) (m : Int × Rat) : Rat × Rat × Rat :=
  let mo := fbOf d c.fbMotor m
  let lo := fbOf d c.fbLoad m
  let perSec := c.motorUnits mo.2 / (if d.sMinor = 0 then 1 else d.sMinor)
  let v := if c.fbLoad = 0xFF then perSec else perSec / c.gearRatio
  (c.motorUnits mo.1, if c.fbLoad = 0xFF then 0 else c.loadUnits lo.1, c.speedOf v)

/-- Bridge group whose local sample block carries an axis's samples, none for a remote or virtual one. -/
def axBlock (d : Dev) (c : AxisCfg) : Option Nat :=
  match c.kind with
  | .local_ => some c.bridge
  | .stepper => if c.fbMotor < 24 then (if d.b (STP_CFG_OUT c.stepper) then none else some (d.f (STP_CFG_BIND c.stepper))) else none
  | _ => none

/-- A local axis takes its sample of the block (R256): currents of its sigma-delta inputs, bus voltage, its channels. An input with
FAULT set is a feedback fault (R257). -/
def localAxis (d : Dev) (n at_ : Nat) : Dev :=
  let c := d.acfg n
  let f := axFeedback d c (0, 0)
  let cur := fun i => if i < 16 then sdReal d i else 0
  let ia := cur c.sdA
  let ib := cur c.sdB
  let ic := if c.phases = 2 then -(ia + ib) else cur c.sdC
  let sds := [c.sdA, c.sdB] ++ (if c.phases = 2 then [] else [c.sdC]) ++ (if c.vbusSrc = 1 then [c.vbusSd] else [])
  let bad := decide (c.kind = .local_) && sds.any (fun i => decide (i < 16) && d.b (SD_RESULT_FAULT i))
  let d := if c.kind = .local_ then calTake d n ia ib ic else d
  let d := if axFrameMissing d c then d else axSample d n { pos := f.1, load := f.2.1, speed := f.2.2, ia := ia, ib := ib, ic := ic, vbus := if c.vbusSrc = 1 then sdReal d c.vbusSd else 0 }
    at_ (at_ - d.esc.t0)
  if bad then axFaults d n [(0x11, 0)] else d

/-- Body of a local sample block in the commit log: results, then counts, of the configured channels. -/
def blockBody (d : Dev) (sds fbs : List Nat) : List Byte :=
  sds.flatMap (fun i => le 1 i ++ sle 2 (ufield 16 (d.f (SD_RESULT_RESULT i)))) ++ fbs.flatMap (fun k => le 1 k ++ sle 6 (d.fb k).sample.count)

/-- Inputs bound to a bridge group, and its feedback channels: those of the axes of the group. -/
def blockSds (d : Dev) (g : Nat) : List Nat := (List.range 16).filter (fun i => d.b (SD_CFG_EN i) && decide (d.f (SD_CFG_GROUP i) = g))
def blockFbs (d : Dev) (g : Nat) : List Nat :=
  (List.range 24).filter (fun k => decide (d.f (FB_CFG_MODE k) ≠ 0) &&
    d.axisList.any (fun n => decide (axBlock d (d.acfg n) = some g) && (decide ((d.acfg n).fbMotor = k) || decide ((d.acfg n).fbLoad = k))))

/-- LOCAL_SAMPLE_BLOCK_READY of group `g` sampled at `at_` (R256): raw sums of its inputs with whether their windows hold a
transition; its axes take their samples. -/
def localBlock (d : Dev) (g at_ : Nat) (sums : List (Nat × Bool)) : Dev :=
  let sds := blockSds d g
  let d := forEach (sds.zip sums) (fun y e => sdResult y e.1 e.2.1 e.2.2) d
  let d := logSample d 4 g (blockBody d sds (blockFbs d g))
  forEach (d.axisList.filter (fun n => decide (axBlock d (d.acfg n) = some g))) (fun y n => localAxis y n at_) d

end Sys2Proof.Machine
end

