-- ==== Sys2Proof/Machine/DriveLink.lean ====
section
/-!
DEFINITION. The device's side of the Lerwell drive link (R208 to R238): markers, ring, command frames, uplink acceptance,
announcements, discards.
-/
namespace Sys2Proof.Machine

open Fld

/-! ### Ports and positions -/

/-- Ports in use (DLn_CFG.EN). -/
def dlPorts (d : Dev) : List Nat := (List.range 4).filter (fun p => d.b (DL_CFG_EN p))

/-- Record source and module number of Table 9-14. -/
def modNo (p k : Nat) : Nat := p * 16 + k

/-- Axis contexts bound to a position: module axis and context. -/
def boundAxes (d : Dev) (p k : Nat) : List (Nat × Nat) :=
  let m := d.modCfg p k
  (match m.axis0 with | some x => [(0, x)] | none => []) ++ (match m.axis1 with | some x => [(1, x)] | none => [])

/-- Position to which a slot is assigned (R228). -/
def slotPos (d : Dev) (p slot : Nat) : Option Nat :=
  (List.range (d.f (DL_CFG_NMOD p))).find? (fun k => (d.modCfg p k).present && decide ((d.modCfg p k).slot = slot))

def dlState (d : Dev) (p k s : Nat) : Dev := d.setF (DL_POS_STATE_STATE p k) s

/-- Position `k` becomes joined or not. -/
def dlJoined (d : Dev) (p k : Nat) (on : Bool) : Dev :=
  let m := d.f (DL_STATUS_JOINED p)
  let d := d.setF (DL_STATUS_JOINED p) (if m.testBit k == on then m else if on then m + 2 ^ k else m - 2 ^ k)
  d.setPosn p k { d.posn p k with joined := on }

/-! ### Markers and the ring (R215 to R217, R236, R237) -/

/-- The 14 data characters of a marker copy (Table 9-3), `v` for direction V. -/
def markerBytes (d : Dev) (p : Nat) (v : Bool) : List Byte :=
  let b := le 1 1 ++ le 6 d.minorNo ++ le 1 0 ++ le 1 (d.f (DL_CFG_NMOD p)) ++ le 2 (d.f (DL_RING_R p))
    ++ le 1 ((d.b (DL_STATUS_R_VALID p)).toNat + 2 * v.toNat)
  b ++ le 2 (crc16 0xFFFF b)

/-- RING_BREAK (R237): a lane without a valid returned copy in two consecutive cycles. -/
def ringBreak (d : Dev) (p : Nat) : Dev :=
  let x := d.port p
  if x.broken ∨ (x.miss0 < 2 ∧ x.miss1 < 2) then d
  else
    let d := d.setPort p { x with broken := true, both := 0, brokenFor := 0 }
    ((d.setB (DL_STATUS_R_VALID p) false).setB (DL_FLAGS_RING_BREAK p) true).raise 0x4020 p p (d.f (DL_RING_R p)) 0

/-- RING_RESTORED (R237): copies valid on both lanes for 64 consecutive cycles. -/
def ringRestored (d : Dev) (p : Nat) : Dev :=
  let x := d.port p
  if x.broken ∧ 64 ≤ x.both then
    let d := d.setPort p { x with broken := false }
    (d.setB (DL_STATUS_R_VALID p) true).raise 0x4021 p p (d.f (DL_RING_R p)) x.brokenFor
  else d

/-- A marker copy returns on a lane: whether it and the command frame of the cycle before returned valid, its HOP, and for lane 1 the
ring delay in CLK_TIME cycles (R215). -/
def markerReturn (d : Dev) (p lane : Nat) (ok cmdOk : Bool) (hop r : Nat) : Dev :=
  if !d.b (DL_STATUS_MARKERS p) then d
  else
    let x := d.port p
    let d := d.setPort p (if lane = 0 then { x with ret0 := some (ok, cmdOk) } else { x with ret1 := some (ok, cmdOk) })
    if !ok then d
    else
      let d := d.setF (DL_STATUS_HOP_RET p) hop
      if lane = 0 ∨ x.broken then d
      else
        let d := (d.setF (DL_RING_R p) r).peak (DL_RING_R_PEAK p) r
        let max_ := d.f (DL_CFG_RING_MAX p)
        let slow := decide (max_ < r)
        let d := (d.setPort p { d.port p with slow := slow }).setB (DL_STATUS_SLOW p) slow
        if slow && !x.slow then (d.setB (DL_FLAGS_RING_SLOW p) true).raise 0x4022 p p r max_ else d

/-- The ring at the end of a cycle: counts, break, restoration, R_VALID for the next marker (R217, R237, R238). -/
def ringEnd (d : Dev) (p : Nat) : Dev :=
  let x := d.port p
  if !x.sent then d
  else
    let v0 := match x.ret0 with | some r => r.1 | none => false
    let v1 := match x.ret1 with | some r => r.1 | none => false
    let c0 := match x.ret0 with | some r => r.2 | none => false
    let c1 := match x.ret1 with | some r => r.2 | none => false
    let lost := (!v0).toNat + (!v1).toNat + (if x.cmdDue then (!c0).toNat + (!c1).toNat else 0)
    let d := d.count (DL_CRC_CNT_RETURN p) lost
    let d := d.setPort p { x with ret0 := none, ret1 := none, cmdDue := false, miss0 := if v0 then 0 else x.miss0 + 1, miss1 := if v1 then 0 else x.miss1 + 1,
                                  both := if v0 && v1 then x.both + 1 else 0, brokenFor := if x.broken then x.brokenFor + 1 else 0 }
    let d := if !x.broken && !d.b (DL_STATUS_R_VALID p) && v0 && v1 then d.setB (DL_STATUS_R_VALID p) true else d
    ringRestored (ringBreak d p) p

/-- Positions at the end of a cycle: a missing uplink is logged without a body, the marks of the cycle go (R52, R229). -/
def posEnd (d : Dev) (p k : Nat) : Dev :=
  let x := d.posn p k
  let d := if (d.modCfg p k).present ∧ x.used.isNone then logSample d 3 (p * 16 + (d.modCfg p k).slot) [] else d
  d.setPosn p k { x with used := none, arrived := false, edge := false, before := x.counts }

/-- The end of the link cycle of every port. -/
def dlCycleEnd (d : Dev) : Dev :=
  forEach (dlPorts d) (fun y p => if (y.port p).sent then forEach (List.range (y.f (DL_CFG_NMOD p))) (fun z k => posEnd z p k) (ringEnd y p) else y) d

/-- The markers of a new cycle, both copies (R210, R236). `on`: a time base runs, no replay, no SAFE-TALK. -/
def dlMarkers (d : Dev) (on : Bool) : Dev :=
  if !on then d
  else forEach (dlPorts d) (fun y p =>
    let y := y.setB (DL_STATUS_MARKERS p) true
    let y := y.setPort p { y.port p with sent := true, cmdDue := (y.port p).cmdSent, cmdSent := false }
    (y.emit (.dlFrame p (markerBytes y p false))).emit (.dlFrame p (markerBytes y p true))) d

/-- The link at the start of a time base: the ring is not held broken, R is not measured, nothing has joined (R217, R236, R237). -/
def dlStart (d : Dev) : Dev :=
  forEach (List.range 4) (fun y p =>
    let y := forEach (List.range 12) (fun z k => dlState z p k 0) (y.setPort p {})
    (((y.setB (DL_STATUS_R_VALID p) false).setF (DL_RING_R p) 0).setF (DL_STATUS_JOINED p) 0).setB (DL_STATUS_SLOW p) false) d

/-- The markers stop (R236). -/
def dlStop (d : Dev) : Dev := forEach (List.range 4) (fun y p => y.setB (DL_STATUS_MARKERS p) false) (dlStart d)

/-! ### The command frame (R221 to R223, R234) -/

/-- A record of 40 bytes: its first 38, then the CRC of R221. -/
def cmdRecord (d : Dev) (k : Nat) (body : List Byte) : List Byte :=
  let b := padTo 38 body
  b ++ le 2 (crc16 (0xFFFF ^^^ ((k * 256 + d.minorNo % 256) % 65536)) b)

/-- Rise and fall of a duty (R167), in CLK_TIME cycles. -/
def edgesOf (per : Nat) (duty : Rat) : List Byte :=
  let rise := (roundEven ((per : Rat) * (1 - clampR 0 1 duty) / 2)).toNat
  le 2 rise ++ le 2 (per - rise)

/-- Edges or duties of one axis of a record, zeros while its enable is clear. -/
def axisBytes (d : Dev) (gen : Nat) (x : Option Nat) : List Byte :=
  let duty := match x with | some n => if (d.axis n).outputsOn then (d.axis n).loop.duty else [] | none => []
  if gen = 1 then padTo 6 ((duty.take 3).flatMap (fun y => le 2 (min 65535 (clampR 0 1 y * 65536).floor.toNat)))
  else padTo 12 ((duty.take 3).flatMap (edgesOf d.tMinor))

/-- CTRL of a position (R223, R229); in a full self-test EN is cleared and BRK set on both axes (R442). -/
def ctrlOf (d : Dev) (p k : Nat) (en : Bool) : Nat :=
  let m := d.modCfg p k
  let one := fun (x : Option Nat) (i : Nat) => match x with
    | none => 4 * 2 ^ i
    | some n => (if en && (d.axis n).outputsOn then 2 ^ i else 0) + (if (d.acfg n).brake = 0x40 ∧ (d.axis n).brakeOn then 4 * 2 ^ i else 0)
  let axes := boundAxes d p k
  let cal := axes.any (fun e => match (d.axis e.2).calLeft with | some j => decide (0 < j) | none => false)
  let ack := (d.posn p k).repFault && axes.all (fun e => decide ((d.axis e.2).st = .disabled))
  if d.pwr.selftest.isSome then 12
  else one m.axis0 0 + one m.axis1 1 + (if cal then 16 else 0) + (if ack then 32 else 0)

/-- A CMD record of the generation in use (Tables 9-5, 9-6). -/
def cmdBody (d : Dev) (p k ctrl : Nat) (edges : Bool) : List Byte :=
  let gen := d.f (DL_POS_STATE_GEN p k)
  let m := d.modCfg p k
  le 1 ((if gen = 1 then 0x20 else 0x10) + k) ++ le 1 ctrl ++ (if edges then axisBytes d gen m.axis0 ++ axisBytes d gen m.axis1 else [])

/-- May the device address positions that have not joined (R234)? -/
def addressing (d : Dev) (p : Nat) : Bool := d.b (DL_STATUS_R_VALID p) && decide (d.f (DL_RING_R p) ≤ d.f (DL_CFG_RING_MAX p))

/-- MODULE_UNSYNC (R229): three consecutive cycles of discards. -/
def dlUnsync (d : Dev) (p k : Nat) : Dev :=
  let x := d.posn p k
  if d.f (DL_POS_EDGE_RUN p k) < 3 ∨ d.f (DL_POS_STATE_STATE p k) = 4 then d
  else
    let d := (dlState (dlJoined d p k false) p k 4).setB (DL_FLAGS_UNSYNC p) true
    let d := d.setPosn p k { d.posn p k with offer := .wait, told := none, rejoining := true, counts := none, before := none }
    let d := d.raise 0x4002 (modNo p k) (modNo p k) 3 x.lastOfs
    forEach (boundAxes d p k) (fun y e => axFaults y e.2 [(0x16, modNo p k)]) d

/-- The record of a position in this cycle's command frame, and the device after it. -/
def recordOf (d : Dev) (p k : Nat) : List Byte × Dev :=
  let d := dlUnsync d p k
  let x := d.posn p k
  let m := d.modCfg p k
  let send := fun (b : List Byte) => cmdRecord d k b
  if x.joined then (send (cmdBody d p k (ctrlOf d p k true) true), d)
  else if x.rejoining then
    (send (cmdBody d p k (0x4C) false), d.setPosn p k { x with rejoining := x.arrived })
  else if !m.present || !addressing d p then (send (le 1 k), d)
  else match x.offer with
    | .config =>
      (send (le 1 (0x30 + k) ++ le 1 0 ++ le 1 m.slot ++ le 1 (d.f (DL_POS_STATE_GEN p k)) ++ le 2 (d.f (DL_TIMING_UP_OFS p))
         ++ le 2 (d.f (DL_SAMPLE_SAMPLE_OFS p)) ++ le 1 (d.f (DL_SAMPLE_AGE_MAX p))), d.setPosn p k { x with offer := .cmd })
    | .cmd => (send (cmdBody d p k (ctrlOf d p k false) false), d)
    | .refuse c => (send (le 1 (0x40 + k) ++ le 1 0 ++ le 1 c), d)
    | .wait => (send (le 1 (0x40 + k) ++ le 1 0 ++ le 1 0), d)

/-- Records of positions `k` up, `n` of them. -/
def recordsFrom (p : Nat) : Nat → Nat → Dev → List Byte × Dev
  | 0, _, d => ([], d)
  | n + 1, k, d =>
    let r := recordOf d p k
    let rest := recordsFrom p n (k + 1) r.2
    (r.1 ++ rest.1, rest.2)

/-- The command frame of a port at CMD_OFS, both copies (Table 9-4). -/
def commandFrame (d : Dev) (p : Nat) : Dev :=
  if !d.b (DL_STATUS_MARKERS p) then d
  else
    let n := d.f (DL_CFG_NMOD p)
    let r := recordsFrom p n 0 d
    let b := le 1 2 ++ le 4 d.minorNo ++ le 1 n ++ le 1 0 ++ r.1
    let f := b ++ le 4 (crc32c b)
    let d := r.2.setPort p { r.2.port p with cmdSent := true }
    (d.emit (.dlFrame p f)).emit (.dlFrame p f)

/-! ### Announcements (R234, R235) -/

/-- Contents of a CAP record (Table 9-11). -/
def parseCap (l : List Byte) : Cap :=
  { vendor := leAt l 2 2, product := leAt l 4 2, serial := leAt l 6 4, gens := leAt l 10 1, axes := leAt l 11 1, phases := leAt l 12 1,
    fwd := leAt l 13 1, tPrep := leAt l 14 2, curLsb := leAt l 16 2, speedShift := leAt l 18 1 }

/-- Generations common to the module and GEN_REQ (R235): bit 0 generation 1, bit 1 generation 2. -/
def commonGens (req gens : Nat) : Nat := (if req = 1 then gens &&& 1 else if req = 2 then gens &&& 2 else gens &&& 3)

/-- The lowest cause of Table 9-10 that applies to an announcement, 0 for none. -/
def capCause (d : Dev) (p k : Nat) (c : Cap) : Nat :=
  let m := d.modCfg p k
  let phases := (boundAxes d p k).map (fun e => (d.acfg e.2).phases)
  if (m.vendor ≠ 0 ∧ m.vendor ≠ c.vendor) ∨ (m.product ≠ 0 ∧ m.product ≠ c.product) then 1
  else if commonGens m.genReq c.gens = 0 then 2
  else if d.f (DL_CFG_T_PREP_MAX p) * 4 < c.tPrep ∨ 48 < c.fwd then 3
  else if (m.axis1.isSome && decide (c.axes < 2)) || decide (c.axes < 1) || phases.any (fun n => decide (c.phases < n)) then 4
  else if d.f (DL_STATUS_HOP_RET p) ≠ d.f (DL_CFG_NMOD p) then 5
  else 0

/-- A CAP record of a position that has not joined is checked against the image and answered (R234). -/
def dlAnnounce (d : Dev) (p k : Nat) (l : List Byte) : Dev :=
  let x := d.posn p k
  if x.joined ∨ x.rejoining then d
  else
    let c := parseCap l
    let id : Nat := c.vendor * 65536 + c.product
    let d := (d.setF (DL_POS_ID_VENDOR p k) c.vendor).setF (DL_POS_ID_PRODUCT p k) c.product
    let d := d.setPosn p k { x with cap := c, counts := none, before := none, repFault := false }
    if !addressing d p then d
    else
      let cause := capCause d p k c
      if cause = 0 then
        let gen := if (commonGens (d.modCfg p k).genReq c.gens).testBit 1 then 2 else 1
        let d := ((dlState d p k 1).setF (DL_POS_STATE_GEN p k) gen).setF (DL_POS_STATE_CAUSE p k) 0
        d.setPosn p k { d.posn p k with offer := .config, told := none }
      else
        let d := (dlState d p k 2).setF (DL_POS_STATE_CAUSE p k) cause
        let d := d.setPosn p k { d.posn p k with offer := .refuse cause, told := some cause }
        if x.told = some cause then d else d.raise 0x4001 (modNo p k) (modNo p k) cause id

/-! ### Uplinks (R227 to R232) -/

/-- The module joins: the first record after CONFIG that is no CAP (R234). Its axes lose their homing (R128). -/
def dlJoin (d : Dev) (p k : Nat) : Dev :=
  let x := d.posn p k
  if x.joined ∨ x.offer ≠ .cmd then d
  else
    let d := dlState (dlJoined d p k true) p k 3
    let d := forEach (boundAxes d p k) (fun y e => if (y.acfg e.2).home = .absSet then y else y.setAxis e.2 { y.axis e.2 with homed := false }) d
    d.raise 0x4000 (modNo p k) (modNo p k) (d.f (DL_POS_STATE_GEN p k)) (x.cap.vendor * 65536 + x.cap.product : Nat)

/-- FLAGS of an uplink of a joined module (Table 9-8): age, SLIP, FAULT, SAFE. -/
def uplinkFlags (d : Dev) (p k fl : Nat) : Dev :=
  let m := modNo p k
  let wasSafe := d.b (DL_POS_STATE_SAFE p k)
  let age := fl % 8
  let d := (d.setF (DL_POS_STATE_AGE p k) age).setB (DL_POS_STATE_FAULT p k) (fl.testBit 4)
  let d := d.setB (DL_POS_STATE_SAFE p k) (fl.testBit 5)
  let bad := fl.testBit 4 || fl.testBit 5
  let d := d.setPosn p k { d.posn p k with repFault := bad }
  let d := if age = 0 then d else d.raise 0x4012 m m age 0
  let d := if fl.testBit 3 then (d.setB (DL_FLAGS_SLIP p) true).raise 0x4010 m m d.minor 0 else d
  let d := if fl.testBit 5 && !wasSafe then d.raise 0x4013 m m 0 0 else d
  if bad then forEach (boundAxes d p k) (fun y e => axFaults y e.2 [(0x14, m)]) d else d

/-- R229: 48-bit positions from the U32 counts. -/
def extendCounts (prev : Option Counts) (c0 c1 : Nat) : Counts :=
  let n0 := BitVec.ofNat 32 c0
  let n1 := BitVec.ofNat 32 c1
  match prev with
  | none => { cnt0 := n0, cnt1 := n1, pos0 := c0, pos1 := c1 }
  | some q => { cnt0 := n0, cnt1 := n1, pos0 := ufield 48 (sfield 48 (q.pos0 + (n0 - q.cnt0).toInt)), pos1 := ufield 48 (sfield 48 (q.pos1 + (n1 - q.cnt1).toInt)) }

/-- A SAMPLE record of a joined module: its axes take their samples (R157, R228, R229). -/
def takeSample (d : Dev) (p k : Nat) (l : List Byte) : Dev :=
  let x := d.posn p k
  let q := extendCounts x.before (leAt l 10 4) (leAt l 22 4)
  let d := d.setPosn p k { x with counts := some q }
  let lsb : Rat := (x.cap.curLsb : Rat) / 1000
  let fl := leAt l 1 1
  let ofs := d.f (DL_SAMPLE_SAMPLE_OFS p)
  forEach (boundAxes d p k) (fun y e =>
    let o := 4 + 12 * e.1
    let cfg := y.acfg e.2
    let cur := fun i => (sleAt l (o + 2 * i) 2 : Rat) * lsb
    let spd := (sleAt l (o + 10) 2 : Rat) * (2 ^ x.cap.speedShift : Nat) / 16
    let f := axFeedback y cfg (if e.1 = 0 then q.pos0 else q.pos1, spd)
    let ic := if cfg.phases = 2 then -(cur 0 + cur 1) else cur 2
    let smp : Sample :=
      { pos := f.1, load := f.2.1, speed := f.2.2, ia := cur 0, ib := cur 1, ic := ic, vbus := (leAt l 2 2 : Rat) * 25, cmdAge := fl % 8,
        fault := fl.testBit 4 || fl.testBit 5 }
    if axFrameMissing y cfg then y else axSample y e.2 smp (y.esc.t0 + ofs) ofs) d

/-- A CAL record: the averages are the offsets of the axes under measurement (R230). -/
def takeCal (d : Dev) (p k : Nat) (l : List Byte) : Dev :=
  let lsb : Rat := ((d.posn p k).cap.curLsb : Rat) / 1000
  forEach (boundAxes d p k) (fun y e =>
    let o := 4 + 12 * e.1
    let cur := fun i => (sleAt l (o + 2 * i) 2 : Rat) * lsb
    if (y.axis e.2).calLeft = some 0 then calDone y e.2 (cur 0, cur 1, cur 2) else y) d

/-- Contents of the accepted copy in use, as a record of type `ty` (R227). -/
def takeBody (d : Dev) (p k : Nat) (l : List Byte) (ty : Nat) : Dev :=
  if ty = 2 then dlAnnounce d p k l
  else
    let d := dlJoin d p k
    if !(d.posn p k).joined then d
    else
      let d := uplinkFlags d p k (leAt l 1 1)
      if ty = 1 then takeSample d p k l
      else if ty = 3 then takeCal d p k l
      else if ty = 4 then d.raise 0x4014 (modNo p k) (modNo p k) (leAt l 2 2) (sleAt l 4 2)
      else d

/-- The safe fields of a copy go to both Badgers (R232): they enter the black channel with the next batch (R22). -/
def dlBlack (d : Dev) (p slot : Nat) (l : List Byte) : Dev :=
  let f := fun ax o => Black.field (d.esc.maj + 1) p slot ax ((l.drop o).take 9)
  { d with bad := { d.bad with fields := d.bad.fields ++ [f 0 28, f 1 37] } }

/-- An accepted copy: the first of the cycle is used, the copy of lane 1 in the same cycle; a second that differs sets COPY_DIFF. -/
def dlAccept (d : Dev) (p k lane : Nat) (ofs : Int) (l : List Byte) (ty : Nat) : Dev :=
  let x := d.posn p k
  let use := fun (d : Dev) =>
    let d := (d.setS (DL_POS_ARR_OFFSET p k) ofs).setF (DL_POS_ARR_LANE p k) lane
    takeBody (d.setPosn p k { d.posn p k with used := some (ofs, lane, l) }) p k l ty
  match x.used with
  | none => logSample (use (d.setF (DL_POS_EDGE_RUN p k) 0)) 3 (p * 16 + (d.modCfg p k).slot) l
  | some u =>
    let d := if u.2.2 = l then d else d.setB (DL_FLAGS_COPY_DIFF p) true
    if u.1 = ofs ∧ lane = 1 then (if u.2.2 = l then d.setF (DL_POS_ARR_LANE p k) 1 else use d) else d

/-- An uplink copy arrives on a lane of a port in a slot, `ps` picoseconds after the slot start (R228); `code`: only the code groups
of R211. Its row names the type `ty`; a copy of another type is only checked and counted. -/
def uplinkCopy (d : Dev) (p slot lane : Nat) (ps : Int) (code : Bool) (l : List Byte) (ty : Nat) : Dev :=
  match slotPos d p slot with
  | none => d
  | some k =>
    if !d.b (DL_STATUS_MARKERS p) ∨ l.length ≠ 48 then d
    else
      let d := dlBlack d p slot l
      let d := d.setPosn p k { d.posn p k with arrived := true }
      let ofs := roundAway ((ps : Rat) / 1250)
      if !code ∨ leAt l 46 2 ≠ crc16 (0xFFFF ^^^ ((0x80 + k) * 256 + d.minorNo % 256)) (l.take 46) then d.count (DL_CRC_CNT_UPLINK p)
      else if ps < -24000 ∨ 24000 < ps then
        let x := d.posn p k
        let d := (d.count (DL_POS_EDGE_COUNT p k)).setB (DL_FLAGS_SLOT_EDGE p) true
        let run := if x.used.isSome || x.edge then d.f (DL_POS_EDGE_RUN p k) else min 3 (d.f (DL_POS_EDGE_RUN p k) + 1)
        let d := (d.setF (DL_POS_EDGE_RUN p k) run).setPosn p k { x with edge := true, lastOfs := ofs }
        d.raise 0x4011 (modNo p k) (modNo p k) ofs lane
      else if leAt l 0 1 ≠ ty * 16 + k then d
      else dlAccept d p k lane ofs l ty

end Sys2Proof.Machine
end

