-- ==== Sys2Proof/Machine/ModuleOps.lean ====
section
/-!
DEFINITION. Lerwell power modules (R217 to R233, Table 9-9): position, timing, command records, SAFE, calibration, uplinks. A
module is known by the number port × 16 + place of its power connector; its position comes from the markers.
-/
namespace Sys2Proof.Machine

open Fld

/-- Gates off, brakes engaged, back to LISTEN (Table 9-9). -/
def Module.toListen (m : Module) : Module :=
  { m with st := .listen, en := 0, brk := 3, cal := false, phases := [], duties := [], nextRec := none, rec_ := [], age := 0, missed := 0,
           seenMarker := false, seenCmd := false, full := false, slip := false, withheld := false, capFault := false }

/-- MODULE_POWER_ON. -/
def modPowerOn (d : Dev) (n : Nat) (c : Cap) (id0 id1 : Nat) : Dev :=
  d.setModl n { st := .listen, cap := c, safeId0 := id0, safeId1 := id1 }

/-- Is a marker copy valid for the module (R218)? Both copies of one marker carry one MINOR. -/
def markerOk (m : Module) (ok : Bool) (minor : Nat) : Bool :=
  ok && (match m.st with
    | .off => false
    | .joined | .safe => (match m.minor with | none => true | some k => decide (minor = k + 1) || decide (m.cycleMinor = some minor))
    | _ => true)

/-- The instant b_k predicted for this cycle (R219). -/
def Module.predicted (m : Module) : Rat := m.b1 + (m.b1 - m.b2)

/-- The measured boundary of the first valid copy: it corrects the prediction, or starts it again when it is off by more than 32 ns. -/
def Module.measured (m : Module) (b : Rat) : Module :=
  if m.bCount < 2 then { m with b2 := m.b1, b1 := b, bCount := m.bCount + 1 }
  else if 32000 < absR (b - m.predicted) then { m with withheld := true, slip := true, b1 := b, bCount := 1 }
  else { m with b2 := m.b1, b1 := b }

/-- A marker copy reaches the module at `at_` ps (R218, R219, R233): direction V or not, CRC and code groups right, and its fields. -/
def modMarker (d : Dev) (n : Nat) (v ok : Bool) (minor hop nmod ring : Nat) (rvalid : Bool) (at_ : Nat) : Dev :=
  let m := d.modl n
  if !markerOk m ok minor then d
  else
    let first := decide (m.cycleMinor ≠ some minor)
    let m := if first then
        { m with minor := some minor, cycleMinor := some minor, tF := none, tV := none, withheld := false, missed := 0,
                 position := if v then nmod - 1 - hop else hop, ring := (ring : Rat) * 1250, full := m.seenMarker && m.seenCmd,
                 seenMarker := false, seenCmd := false }
      else m
    let m := if v then { m with tV := some at_ } else { m with tF := some at_ }
    let fwd : Rat := (m.cap.fwd : Rat) * 1000
    let both := m.tF.isSome && m.tV.isSome
    let m := match m.tF, m.tV with
      | some f, some w => if rvalid then { m with delay := some ((m.ring - fwd + ((f - w : Int) : Rat)) / 2), seenMarker := true } else m
      | _, _ => m
    let m := match m.delay with
      | some dl => if first then m.measured (if v then (at_ : Rat) - (m.ring - fwd - dl) else (at_ : Rat) - dl) else m
      | none => m
    let m := if m.st = .listen ∧ m.full ∧ (both ∨ m.delay.isSome) then { m with st := .announce, full := false } else m
    d.setModl n m

/-- Period length in ps as the module knows it. -/
def Module.period (m : Module) : Rat := m.b1 - m.b2

/-- The module takes its record from a copy of the command frame that ends at `at_` ps (R222): MINOR of the frame, the 40 bytes of its
position, whether FCRC passed. -/
def modRecord (d : Dev) (n minor : Nat) (l : List Byte) (frameOk : Bool) (at_ : Nat) : Dev :=
  let m := d.modl n
  if m.st = .off then d
  else
    let m := if frameOk && m.seenMarker then { m with seenCmd := true } else m
    let ok := decide (l.length = 40) && decide (leAt l 38 2 = crc16 (0xFFFF ^^^ ((m.position * 256 + minor % 256) % 65536)) (l.take 38))
      && decide (m.cycleMinor.map (fun k => k % 2 ^ 32) = some minor)
    let inTime := decide (m.bCount < 2) || decide ((at_ : Rat) ≤ m.predicted - 500000)
    d.setModl n (if ok && inTime && m.nextRec.isNone && decide (m.st ≠ .listen) then { m with nextRec := some l } else m)

/-- On-interval of a phase on a generation 2 module (R224). -/
def phaseOn (per rise fall : Nat) : Option (Nat × Nat) :=
  let r := min per rise
  let f := min per fall
  if r < f then some (r, f) else none

/-- A CMD record in force (R223, R224). -/
def Module.apply (m : Module) (l : List Byte) : Module :=
  let ctrl := leAt l 1 1
  if ctrl.testBit 6 then m.toListen
  else
    let ty := leAt l 0 1 / 16
    let fault := if ctrl.testBit 5 && !m.faultCause then none else m.fault
    let en := ctrl % 4
    let m := { m with fault := fault, faultSent := m.faultSent && fault.isSome }
    let m := if m.st = .safe ∧ (en = 0 ∧ ctrl.testBit 5) then { m with st := .joined } else m
    if m.st ≠ .joined then m
    else
      let cal := ctrl.testBit 4
      let per := (m.period / 1250).floor.toNat
      let at2 := fun i => phaseOn per (leAt l (2 + 4 * i) 2) (leAt l (4 + 4 * i) 2)
      let calEnd := m.cal && !cal
      { m with
        en := if cal then 0 else en
        brk := ctrl / 4 % 4
        cal := cal
        calSend := m.calSend || calEnd
        calSum := if cal && !m.cal then [] else m.calSum
        calNum := if cal && !m.cal then 0 else m.calNum
        phases := if ty = 1 then (List.range 6).map at2 else []
        duties := if ty = 2 then (List.range 6).map (fun i => leAt l (2 + 2 * i) 2) else [] }

/-- A record comes into force for the next period (Table 9-9). -/
def Module.takeRecord (m : Module) (l : List Byte) : Module :=
  let ty := leAt l 0 1 / 16
  let m := { m with rec_ := l, nextRec := none, age := 0 }
  match m.st with
  | .announce =>
    if ty = 3 then
      let gen := leAt l 3 1
      if m.cap.gens.testBit (gen - 1) ∧ 1 ≤ gen then
        { m with st := .joined, slot := leAt l 2 1, gen := gen, upOfs := leAt l 4 2, sampleOfs := leAt l 6 2, ageMax := leAt l 8 1, capFault := false,
                 fault := none, faultSent := false, en := 0, brk := 3 }
      else { m with capFault := true }
    else if ty = 4 then { m with capFault := false }
    else if (ty = 1 ∨ ty = 2) ∧ (leAt l 1 1).testBit 6 then m.toListen
    else m
  | .joined | .safe => if ty = 1 ∨ ty = 2 then m.apply l else m
  | _ => m

/-- The apply deadline (R222, R225): the record received comes into force, or the previous one is repeated. The instants of markers
that did not come are counted with it (R220). -/
def modDeadline (d : Dev) (n : Nat) : Dev :=
  let m := d.modl n
  if m.st = .off then d
  else
    let m := match m.nextRec with
      | some l => m.takeRecord l
      | none => match m.st with
        | .joined | .safe =>
          let age := min 7 (m.age + 1)
          if m.ageMax < m.age + 1 then { m with age := age, st := .safe, en := 0, brk := 3, phases := [], duties := [], cal := false }
          else { m with age := age }
        | _ => { m with rec_ := [] }
    let missed := if m.cycleMinor.isNone then m.missed + 1 else 0
    let m := { m with missed := missed, cycleMinor := none, b1 := if m.cycleMinor.isNone ∧ 2 ≤ m.bCount then m.predicted else m.b1,
                      b2 := if m.cycleMinor.isNone ∧ 2 ≤ m.bCount then m.b1 else m.b2 }
    d.setModl n (if 3 ≤ m.missed ∧ m.st ≠ .listen then m.toListen else m)

/-- MODULE_MARKERS_MISSED as a row of its own (R220). -/
def modMissed (d : Dev) (n : Nat) : Dev :=
  let m := d.modl n
  if m.st ≠ .off ∧ m.st ≠ .listen ∧ 3 ≤ m.missed + (if m.cycleMinor.isNone then 1 else 0) then d.setModl n m.toListen else d

/-- MODULE_FAULT: a joined module detects a new fault of its own, or the cause of its fault ends (R223, R227). -/
def modFault (d : Dev) (n code : Nat) (stands : Bool) : Dev :=
  let m := d.modl n
  if m.st ≠ .joined ∧ m.st ≠ .safe then d
  else if !stands then d.setModl n { m with faultCause := false }
  else d.setModl n { m with fault := some code, faultCause := true, faultSent := m.faultSent && decide (m.fault = some code) }

/-- A safe position field (R231). -/
def safeField (pos seq ident : Nat) : List Byte :=
  let b := le 4 pos ++ le 2 seq
  b ++ le 3 (crc24 ident b)

/-- Averages of a measurement; their rounding to a whole step is open (log entry 3). -/
def calMeans (d : Dev) (m : Module) : List Int × Dev :=
  let r := d.free
  ((List.range 6).map (fun i => ((m.calSum.getD i 0 : Int) : Rat) / (max 1 m.calNum : Nat) |>.floor) |>.map (fun x => x + (r.1 % 2 : Nat)), r.2)

/-- Bytes 2 to 27 of a SAMPLE record (Table 9-8). -/
def sampleBytes (c : Cap) (s : ModSample) : List Byte :=
  let cur := fun i => if i % 3 = 2 ∧ c.phases = 2 then 0 else s.cur.getD i 0
  let ax := fun (o cnt : Nat) (spd : Int) => sle 2 (cur o) ++ sle 2 (cur (o + 1)) ++ sle 2 (cur (o + 2)) ++ le 4 cnt ++ sle 2 spd
  le 2 s.vbus ++ ax 0 s.cnt0 s.spd0 ++ (if c.axes = 2 then ax 3 s.cnt1 s.spd1 else List.replicate 12 0)

/-- Bytes 2 to 27 of a CAP record (Table 9-11). -/
def capBytes (c : Cap) : List Byte :=
  padTo 26 (le 2 c.vendor ++ le 2 c.product ++ le 4 c.serial ++ le 1 c.gens ++ le 1 c.axes ++ le 1 c.phases ++ le 1 c.fwd ++ le 2 c.tPrep
    ++ le 2 c.curLsb ++ le 1 c.speedShift)

/-- Bytes 2 to 27 of a CAL record (R227). -/
def calBytes (l : List Int) (axes : Nat) : List Byte :=
  let w := fun i => sle 2 (l.getD i 0)
  [0, 0] ++ w 0 ++ w 1 ++ w 2 ++ List.replicate 6 0 ++ (if axes = 2 then w 3 ++ w 4 ++ w 5 else List.replicate 6 0) ++ List.replicate 6 0

/-- The sample instant (R226, R227, R230, R231): a module that has joined samples and sends its uplink, both copies alike; one that
announces itself sends CAP where a CONFIG or REFUSE addresses it. -/
def modSample (d : Dev) (n : Nat) (s : ModSample) : Dev :=
  let m := d.modl n
  let minor := match m.cycleMinor with | some k => k | none => (m.minor.getD 0) + 1
  let send := fun (d : Dev) (ty fl : Nat) (body safe : List Byte) =>
    let b := le 1 (ty * 16 + m.position) ++ le 1 fl ++ body ++ safe
    d.emit (.dlUplink (n / 16) m.position (b ++ le 2 (crc16 (0xFFFF ^^^ ((0x80 + m.position) * 256 + minor % 256)) b)))
  match m.st with
  | .announce =>
    let ty := leAt m.rec_ 0 1 / 16
    if m.rec_ ≠ [] ∧ (ty = 3 ∨ ty = 4) then send d 2 (if m.capFault then 16 else 0) (capBytes m.cap) (List.replicate 18 0) else d
  | .joined | .safe =>
    let m1 := if m.cal then
        { m with calNum := m.calNum + 1, calSum := (List.range 6).map (fun i => m.calSum.getD i 0 + s.cur.getD i 0) }
      else m
    if m.withheld then d.setModl n m1
    else
      let fl := m.age % 8 + (if m.slip then 8 else 0) + (if m.fault.isSome then 16 else 0) + (if m.st = .safe then 32 else 0) + (if m.cal then 64 else 0)
      let safe := safeField s.safe0 m.safeSeq m.safeId0 ++ (if m.cap.axes = 2 then safeField s.safe1 m.safeSeq m.safeId1 else List.replicate 9 0)
      let m2 := { m1 with slip := false, safeSeq := (m.safeSeq + 1) % 65536 }
      match m.fault, m.faultSent with
      | some code, false =>
        (send d 4 fl (padTo 26 (le 2 code ++ sle 2 s.temp)) safe).setModl n { m2 with faultSent := true }
      | _, _ =>
        if m.calSend then
          let r := calMeans d m
          (send r.2 3 fl (calBytes r.1 m.cap.axes) safe).setModl n { m2 with calSend := false }
        else (send d 1 fl (sampleBytes m.cap s) safe).setModl n m2
  | _ => d

end Sys2Proof.Machine
end

