-- ==== Sys2Proof/Machine/Crypto.lean ====
section
/-!
DEFINITION. SHA-256, HMAC-SHA-256 and ECDSA P-256 verification, which R73, R91, R93 and R322 name. The algorithms are
those of FIPS 180-4, FIPS 198-1 and FIPS 186-4 (PRESUMED: the spec names them and does not repeat them; log entry 33).
-/
namespace Sys2Proof.Machine

/-- Number that bytes spell, most significant first. -/
def ofBe (l : List Byte) : Nat := l.foldl (fun a b => a * 256 + b.toNat) 0

/-- `n` bytes of `v`, most significant first. -/
def be (n v : Nat) : List Byte := (le n v).reverse

/-! ### SHA-256 -/

def shaK1 : List Nat :=
  [0x428a2f98, 0x71374491, 0xb5c0fbcf, 0xe9b5dba5, 0x3956c25b, 0x59f111f1, 0x923f82a4, 0xab1c5ed5,
   0xd807aa98, 0x12835b01, 0x243185be, 0x550c7dc3, 0x72be5d74, 0x80deb1fe, 0x9bdc06a7, 0xc19bf174,
   0xe49b69c1, 0xefbe4786, 0x0fc19dc6, 0x240ca1cc, 0x2de92c6f, 0x4a7484aa, 0x5cb0a9dc, 0x76f988da,
   0x983e5152, 0xa831c66d, 0xb00327c8, 0xbf597fc7, 0xc6e00bf3, 0xd5a79147, 0x06ca6351, 0x14292967]
def shaK2 : List Nat :=
  [0x27b70a85, 0x2e1b2138, 0x4d2c6dfc, 0x53380d13, 0x650a7354, 0x766a0abb, 0x81c2c92e, 0x92722c85,
   0xa2bfe8a1, 0xa81a664b, 0xc24b8b70, 0xc76c51a3, 0xd192e819, 0xd6990624, 0xf40e3585, 0x106aa070,
   0x19a4c116, 0x1e376c08, 0x2748774c, 0x34b0bcb5, 0x391c0cb3, 0x4ed8aa4a, 0x5b9cca4f, 0x682e6ff3,
   0x748f82ee, 0x78a5636f, 0x84c87814, 0x8cc70208, 0x90befffa, 0xa4506ceb, 0xbef9a3f7, 0xc67178f2]

def shaInit : List Word :=
  [0x6a09e667, 0xbb67ae85, 0x3c6ef372, 0xa54ff53a, 0x510e527f, 0x9b05688c, 0x1f83d9ab, 0x5be0cd19]

/-- Message schedule, newest word first, extended `n` times. -/
def shaSchedule : Nat → List Word → List Word
  | 0, w => w
  | n + 1, w =>
    let a := w.getD 1 0
    let b := w.getD 14 0
    let s1 := a.rotateRight 17 ^^^ a.rotateRight 19 ^^^ (a >>> 10)
    let s0 := b.rotateRight 7 ^^^ b.rotateRight 18 ^^^ (b >>> 3)
    shaSchedule n ((s1 + w.getD 6 0 + s0 + w.getD 15 0) :: w)

/-- One round on the eight working variables. -/
def shaRound (v : List Word) (kw : Word) : List Word :=
  match v with
  | [a, b, c, d, e, f, g, h] =>
    let t1 := h + (e.rotateRight 6 ^^^ e.rotateRight 11 ^^^ e.rotateRight 25) + ((e &&& f) ^^^ (~~~e &&& g)) + kw
    let t2 := (a.rotateRight 2 ^^^ a.rotateRight 13 ^^^ a.rotateRight 22) + ((a &&& b) ^^^ (a &&& c) ^^^ (b &&& c))
    [t1 + t2, a, b, c, d + t1, e, f, g]
  | _ => v

/-- Words of a block of 64 bytes, first word first. -/
def shaWords : Nat → List Byte → List Word
  | 0, _ => []
  | n + 1, l => BitVec.ofNat 32 (ofBe (l.take 4)) :: shaWords n (l.drop 4)

def shaBlock (h : List Word) (blk : List Byte) : List Word :=
  let w := (shaSchedule 48 (shaWords 16 blk).reverse).reverse
  let v := ((shaK1 ++ shaK2).zip w).foldl (fun v kw => shaRound v (BitVec.ofNat 32 kw.1 + kw.2)) h
  (h.zip v).map (fun p => p.1 + p.2)

def shaBlocks : Nat → List Byte → List Word → List Word
  | 0, _, h => h
  | n + 1, l, h => shaBlocks n (l.drop 64) (shaBlock h (l.take 64))

/-- The SHA-256 digest, 32 bytes in digest order. -/
def sha256 (m : List Byte) : List Byte :=
  let z := (119 - m.length % 64) % 64
  let p := m ++ (0x80 : Byte) :: List.replicate z 0 ++ be 8 (m.length * 8)
  (shaBlocks (p.length / 64) p shaInit).flatMap (fun w => be 4 w.toNat)

/-- HMAC-SHA-256 (R73). -/
def hmac256 (key m : List Byte) : List Byte :=
  let k := padTo 64 (if 64 < key.length then sha256 key else key)
  sha256 (k.map (· ^^^ 0x5c) ++ sha256 (k.map (· ^^^ 0x36) ++ m))

/-! ### ECDSA P-256 -/

def p256p : Nat := 0xffffffff00000001000000000000000000000000ffffffffffffffffffffffff
def p256n : Nat := 0xffffffff00000000ffffffffffffffffbce6faada7179e84f3b9cac2fc632551
def p256b : Nat := 0x5ac635d8aa3a93e7b3ebbd55769886bc651d06b0cc53b0f63bce3c3e27d2604b
def p256g : Nat × Nat :=
  (0x6b17d1f2e12c4247f8bce6e563a440f277037d812deb33a0f4a13945d898c296,
   0x4fe342e2fe1a7f9b8ee7eb4a7c0f9e162bce33576b315ececbb6406837bf51f5)

/-- `b ^ e mod m`, the `n` low bits of `e` from the top. -/
def powMod (b e m : Nat) : Nat → Nat
  | 0 => 1 % m
  | n + 1 => let r := powMod b (e / 2) m n
             if e % 2 = 1 then r * r % m * b % m else r * r % m

/-- Inverse modulo a prime. -/
def invMod (a m : Nat) : Nat := powMod a (m - 2) m 256

/-- Addition on the curve; none is the point at infinity. -/
def ecAdd (x y : Option (Nat × Nat)) : Option (Nat × Nat) :=
  match x, y with
  | none, q => q
  | p, none => p
  | some (x1, y1), some (x2, y2) =>
    if x1 = x2 ∧ (y1 + y2) % p256p = 0 then none
    else
      let l := if x1 = x2 then (3 * x1 * x1 + p256p - 3) * invMod (2 * y1) p256p % p256p
               else (y2 + p256p - y1) * invMod ((x2 + p256p - x1) % p256p) p256p % p256p
      let x3 := (l * l + 2 * p256p - x1 - x2) % p256p
      some (x3, (l * (x1 + p256p - x3) + p256p - y1) % p256p)

/-- Scalar multiplication, `n` bits. -/
def ecMul (k : Nat) (q : Option (Nat × Nat)) : Nat → Option (Nat × Nat)
  | 0 => none
  | n + 1 => let r := ecMul (k / 2) q n
             let d := ecAdd r r
             if k % 2 = 1 then ecAdd d q else d

/-- Does the signature `sig` (r then s) of the digest verify under the public key (X then Y)? -/
def ecdsaVerify (pub digest sig : List Byte) : Bool :=
  let x := ofBe (pub.take 32)
  let y := ofBe (pub.drop 32)
  let r := ofBe (sig.take 32)
  let s := ofBe (sig.drop 32)
  if x < p256p ∧ y < p256p ∧ (y * y) % p256p = (x * x * x + (p256p - 3) * x + p256b) % p256p
      ∧ 0 < r ∧ r < p256n ∧ 0 < s ∧ s < p256n then
    let w := invMod s p256n
    match ecAdd (ecMul (ofBe digest * w % p256n) (some p256g) 256) (ecMul (r * w % p256n) (some (x, y)) 256) with
    | none => false
    | some (px, _) => decide (px % p256n = r)
  else false

end Sys2Proof.Machine
end

