-- ==== Sys2Proof/Machine/BadgerOps.lean ====
section
/-!
DEFINITION. One Badger channel: the safety-parameter set, safe inputs, safe axes, safe messages, demands, STO groups,
safe outputs (chapter 13). Instants are CLK_TIME cycles, 1 ms is 800,000 of them; speeds are in the axis's resolution
per second.
-/
namespace Sys2Proof.Machine

/-! ### The set -/

/-- Entry `p` of instance `inst` of class `cls`, or its default (Table 13-11). -/
def SafeSet.get (s : SafeSet) (cls inst : Nat) (p : SParam) (dflt : Int) : Int :=
  match s.entries.find? (fun e =>
    decide (e.ident / 2 ^ 24 = cls) && decide (e.ident / 65536 % 256 = inst) && decide (e.par = some p)) with
  | some e => e.val
  | none => dflt

def SafeSet.nat (s : SafeSet) (cls inst : Nat) (p : SParam) (dflt : Nat) : Nat := (s.get cls inst p dflt).toNat

/-- Does the set hold the entry? -/
def SafeSet.has (s : SafeSet) (cls inst : Nat) (p : SParam) : Bool :=
  s.entries.any (fun e =>
    decide (e.ident / 2 ^ 24 = cls) && decide (e.ident / 65536 % 256 = inst) && decide (e.par = some p))

/-- Instances of a class, ascending. -/
def SafeSet.insts (s : SafeSet) (cls : Nat) : List Nat :=
  (List.range 256).filter (fun i => s.entries.any (fun e => decide (e.ident / 2 ^ 24 = cls) && decide (e.ident / 65536 % 256 = i)))

/-- The entries of a body: 16 bytes each (R322, R99); which parameter a number names is open (log entry 31). -/
def parseEntries : Nat → List Byte → List SEntry
  | 0, _ => []
  | n + 1, l =>
    if l.length < 16 then []
    else
      let ident := leAt l 0 4
      { ident := ident, par := Config.safetyParam (ident / 2 ^ 24) (ident % 65536), val := sleAt l 8 8 } :: parseEntries n (l.drop 16)

/-- The body of a set: between the header and the ECDSA signature (Table 13-10). -/
def setBody (l : List Byte) : List Byte := (l.take (l.length - 64)).drop 128

/-- A set as a Badger takes it, its signature computed over the body (R323). -/
def parseSet (l : List Byte) : SafeSet :=
  { serial := leAt l 12 4, sig := crcSafe 0xFFFFFFFF (setBody l), entries := parseEntries (l.length / 16) (setBody l) }

/-- Instances of safe axes (class 0x23) of group `g`, and connections (class 0x24). -/
def SafeSet.axes (s : SafeSet) : List Nat := s.insts 0x23
def SafeSet.axesOf (s : SafeSet) (g : Nat) : List Nat := s.axes.filter (fun k => decide (s.nat 0x23 k .axGroup 0xFF = g))
def SafeSet.conns (s : SafeSet) : List Nat := s.insts 0x24

/-- Groups of a mask. -/
def maskGroups (m : Nat) : List Nat := (List.range 9).filter (fun g => m.testBit g)

/-- Outbound connections: kind 1, and kind 3 with a relayed source (R320, R342). -/
def SafeSet.outbound (s : SafeSet) (c : Nat) : Bool :=
  s.nat 0x24 c .kind 0 = 1 || (s.nat 0x24 c .kind 0 = 3 && s.has 0x24 c .relaySrc)

/-! ### Timing of a cycle -/

/-- What a cycle knows of time: start instant, first major frame, lengths in cycles. -/
structure Tm where
  at_ : Nat := 0
  maj : Nat := 0
  tMinor : Nat := 0
  m : Nat := 0
  s : Nat := 0
  cutoff : Nat := 0
deriving DecidableEq, Repr, Inhabited

def Tm.tMajor (t : Tm) : Nat := t.m * t.tMinor
def Tm.tSafe (t : Tm) : Nat := t.s * t.tMajor

/-- T_EVAL, 150 µs (R300), rounded up to major frames: T_ACT of Table 14-3. -/
def tEval : Nat := 120000
def Tm.tAct (t : Tm) : Nat := if t.tMajor = 0 then 0 else (tEval + t.tMajor - 1) / t.tMajor * t.tMajor

/-- Cycles that `ms` milliseconds take, rounded up. -/
def Tm.cyclesOf (t : Tm) (ms : Nat) : Nat := if t.tSafe = 0 then 1 else max 1 ((ms * 800000 + t.tSafe - 1) / t.tSafe)

/-- R300: the Badgers evaluate only when the safety frame lasts from 250 µs to 5.12 ms. -/
def Tm.lengthOk (t : Tm) : Bool := decide (200000 ≤ t.tSafe) && decide (t.tSafe ≤ 4096000)

/-- An event record of a Badger: code, source, parameters. -/
abbrev BEv := Nat × Nat × Int × Int × Int

/-! ### Tables of a Badger -/

def Badger.g (b : Badger) (n : Nat) : SGrp := tget {} b.grp n
def Badger.setG (b : Badger) (n : Nat) (x : SGrp) : Badger := { b with grp := tset {} b.grp n x }
def Badger.axis (b : Badger) (n : Nat) : SAxis := tget {} b.ax n
def Badger.setAxis (b : Badger) (n : Nat) (x : SAxis) : Badger := { b with ax := tset {} b.ax n x }
def Badger.cn (b : Badger) (n : Nat) : SConn := tget {} b.conn n
def Badger.setCn (b : Badger) (n : Nat) (x : SConn) : Badger := { b with conn := tset {} b.conn n x }

def Demand.rank : Demand → Nat | .none => 0 | .ss1 => 1 | .sto => 2
def SState.code : SState → Nat | .sto => 0 | .ss1 => 1 | .released => 2
def SepZone.rank : SepZone → Nat | .clear => 0 | .warning => 1 | .reduced => 2 | .stop => 3
def BState.code : BState → Nat | .init => 0 | .waitSet => 1 | .active => 2 | .fault => 3

/-- The stricter of two (R302, R307, R338). -/
def strictD (a b : Demand) : Demand := if a.rank < b.rank then b else a
def strictS (a b : SState) : SState := if b.code < a.code then b else a
def strictZ (a b : SepZone) : SepZone := if a.rank < b.rank then b else a

/-- Some fault of the group is latched. -/
def SFaults.any (f : SFaults) : Bool := f.disc || f.env || f.edm || f.tp || f.spos || f.accel

/-! ### Safe inputs (R304, R305) -/

/-- Function of safe input `i`. -/
def SafeSet.func (s : SafeSet) (i : Nat) : Nat := s.nat 0x20 i .func 0

/-- A safe-input channel has held `level` for `us` microseconds (R305). -/
def siChange (b : Badger) (i : Nat) (level : Bool) (us : Nat) : Badger :=
  let flt := match b.set with | some s => s.nat 0x20 i .siFlt 200 | none => 200
  if flt ≤ us then
    { b with level := if level then b.level ||| 2 ^ i else if b.level.testBit i then b.level - 2 ^ i else b.level }
  else b

/-- Level of input `i` as a channel latches it: channel 2 of an antivalent input is inverted (R304). -/
def siLatch (b : Badger) (chB : Bool) (i : Nat) : Bool :=
  let inv := chB && (match b.set with | some s => decide (s.nat 0x20 i .mode 0 = 1) | none => false)
  b.level.testBit i != inv

/-- Bits of a mask of eight from a predicate. -/
def mask8 (p : Nat → Bool) : Nat := (((List.range 8).filter p).map (fun k => 2 ^ k)).sum

/-- The input as it counts: 0 while a DISCREPANCY stands. -/
def Badger.si (b : Badger) (i : Nat) : Bool := b.latched.testBit i && !b.disc.testBit i

/-- A fault latched for a group. -/
def latchFault (b : Badger) (g : Nat) (f : SFaults → SFaults) : Badger := b.setG g { b.g g with faults := f (b.g g).faults, needReset := true }

/-- DISCREPANCY of an input (R305) where its run of differing cycles is long enough. -/
def discrepancy (s : SafeSet) (t : Tm) (i : Nat) (peer : Nat) (chB : Bool) (b : Badger) : Badger × List BEv :=
  if !b.disc.testBit i && decide (t.cyclesOf (s.nat 0x20 i .discT 50) ≤ tget 0 b.discRun i) then
    let b1 := forEach (maskGroups (s.nat 0x20 i .mask 0)) (fun x g => latchFault x g (fun f => { f with disc := true }))
      { b with disc := b.disc ||| 2 ^ i, discRun := tset 0 b.discRun i 0,
               disc0 := if b.disc0.testBit i then b.disc0 - 2 ^ i else b.disc0 }
    let own : Int := (b.latched.testBit i).toNat
    let oth : Int := (peer.testBit i).toNat
    (b1, [(0x5010, i, i, if chB then oth else own, if chB then own else oth)])
  else (b, [])

/-- Own and peer levels of one input in a cycle. -/
def discStep (s : SafeSet) (t : Tm) (peer : Nat) (chB : Bool) (i : Nat) (b : Badger) : Badger × List BEv :=
  let o := b.latched.testBit i
  let p := peer.testBit i
  if b.disc.testBit i then
    if !o && !p then ({ b with disc0 := b.disc0 ||| 2 ^ i }, [])
    else if o && p && b.disc0.testBit i then ({ b with disc := b.disc - 2 ^ i, disc0 := b.disc0 - 2 ^ i }, [])
    else (b, [])
  else discrepancy s t i peer chB { b with discRun := tset 0 b.discRun i (if o != p then tget 0 b.discRun i + 1 else 0) }

/-- Run a step that raises events for each element of a list. -/
def runEv {α : Type} (l : List α) (f : α → Badger → Badger × List BEv) (s : Badger × List BEv) : Badger × List BEv :=
  l.foldl (fun s x => let r := f x s.1; (r.1, s.2 ++ r.2)) s

/-- A reset for the groups of a mask, source 1 input or 2 PLC (R308). -/
def giveReset (b : Badger) (m src : Nat) : Badger := forEach (maskGroups m) (fun x g => x.setG g { x.g g with reset := src }) b

/-- Reset inputs: a pulse latched at 1 for 100 ms to 5 s acts at its trailing edge (R308). -/
def resetInput (s : SafeSet) (t : Tm) (i : Nat) (b : Badger) : Badger :=
  if s.func i ≠ 3 then b
  else
    let r := tget 0 b.rise i
    if b.si i then (if r = 0 then { b with rise := tset 0 b.rise i (t.at_ + 1) } else b)
    else if r = 0 then b
    else
      let b1 := { b with rise := tset 0 b.rise i 0 }
      let len := t.at_ + 1 - r
      if 80000000 ≤ len ∧ len ≤ 4000000000 then giveReset b1 (s.nat 0x20 i .mask 0) 1 else b1

/-! ### Safe axes (R314, R315) -/

/-- The newest item of axis `k` that is a valid field whose sequence advanced by 1 to 2 × M × S: position, sequence. -/
def pickField (s : SafeSet) (t : Tm) (k : Nat) (a : SAxis) (items : List Black) : Option (Nat × Nat) :=
  items.reverse.findSome? (fun it =>
    match it with
    | .field _ p sl ax bytes =>
      let seq := leAt bytes 4 2
      let adv := match a.last with
        | none => true
        | some l =>
          let ds := (seq + 65536 - l.2) % 65536
          decide (1 ≤ ds) && decide (ds ≤ 2 * t.m * t.s)
      if decide (p = s.nat 0x23 k .port 0) && decide (sl = s.nat 0x23 k .slot 0) && decide (ax = s.nat 0x23 k .axis 0)
          && decide (bytes.length = 9) && decide (leAt bytes 6 3 = crc24 (s.nat 0x23 k .safeId 0) (bytes.take 6)) && adv then
        some (leAt bytes 0 4, seq)
      else none
    | _ => none)

/-- Signed 32-bit difference (R314). -/
def diff32 (a b : Nat) : Int := (BitVec.ofInt 32 ((a : Int) - b)).toInt

/-- SPOS_STALE of axis `k` (R315) where it has missed long enough. -/
def sposStale (s : SafeSet) (k : Nat) (b : Badger) : Badger × List BEv :=
  let g := s.nat 0x23 k .axGroup 0
  let a := b.axis k
  if !a.stale && decide (s.nat 0x22 g .sposMiss 2 ≤ a.miss) then
    (latchFault (b.setAxis k { a with stale := true, last := none }) g (fun f => { f with spos := true }),
      [(0x5003, g, g, k, a.miss)])
  else (b, [])

/-- One safe axis in a cycle. -/
def axisStep (s : SafeSet) (t : Tm) (items : List Black) (k : Nat) (b : Badger) : Badger × List BEv :=
  let a := b.axis k
  match pickField s t k a items with
  | some (pos, seq) =>
    match a.last with
    | none => (b.setAxis k { a with last := some (pos, seq), miss := 0, stale := false, fresh := false }, [])
    | some l =>
      let ds := (seq + 65536 - l.2) % 65536
      let v : Rat := (diff32 pos l.1 : Rat) * 800000000 / (ds * t.tMinor : Nat)
      (b.setAxis k { last := some (pos, seq), speed := v, prevSpeed := a.speed, fresh := true, miss := 0, stale := false }, [])
  | none => sposStale s k (b.setAxis k { a with fresh := false, prevSpeed := a.speed, miss := a.miss + 1 })

/-! ### Safe messages (R318 to R320, R328, R329) -/

/-- Connection of an inbound CONN_ID. -/
def connOf (s : SafeSet) (ident : Nat) : Option Nat := s.conns.find? (fun c => !s.outbound c && decide (s.nat 0x24 c .connId 0 = ident))

/-- A received copy: valid (R319 conditions 1 and 2), counted as discarded, or of no configured connection. -/
def takeCopy (s : SafeSet) (it : Black) (b : Badger) : Badger :=
  match it with
  | .field .. => b
  | .copy commit port stamp p =>
    match connOf s (leAt p 0 4) with
    | none => b
    | some c =>
      let copyB := decide (port = 3)
      let len := leAt p 6 1
      let seed := if copyB then s.nat 0x25 0 .seedB 0 else s.nat 0x25 0 .seedA 0
      if decide (len ≤ 64) && decide (12 + len ≤ p.length) && decide (leAt p 7 1 = copyB.toNat)
          && decide (leAt p (8 + len) 4 = crcSafe (seed ^^^ leAt p 0 4) (p.take (8 + len))) then
        { b with copies := b.copies ++ [{ conn := c, copyB := copyB, seq := leAt p 4 2, payload := (p.drop 8).take len,
                                          stamp := stamp, commit := commit }] }
      else b.setCn c { b.cn c with discards := min 255 ((b.cn c).discards + 1) }

/-- Partners (R319 conditions 3 and 4). -/
def partners (x y : SCopy) : Bool :=
  decide (x.conn = y.conn) && !x.copyB && y.copyB && decide (x.seq = y.seq) && decide (x.payload = y.payload)
    && decide (x.stamp ≤ y.stamp + 1600000) && decide (y.stamp ≤ x.stamp + 1600000)

/-- Pairs found among waiting copies, and the copies left. -/
def pairCopies : Nat → List SCopy → List (SCopy × SCopy) × List SCopy
  | 0, l => ([], l)
  | _ + 1, [] => ([], [])
  | n + 1, x :: r =>
    match r.find? (fun y => partners x y || partners y x) with
    | some y => let k := pairCopies n (r.erase y); ((x, y) :: k.1, k.2)
    | none => let k := pairCopies n r; (k.1, x :: k.2)

/-- The tracks of a payload (Table 14-1). -/
def parseTracks (p : List Byte) : Nat → Nat → List STrack
  | 0, _ => []
  | n + 1, o =>
    { x := sleAt p (o + 2) 4, y := sleAt p (o + 6) 4, radius := leAt p (o + 14) 2, height := leAt p (o + 16) 2,
      unc := leAt p (o + 18) 2 } :: parseTracks p n (o + 20)

/-- Cause for which a track message is rejected (R329), 0 none. -/
def trackReject (s : SafeSet) (c : Nat) (p : List Byte) : Nat :=
  let src := s.nat 0x24 c .source 0
  if s.nat 0x25 (16 + src) .tSens 0 * 10 < leAt p 2 2 then 1
  else if s.nat 0x24 c .tracks 0 < leAt p 0 1 || decide (p.length ≠ 4 + 20 * leAt p 0 1) then 2
  else if s.nat 0x24 c .kind 0 = 3 && leAt p 1 1 % 16 ≠ src then 3
  else 0

/-- An accepted pair reaches its connection (R319 condition 5, R329). -/
def acceptMsg (s : SafeSet) (m : SCopy × SCopy) (b : Badger) : Badger × List BEv :=
  let x := m.1
  let c := x.conn
  let k := b.cn c
  let adv := match k.last with
    | none => true
    | some l =>
      let ds := (x.seq + 65536 - l) % 65536
      decide (1 ≤ ds) && decide (ds ≤ 32767)
  if !adv then (b, [])
  else if s.nat 0x24 c .kind 0 = 0 then
    if x.payload.length ≠ 8 then (b, [])
    else
      let rst := (leAt x.payload 4 1).testBit 0
      let b1 := b.setCn c { k with last := some x.seq, idle := 0, expired := false, accepted := true,
                                   sto := leAt x.payload 0 2 % 512, ss1 := leAt x.payload 2 2 % 512, resetBit := rst,
                                   slsBits := leAt x.payload 5 2 }
      (if rst && !k.resetBit then giveReset b1 (s.nat 0x24 c .groupMask 0) 2 else b1, [])
  else
    let p := x.payload
    let cause := trackReject s c p
    if cause ≠ 0 then (b, [(0x5055, c, s.nat 0x24 c .connId 0, cause, leAt p 2 2)])
    else
      (b.setCn c { k with last := some x.seq, idle := 0, expired := false, accepted := true, payload := p,
                          src := s.nat 0x24 c .source 0, sensorOk := (leAt p 1 1).testBit 7, age := leAt p 2 2,
                          commit := max m.1.commit m.2.commit, tracks := parseTracks p (leAt p 0 1) 4 }, [])

/-- The watchdog of an inbound connection (R320) where it has been idle long enough. -/
def connTimeout (s : SafeSet) (t : Tm) (c : Nat) (b : Badger) : Badger × List BEv :=
  let k := b.cn c
  if !k.expired && decide (t.cyclesOf (s.nat 0x24 c .wdT 20) ≤ k.idle) then
    let m := s.nat 0x24 c .groupMask 0
    (forEach (maskGroups m) (fun x g => x.setG g { x.g g with needReset := true })
        (b.setCn c { k with expired := true, last := none, sto := 0, ss1 := 0, resetBit := false }),
      [(0x5020, c, s.nat 0x24 c .connId 0, s.nat 0x24 c .react 0, m)])
  else (b, [])

/-- The messages of a cycle: copies taken, paired, accepted; leftovers discarded; watchdogs. -/
def messages (s : SafeSet) (t : Tm) (items : List Black) (b : Badger) : Badger × List BEv :=
  let inb := s.conns.filter (fun c => !s.outbound c)
  let b := forEach inb (fun x c => x.setCn c { x.cn c with accepted := false }) b
  let b := forEach items (fun x it => takeCopy s it x) b
  let pr := pairCopies b.copies.length b.copies
  let old := pr.2.filter (fun x => decide (x.stamp + 1600000 + t.tSafe < t.at_))
  let b := { b with copies := pr.2.filter (fun x => !decide (x.stamp + 1600000 + t.tSafe < t.at_)) }
  let b := forEach old (fun x y => x.setCn y.conn { x.cn y.conn with discards := min 255 ((x.cn y.conn).discards + 1) }) b
  let r := runEv pr.1 (fun m x => acceptMsg s m x) (b, [])
  runEv inb (fun c x =>
    if (x.cn c).accepted then (x, []) else connTimeout s t c (x.setCn c { x.cn c with idle := (x.cn c).idle + 1 })) r

/-- A source's coverage counts as occupied (R331): cause, 0 for no. -/
def coverCause (s : SafeSet) (b : Badger) (src : Nat) : Nat :=
  let cs := s.conns.filter (fun c => !s.outbound c && decide (2 ≤ s.nat 0x24 c .kind 0) && decide (s.nat 0x24 c .source 0xFF = src))
  match cs.find? (fun c => (b.cn c).expired) with
  | some c => if s.nat 0x24 c .kind 0 = 3 then 3 else 1
  | none => if cs.any (fun c => (b.cn c).last.isSome && !(b.cn c).sensorOk) then 2 else 0

/-- Start and end of coverage episodes (R331). -/
def coverStep (s : SafeSet) (src : Nat) (b : Badger) : Badger × List BEv :=
  let c := coverCause s b src
  let was := b.cover.testBit src
  if c ≠ 0 && !was then ({ b with cover := b.cover ||| 2 ^ src }, [(0x5054, src, src, c, 0)])
  else if c = 0 && was then ({ b with cover := b.cover - 2 ^ src }, [(0x5054, src, src, 0, 0)])
  else (b, [])

/-! ### Demands (Table 13-4) -/

/-- A demand of row `row` for a group; `needs`: it needs a reset after it (R308). -/
def wantD (b : Badger) (g : Nat) (d : Demand) (row : Nat) (needs : Bool) : Badger :=
  let x := b.g g
  b.setG g { x with own := strictD x.own d, ownRow := if x.own.rank < d.rank then row else x.ownRow,
                    rows := x.rows ||| 2 ^ row, needReset := x.needReset || needs }

def ofReact (r : Nat) : Demand := if r = 1 then .sto else .ss1

/-- RESTART of a group asks for a reset after demands from inputs and PLC masks (R308). -/
def SafeSet.restart0 (s : SafeSet) (g : Nat) : Bool := decide (s.nat 0x22 g .restart 0 = 0)

/-- Rows 1 and 2: safe inputs and PLC masks; row 3: watchdogs. -/
def inputDemands (s : SafeSet) (b : Badger) : Badger :=
  let b := forEach (List.range 8) (fun x i =>
    if (s.func i = 1 || s.func i = 2) && !x.si i then
      forEach (maskGroups (s.nat 0x20 i .mask 0)) (fun y g => wantD y g (if s.func i = 1 then .sto else .ss1) 1 (s.restart0 g)) x
    else x) b
  forEach (s.conns.filter (fun c => !s.outbound c)) (fun x c =>
    let k := x.cn c
    if k.expired then
      forEach (maskGroups (s.nat 0x24 c .groupMask 0)) (fun y g => wantD y g (ofReact (s.nat 0x24 c .react 0)) 3 true) x
    else if s.nat 0x24 c .kind 0 = 0 then
      let x := forEach (maskGroups k.ss1) (fun y g => wantD y g .ss1 2 (s.restart0 g)) x
      forEach (maskGroups k.sto) (fun y g => wantD y g .sto 2 (s.restart0 g)) x
    else x) b

/-- Causes of latched faults that still stand, as STO demands, row 5. -/
def faultStands (s : SafeSet) (b : Badger) (g : Nat) : Bool :=
  (List.range 8).any (fun i => b.disc.testBit i && (s.nat 0x20 i .mask 0).testBit g)
    || (s.axesOf g).any (fun k => (b.axis k).stale)
    || ((b.g g).faults.edm && (List.range 8).any (fun o => decide (s.nat 0x21 o .outGroup 0xFF = g)
          && decide (s.nat 0x21 o .edmEn 1 = 1) && !b.edm.testBit o))

/-- Rows 4 and 5: SS1 requests, tick loss, STO request line, standing faults. -/
def otherDemands (s : SafeSet) (ss1Req : Nat) (line : Bool) (b : Badger) : Badger :=
  forEach (List.range 9) (fun x g =>
    let x := if ss1Req.testBit g || x.tickHold then wantD x g .ss1 4 true else x
    if line || faultStands s x g then wantD x g .sto 5 true else x) b

/-! ### Safe speed limits (R317) -/

/-- V_SLS of a set for axis `k`, V_CART of a set for group `g`; 0 no limit. -/
def vSls (s : SafeSet) (k n : Nat) : Nat := if n = 0 then 0 else s.nat 0x23 k (.vSls n) 0
def vCart (s : SafeSet) (g n : Nat) : Nat := if n = 0 then 0 else s.nat 0x22 g (.vCart n) 0

/-- Is limit `a` below `b`, where 0 is no limit? -/
def lowerLim (a b : Nat) : Bool := decide (a ≠ 0) && (decide (b = 0) || decide (a < b))

/-- Is the change of selection lowering? -/
def slsLowers (s : SafeSet) (g old new : Nat) : Bool :=
  (s.axesOf g).any (fun k => lowerLim (vSls s k new) (vSls s k old)) || lowerLim (vCart s g new) (vCart s g old)

/-- The selected set of a group. -/
def slsSelected (s : SafeSet) (b : Badger) (g : Nat) : Nat :=
  if s.nat 0x22 g .slsSrc 0 = 1 then
    match (s.conns.filter (fun c => decide (s.nat 0x24 c .kind 0 = 0))).head? with
    | some c => if g < 8 then (b.cn c).slsBits / 4 ^ g % 4 else 0
    | none => 0
  else
    let bit := fun f => (List.range 8).any (fun i => decide (s.func i = f) && (s.nat 0x20 i .mask 0).testBit g && b.si i)
    (bit 4).toNat + 2 * (bit 5).toNat

/-- A lowering change whose delay has run out takes effect. -/
def slsDelay (b : Badger) (g at_ : Nat) : Badger :=
  match (b.g g).slsWait with
  | some (n, due) => if due ≤ at_ then b.setG g { b.g g with sls := n, slsWait := none } else b
  | none => b

/-- Selection of a group in a cycle. -/
def slsStep (s : SafeSet) (t : Tm) (b : Badger) (g : Nat) : Badger :=
  let b := slsDelay b g t.at_
  let x := b.g g
  let n := slsSelected s b g
  if n = x.sls then b.setG g { x with slsWait := none }
  else if slsLowers s g x.sls n then
    match x.slsWait with
    | some w => if w.1 = n then b else b.setG g { x with slsWait := some (n, t.at_ + s.nat 0x22 g .slsDelay 500 * 800000) }
    | none => b.setG g { x with slsWait := some (n, t.at_ + s.nat 0x22 g .slsDelay 500 * 800000) }
  else b.setG g { x with sls := n, slsWait := none }

/-- |v| above V_SLS, or above V_MAX of a monitored group (R317, R337): row 6. -/
def slsCheck (s : SafeSet) (g : Nat) (b : Badger) : Badger × List BEv :=
  let x := b.g g
  let ssm := decide (s.nat 0x22 g .ssmEn 0 = 1)
  match (s.axesOf g).find? (fun k =>
    let v := absR (b.axis k).speed
    let l := vSls s k x.sls
    (b.axis k).fresh && ((decide (l ≠ 0) && decide ((l : Rat) < v))
      || (ssm && decide ((s.nat 0x23 k .vMax 0 : Rat) < v)))) with
  | some k =>
    (wantD b g (ofReact (s.nat 0x22 g .slsReact 0)) 6 true,
      if x.st = .released then [(0x5004, g, g, k, x.sls)] else [])
  | none => (b, [])

/-- ACCEL (R337). -/
def accelCheck (s : SafeSet) (t : Tm) (g : Nat) (b : Badger) : Badger × List BEv :=
  if s.nat 0x22 g .ssmEn 0 ≠ 1 then (b, [])
  else
    let rise := fun k => absR (b.axis k).speed - absR (b.axis k).prevSpeed
    match (s.axesOf g).find? (fun k => (b.axis k).fresh
      && decide ((s.nat 0x23 k .aCap 0 : Rat) * t.tSafe / 800000000 + 2 * (s.nat 0x23 k .vTol 0 : Rat) < rise k)) with
    | some k =>
      (wantD (latchFault b g (fun f => { f with accel := true })) g .ss1 7 true, [(0x5053, g, g, k, (rise k).floor)])
    | none => (b, [])

/-! ### SS1 envelope (R312) -/

/-- v_env of axis `k` at `sec` seconds after the start of the SS1. -/
def envAt (s : SafeSet) (g k : Nat) (v0 sec : Rat) : Rat :=
  let lag : Rat := (s.nat 0x22 g .tLag 25 : Rat) / 1000
  max (s.nat 0x23 k .vStill 0 : Rat) (v0 + s.nat 0x23 k .vTol 0 - s.nat 0x23 k .dEnv 0 * max 0 (sec - lag))

/-- Envelope and standstill of a group in SS1, in cycles after the one it was entered in. -/
def envStep (s : SafeSet) (t : Tm) (g : Nat) (b : Badger) : Badger × List BEv :=
  let x := b.g g
  if x.st ≠ .ss1 || decide (t.at_ ≤ x.ss1At) then (b, [])
  else
    let sec : Rat := ((t.at_ - x.ss1At : Nat) : Rat) / 800000000
    let ks := s.axesOf g
    let below := !ks.isEmpty && ks.all (fun k => (b.axis k).fresh && decide (absR (b.axis k).speed < s.nat 0x23 k .vStill 0))
    let b := b.setG g { x with still := if below then x.still + 1 else 0 }
    match ks.find? (fun k => (b.axis k).fresh && decide (envAt s g k (tget 0 x.v0 k) sec < absR (b.axis k).speed)) with
    | some k =>
      (wantD (latchFault b g (fun f => { f with env := true })) g .sto 5 true,
        [(0x5002, g, g, k, (absR (b.axis k).speed).floor)])
    | none => (b, [])

/-! ### STO groups (Table 13-3) -/

/-- Outputs of a group. -/
def outputsOf (s : SafeSet) (g : Nat) : List Nat := (List.range 8).filter (fun o => decide (s.nat 0x21 o .outGroup 0xFF = g))

/-- Outputs of a group whose EDM input is read and does not read open. -/
def edmClosed (s : SafeSet) (b : Badger) (g : Nat) : List Nat :=
  (outputsOf s g).filter (fun o => decide (s.nat 0x21 o .edmEn 1 = 1) && !b.edm.testBit o)

/-- STO entered: record with the row of the demand. -/
def toSto (b : Badger) (g row : Nat) : Badger × List BEv :=
  let x := b.g g
  if x.st = .sto then (b, [])
  else (b.setG g { x with st := .sto, cause := row }, [(0x5000, g, g, 2, row)])

/-- SS1 entered in a cycle (R312). -/
def toSs1 (s : SafeSet) (t : Tm) (b : Badger) (g row : Nat) : Badger × List BEv :=
  let x := b.g g
  if x.st ≠ .released then (b, [])
  else
    let v0 := (s.axesOf g).foldl (fun l k => tset 0 l k (absR (b.axis k).speed)) ([] : Tab Rat)
    (b.setG g { x with st := .ss1, ss1At := t.at_, v0 := v0, still := 0, cause := row }, [(0x5000, g, g, 1, row)])

/-- SS1_TMAX has run out. -/
def ss1Tmax (s : SafeSet) (g at_ : Nat) (b : Badger) : Badger × List BEv :=
  let x := b.g g
  if x.st = .ss1 && decide (x.ss1At + s.nat 0x22 g .ss1Tmax 2000 * 800000 ≤ at_) then toSto b g x.cause else (b, [])

/-- Standstill is confirmed (R312). -/
def ss1Still (s : SafeSet) (g : Nat) (b : Badger) : Badger × List BEv :=
  let x := b.g g
  if x.st = .ss1 && decide (s.nat 0x22 g .stillFrames 2 ≤ x.still) then toSto b g x.cause else (b, [])

/-- An EDM fault of output `o`, kind 1 or 2 (R311). -/
def edmFault (s : SafeSet) (o kind : Nat) (b : Badger) : Badger × List BEv :=
  let g := s.nat 0x21 o .outGroup 0xFF
  if (b.g g).faults.edm then (b, [])
  else (latchFault b g (fun f => { f with edm := true }), [(0x5012, o, o, kind, 0)])

/-- EDM_T after a switch-off the input must read open (R311). -/
def edmLate (s : SafeSet) (t : Tm) (o : Nat) (b : Badger) : Badger × List BEv :=
  let off := tget 0 b.offAt o
  if decide (s.nat 0x21 o .edmEn 1 = 1) && decide (s.nat 0x21 o .outGroup 0xFF ≠ 0xFF) && decide (off ≠ 0) && !b.edm.testBit o
      && !b.sw.testBit o && decide (off - 1 + s.nat 0x21 o .edmT 20 * 800000 ≤ t.at_) then edmFault s o 2 b
  else (b, [])

/-- A group's reset (R308): it counts in a cycle without demand, clears ended faults and lets the group release. -/
def resetStep (s : SafeSet) (g : Nat) (b : Badger) : Badger :=
  let x := b.g g
  if x.reset ≠ 0 && decide (x.demand = .none) && !faultStands s b g then
    let stuck := (outputsOf s g).foldl (fun m o => if m.testBit o then m - 2 ^ o else m) b.stuck
    ({ b with stuck := stuck }).setG g { x with faults := {}, needReset := false }
  else b

/-- STO to RELEASED (Table 13-3). -/
def release (s : SafeSet) (g : Nat) (b : Badger) : Badger × List BEv :=
  let x := b.g g
  if x.st = .sto && decide (x.demand = .none) && !x.faults.any && !x.needReset
      && (g = 8 || decide ((b.g 8).st = .released)) then
    match edmClosed s b g with
    | [] => (b.setG g { x with st := .released }, [(0x5001, g, g, x.reset, 0)])
    | o :: _ => edmFault s o 1 b
  else (b, [])

/-- CAUSE: the row behind the newest demand (SAFE_GRPg); of several new rows the one behind the demand in force, else the lowest. -/
def newCause (x : SGrp) (up : Bool) (row : Nat) : Nat :=
  let new := (List.range 8).filter (fun k => x.rows.testBit k && !x.rowsWas.testBit k)
  if x.demand = .none ∧ !up then x.cause
  else if up ∨ new.contains row then row
  else match new with | [] => x.cause | k :: _ => k

/-- The machine of one group in a cycle, with the demand in force. -/
def groupStep (s : SafeSet) (t : Tm) (g : Nat) (b : Badger) : Badger × List BEv :=
  let x := b.g g
  let up : Demand := if g = 8 then .none else match (b.g 8).st with | .released => .none | .ss1 => .ss1 | .sto => .sto
  let d := strictD x.demand up
  let row := if x.demand.rank < up.rank then (b.g 8).cause else x.row
  let b := b.setG g { x with demand := d, row := row, cause := newCause x (decide (x.demand.rank < up.rank)) row }
  let r := match d with
    | .sto => toSto b g row
    | .ss1 => toSs1 s t b g row
    | .none => (b, [])
  let r2 := runEv [()] (fun _ y => ss1Still s g y) (runEv [()] (fun _ y => ss1Tmax s g t.at_ y) r)
  let r3 := runEv [()] (fun _ y => release s g (resetStep s g y)) r2
  (r3.1.setG g { r3.1.g g with reset := 0 }, r3.2)

/-- Order of the groups: the global group first (R306). -/
def groupOrder : List Nat := [8, 0, 1, 2, 3, 4, 5, 6, 7]

/-- Own switches the decision asks for: outputs of groups not in STO, unless kept off (R307, R310). -/
def wantSw (s : SafeSet) (b : Badger) : Nat :=
  mask8 (fun o => let g := s.nat 0x21 o .outGroup 0xFF
    decide (g ≤ 8) && decide ((b.g g).st ≠ .sto) && !b.stuck.testBit o)

/-! ### Channel states (R303, R325) -/

/-- Every group to STO. -/
def allSto (b : Badger) (row : Nat) : Badger × List BEv := runEv groupOrder (fun g x => toSto x g row) (b, [])

/-- A channel fault: FAULT, every group in STO, own switches off. -/
def channelFault (cause : Nat) (b : Badger) : Badger × List BEv :=
  if b.st = .fault then (b, [])
  else
    let r := allSto b 5
    ({ r.1 with st := .fault, cause := cause, sw := 0, want := 0, pulse := 0 }, r.2)

/-- A new set is active: every group in STO, a reset awaited (Table 13-13). -/
def activate (s : SafeSet) (b : Badger) : Badger × List BEv :=
  let r := allSto b 0
  ({ r.1 with st := .active, set := some s, sw := 0, want := 0, pulse := 0, stuck := 0, disc := 0, disc0 := 0, discRun := [],
              rise := [], offAt := [], ax := [], conn := [], copies := [], centres := [], cover := 0,
              grp := [] }, r.2)

end Sys2Proof.Machine
end

