-- ==== Sys2Proof/Machine/Ssm.lean ====
section
/-!
DEFINITION. Speed and separation monitoring in one Badger channel: the safety arm model, person volumes, distances of
both channels, the protective separation distance, zones and their demands (R328 to R341). Lengths of the arm model are
nm, times are seconds, distances that are compared are mm.
-/
namespace Sys2Proof.Machine

/-- 2π, to 2^-62. -/
def twoPi : Rat := (halfPi : Rat) / 2 ^ 62

/-! ### The safety arm model (R332) -/

/-- Safe axes of the joints 1, 2, … of group `g`, in joint order. -/
def SafeSet.jointAxes (s : SafeSet) (g : Nat) : List Nat :=
  (List.range 12).filterMap (fun j => (s.axesOf g).find? (fun k => decide (s.nat 0x23 k .joint 0 = j + 1)))

/-- Joint value of a safe axis, none where no field has been taken. -/
def jointValue (s : SafeSet) (b : Badger) (k : Nat) : Option Int :=
  (b.axis k).last.map (fun l => s.get 0x23 k .qZero 0 + s.get 0x23 k .resolution 0 * diff32 l.1 (s.nat 0x23 k .sposZero 0))

def SafeSet.baseFrame (s : SafeSet) (g : Nat) : Frame :=
  let p := fun i => s.get 0x22 g (.basePos i) 0
  let r := fun i => ofFloat32 (s.nat 0x22 g (.baseRot i) (if i = 0 then 0x3F800000 else 0))
  Frame.ofQuat (r 0) (r 1) (r 2) (r 3) ⟨p 0, p 1, p 2⟩

/-- Is the joint of safe axis `k` revolute (Table 6-1)? -/
def SafeSet.revolute (s : SafeSet) (k : Nat) : Bool := decide (s.nat 0x23 k .jType 0 = 0)

/-- Link frames 1 to n of a group at its present pose; none where a joint value is missing. -/
def linkFrames (s : SafeSet) (b : Badger) (f : Frame) : List Nat → Option (List Frame)
  | [] => some []
  | k :: r =>
    match jointValue s b k with
    | none => none
    | some q =>
      let th := s.get 0x23 k .theta 0
      let d := s.get 0x23 k .d 0
      let f1 := f.dh (s.get 0x23 k .alphaPrev 0) (s.get 0x23 k .aPrev 0)
        (if s.revolute k then th + q else th) (if s.revolute k then d else d + q)
      (linkFrames s b f1 r).map (f1 :: ·)

/-- A capsule in W: its link number, ends and radius, nm. -/
structure SCap where
  link : Nat := 0
  p : V3 := {}
  q : V3 := {}
  r : Int := 0
deriving DecidableEq, Repr, Inhabited

/-- Capsules of the set, 0 to 12. -/
def SafeSet.capNos (s : SafeSet) (g : Nat) : List Nat := (List.range 13).filter (fun c => s.has 0x22 g (.capLink c))

/-- Link of a capsule; the TCP (13) is fixed to the flange (R130). -/
def SafeSet.capLinkOf (s : SafeSet) (g n c : Nat) : Nat := min n (s.nat 0x22 g (.capLink c) 0)

/-- Capsules of a group at a pose. -/
def capsulesAt (s : SafeSet) (g : Nat) (fs : List Frame) : List SCap :=
  (s.capNos g).map (fun c =>
    let l := s.capLinkOf g fs.length c
    let f := fs.getD (l - 1) {}
    let v := fun (p : Nat → SParam) => (⟨s.get 0x22 g (p 0) 0, s.get 0x22 g (p 1) 0, s.get 0x22 g (p 2) 0⟩ : V3)
    { link := l, p := f.point (v (.capP0 c)), q := f.point (v (.capP1 c)), r := s.get 0x22 g (.capRadius c) 0 })

/-! ### Levers (Table 14-2) -/

/-- Distance of a point from the axis of a frame, nm, rounded up. -/
def axisDist (f : Frame) (p : V3) : Int :=
  let w := p.sub f.o
  let z := w.dot f.cz / 2 ^ 64
  (isqrt (w.dot w - z * z).toNat : Int) + 1

/-- Lever of revolute joint `i` (from 0) for a capsule, mm: the present pose in channel A, REACH in channel B. -/
def lever (s : SafeSet) (chB : Bool) (fs : List Frame) (k i : Nat) (c : SCap) : Rat :=
  if chB then (s.nat 0x23 k .reach 0 : Rat)
  else ((max (axisDist (fs.getD i {}) c.p) (axisDist (fs.getD i {}) c.q) + c.r : Int) : Rat) / 1000000

/-- mm of arm travel per unit of the safe resolution of axis `k`: L_k of R335. -/
def perUnit (s : SafeSet) (k : Nat) (lev : Rat) : Rat :=
  if s.revolute k then (s.get 0x23 k .resolution 0 : Rat) / 2 ^ 24 * twoPi * lev
  else (s.get 0x23 k .resolution 0 : Rat) / 1000000

/-! ### Person volumes (R328, R330, R331) -/

inductive VShape where
  | cyl (x y r : Int) (z0 z1 : Int)
  | prism (poly : List (Int × Int)) (z0 z1 : Int)
deriving DecidableEq, Repr, Inhabited

/-- A person volume: NEAR code (R345), shape in nm, T_r in s, V_H in mm/s, C and Z_d in mm (Table 14-3). -/
structure Vol where
  near : Nat := 0
  shape : VShape := .cyl 0 0 0 0 0
  tr : Rat := 0
  vh : Rat := 0
  c : Rat := 0
  zd : Rat := 0
deriving DecidableEq, Repr, Inhabited

def mm (v : Int) : Int := v * 1000000
def secOf (cycles : Nat) : Rat := (cycles : Rat) / 800000000

/-- Polygon of a zone or coverage (instance of class 0x25), nm. -/
def SafeSet.poly (s : SafeSet) (inst : Nat) : List (Int × Int) :=
  (List.range (s.nat 0x25 inst .polyN 0)).map (fun i => (mm (s.get 0x25 inst (.polyX i) 0), mm (s.get 0x25 inst (.polyY i) 0)))

def SafeSet.floorNm (s : SafeSet) : Int := mm (s.get 0x25 0 .floorZ 0)

/-- T_SENS of a connection's source, with T_RELAY for kind 3, and T_NET (R342). -/
def sensorTime (s : SafeSet) (t : Tm) (src : Nat) (relay : Bool) : Rat :=
  let sens : Rat := (s.nat 0x25 (16 + src) .tSens 0 : Rat) / 1000
  if relay then sens + secOf (t.tSafe + t.tAct + 2 * t.tMajor) else sens + (s.nat 0x25 (16 + src) .tNet 1 : Rat) / 1000

/-- C, Z_D_MIN and V_H of an instance of class 0x25. -/
def volPars (s : SafeSet) (inst : Nat) : Rat × Rat × Rat :=
  (s.nat 0x25 inst .cIntr 850, s.nat 0x25 inst .zdMin 100, s.nat 0x25 inst .vH 1600)

/-- Tracks of one connection. -/
def trackVols (s : SafeSet) (t : Tm) (b : Badger) (c : Nat) : List Vol :=
  let k := b.cn c
  let src := s.nat 0x24 c .source 0
  let p := volPars s (16 + src)
  let tr := sensorTime s t src (decide (s.nat 0x24 c .kind 0 = 3)) + secOf (t.cutoff + t.tMajor + (t.maj - k.commit) * t.tMajor + t.tAct)
  k.tracks.map (fun x =>
    { near := src, tr := tr, vh := p.2.2, c := p.1, zd := max p.2.1 x.unc,
      shape := .cyl (mm x.x) (mm x.y) (mm x.radius) s.floorNm (s.floorNm + mm x.height) })

/-- The safe input that reports presence zone `z`. -/
def zoneInput (s : SafeSet) (z : Nat) : Option Nat := (List.range 8).find? (fun i => decide (s.func i = 0x10 + z))

/-- Volume of presence zone `z`, where occupied. -/
def zoneVol (s : SafeSet) (t : Tm) (b : Badger) (z : Nat) : List Vol :=
  match zoneInput s z with
  | none => []
  | some i =>
    if b.si i then []
    else
      let p := volPars s (1 + z)
      [{ near := 16 + z, vh := p.2.2, c := p.1, zd := p.2.1,
         tr := (s.nat 0x25 (1 + z) .tZone 0 : Rat) / 1000 + (s.nat 0x20 i .siFlt 200 : Rat) / 1000000 + secOf (t.tSafe + t.tAct),
         shape := .prism (s.poly (1 + z)) s.floorNm (mm (s.nat 0x25 (1 + z) .zTop 2500)) }]

/-- Volume of a source's coverage, where occupied: its own T_SENS and T_NET stand in place of the zone's terms. -/
def coverVol (s : SafeSet) (t : Tm) (b : Badger) (src : Nat) : List Vol :=
  if b.cover.testBit src then
    let p := volPars s (16 + src)
    [{ near := 32 + src, vh := p.2.2, c := p.1, zd := p.2.1, tr := sensorTime s t src false + secOf (t.tSafe + t.tAct),
       shape := .prism (s.poly (16 + src)) s.floorNm (mm (s.nat 0x25 (16 + src) .zTop 2500)) }]
  else []

/-- Every person volume of group `g` (R338). -/
def volumes (s : SafeSet) (t : Tm) (b : Badger) (g : Nat) : List Vol :=
  let srcs := (List.range 16).filter (fun x => (s.nat 0x22 g .srcMask 0).testBit x)
  let cs := s.conns.filter (fun c => !s.outbound c && decide (2 ≤ s.nat 0x24 c .kind 0) && srcs.contains (s.nat 0x24 c .source 0xFF))
  cs.flatMap (trackVols s t b)
    ++ ((List.range 8).filter (fun z => (s.nat 0x22 g .zoneMask 0).testBit z)).flatMap (zoneVol s t b)
    ++ srcs.flatMap (coverVol s t b)

/-! ### Distance (R333, R334) -/

/-- Channel A: exact surface distance. -/
def distA (c : SCap) : VShape → Int
  | .cyl x y r z0 z1 => gapMm (segSeg2 c.p c.q ⟨x, y, z0⟩ ⟨x, y, z1⟩) (c.r + r)
  | .prism poly z0 z1 => gapMm (segPrism2 poly z0 z1 c.p c.q) c.r

/-- Centres of the spheres along a capsule's axis, spaced at most `step` nm. -/
def spheres (step : Int) (c : SCap) : List V3 :=
  let v := c.q.sub c.p
  let n : Nat := if step ≤ 0 then 1 else (((v.len : Int) + step) / step).toNat
  (List.range (n + 1)).map (fun (i : Nat) => c.p.add ⟨v.x * (i : Int) / (max 1 n : Nat), v.y * (i : Int) / (max 1 n : Nat), v.z * (i : Int) / (max 1 n : Nat)⟩)

/-- Radius of the spheres: √(RADIUS² + (SPH_STEP ÷ 2)²) rounded up to 1 mm, nm. -/
def sphereR (step : Int) (c : SCap) : Int :=
  ((isqrt (c.r * c.r + step * step / 4).toNat : Int) + 1000000) / 1000000 * 1000000

def flat (v : V3) : V3 := { v with z := 0 }

/-- Channel B: horizontal distance of one swept sphere. -/
def distSphere (r : Int) (p0 p1 : V3) : VShape → Int
  | .cyl x y rad _ _ => gapMm (pointSeg2 ⟨x, y, 0⟩ (flat p0) (flat p1)) (r + rad)
  | .prism poly _ _ =>
    let xs := poly.map (·.1)
    let ys := poly.map (·.2)
    gapMm (segBox2 (xs.foldl min (xs.headD 0)) (xs.foldl max (xs.headD 0)) (ys.foldl min (ys.headD 0)) (ys.foldl max (ys.headD 0)) p0 p1) r

/-- Channel B: distance of a capsule, `prev` its centres in the previous cycle; less the open outward rounding. -/
def distB (step : Int) (slack : Int) (c : SCap) (prev : List V3) (v : VShape) : Int :=
  let now := spheres step c
  let ds := (List.range now.length).map (fun i =>
    let p := now.getD i {}
    distSphere (sphereR step c) (if prev.length = now.length then prev.getD i p else p) p v)
  max 0 (ds.foldl min (ds.headD 0) - slack)

/-! ### Protective separation distance (R335, R336) -/

/-- x_r, x_s (in the resolution) and t_s (s) of one safe axis, by the procedure of R336. -/
def travel (s : SafeSet) (t : Tm) (g k sls : Nat) (v tr : Rat) : Rat × Rat × Rat :=
  let lim : Rat := if vSls s k sls = 0 then s.nat 0x23 k .vMax 0 else vSls s k sls
  let a : Rat := s.nat 0x23 k .aCap 0
  let still : Rat := s.nat 0x23 k .vStill 0
  let dEnv : Rat := s.nat 0x23 k .dEnv 1
  let lag : Rat := (s.nat 0x22 g .tLag 25 : Rat) / 1000
  let tail : Rat := ((s.nat 0x22 g .stillFrames 2 + 1 : Nat) : Rat) * secOf t.tSafe
  let r : Rat × Rat :=
    if lim ≤ v then (v, v * tr)
    else if v + a * tr ≤ lim then (v + a * tr, v * tr + a * tr * tr / 2)
    else
      let t1 := (lim - v) / a
      (lim, v * t1 + a * t1 * t1 / 2 + lim * (tr - t1))
  let u := r.1 + s.nat 0x23 k .vTol 0
  (r.2, u * lag + (u * u - still * still) / (2 * dEnv) + still * tail, lag + max 0 (u - still) / dEnv + tail)

/-- v_now of a capsule: Σ L_k × |v_k| over the joints up to its link, mm/s. -/
def vNow (s : SafeSet) (b : Badger) (chB : Bool) (fs : List Frame) (ks : List Nat) (c : SCap) : Rat :=
  ((List.range (min c.link ks.length)).map (fun i =>
    let k := ks.getD i 0
    perUnit s k (lever s chB fs k i c) * absR (b.axis k).speed)).sum

/-- S_p of a capsule and a volume (Table 14-3), mm, given |v| of each axis and the levers. -/
def sepDist (s : SafeSet) (t : Tm) (g sls : Nat) (speed : Nat → Rat) (per : Nat → Nat → Rat) (link : Nat) (v : Vol) : Rat :=
  let ks := s.jointAxes g
  let ts := ((s.axesOf g).map (fun k => (travel s t g k sls (speed k) v.tr).2.2)).foldl max 0
  let js := (List.range (min link ks.length)).map (fun i => (i, ks.getD i 0))
  let sr := (js.map (fun j => per j.1 j.2 * (travel s t g j.2 sls (speed j.2) v.tr).1)).sum
  let ss := (js.map (fun j => per j.1 j.2 * (travel s t g j.2 sls (speed j.2) v.tr).2.1)).sum
  let vn := (js.map (fun j => per j.1 j.2 * speed j.2)).sum
  v.vh * (v.tr + ts) + sr + ss + v.c + v.zd + (s.nat 0x22 g .zR 20 : Rat) + vn * secOf (t.tMajor + t.cutoff)

/-- Margin of one capsule and volume: ⌊d − S_p⌋, S_p rounded up, NEAR. -/
abbrev Margin := Int × Int × Nat

/-- The smaller margin. -/
def minMargin (a b : Margin) : Margin := if b.1 < a.1 then b else a

/-- The margin of group `g` in a channel (R338), its Cartesian speed (R339), and the sphere centres for the next cycle.
A joint without a position gives distance 0. -/
def margins (s : SafeSet) (t : Tm) (chB : Bool) (g : Nat) (b : Badger) : Margin × Rat × List (List V3) :=
  let ks := s.jointAxes g
  let vols := volumes s t b g
  match linkFrames s b (s.baseFrame g) ks with
  | none => (match vols with | [] => (0x7FFF, 0, 0xFF) | v :: _ => (-0x8000, 0, v.near), 0, [])
  | some fs =>
    let caps := capsulesAt s g fs
    let step := mm (s.nat 0x25 0 .sphStep 50)
    let old := (tget [] b.centres g).map (fun l => (⟨l.getD 0 0, l.getD 1 0, l.getD 2 0⟩ : V3))
    let slack : Int := (Config.roundOut (b.cycle * 9 + g) % 2 : Nat)
    let counts := caps.map (fun c => (spheres step c).length)
    let one := fun (i : Nat) (v : Vol) =>
      let c := caps.getD i {}
      let per := fun j k => perUnit s k (lever s chB fs k j c)
      let sp := sepDist s t g (b.g g).sls (fun k => absR (b.axis k).speed) per c.link v
      let d := if chB then distB step slack c ((old.drop ((counts.take i).sum)).take (counts.getD i 0)) v.shape else distA c v.shape
      (((d : Rat) - sp).floor, sp.ceil, v.near)
    let all := (List.range caps.length).flatMap (fun i => vols.map (one i))
    let vc := (caps.map (vNow s b chB fs ks)).foldl max 0
    (all.foldl minMargin (0x7FFF, 0, 0xFF), vc, caps.map (spheres step))

/-! ### Zones (R338 to R340) -/

/-- Zone that a margin gives (Table 14-4). -/
def zoneOf (s : SafeSet) (g : Nat) (m : Int) : SepZone :=
  if m < 0 then .stop
  else if m < s.nat 0x22 g .mRed 150 then .reduced
  else if m < s.nat 0x22 g .mWarn 400 then .warning
  else .clear

/-- SEP_CLEAR cycles at or above SEP_HYST have passed: the group leaves STOP (R338). -/
def sepClear (s : SafeSet) (g : Nat) (b : Badger) : Badger :=
  let x := b.g g
  if x.zone = .stop && decide (s.nat 0x22 g .sepClear 4 ≤ x.clr) then
    b.setG g { x with zone := zoneOf s g x.margin, clr := 0 }
  else b

/-- The channel's own zone in a cycle. -/
def ownZone (s : SafeSet) (g : Nat) (b : Badger) : Badger :=
  let x := b.g g
  let c := zoneOf s g x.margin
  let hyst : Int := s.nat 0x22 g .sepHyst 50
  if x.zone.rank ≤ c.rank then b.setG g { x with zone := c, clr := 0 }
  else match x.zone with
    | .stop => if hyst ≤ x.margin then sepClear s g (b.setG g { x with clr := x.clr + 1 }) else b.setG g { x with clr := 0 }
    | .reduced => if s.nat 0x22 g .mRed 150 + hyst ≤ x.margin then b.setG g { x with zone := c } else b
    | .warning => if s.nat 0x22 g .mWarn 400 + hyst ≤ x.margin then b.setG g { x with zone := c } else b
    | .clear => b

/-- The zone in force: the stricter of the two channels' zones. -/
def applyZone (g : Nat) (at_ : Nat) (peer : SepZone) (b : Badger) : Badger × List BEv :=
  let x := b.g g
  let z := strictZ x.zone peer
  if z = x.zoneIn then (b, [])
  else
    (b.setG g { x with zoneIn := z, redAt := if z = .reduced then at_ else x.redAt },
      (0x5051, g, g, x.zoneIn.rank, z.rank) :: (if z = .stop then [(0x5050, g, g, x.margin, x.near)] else []))

/-- V_RED is exceeded from RED_DELAY after the entry to REDUCED (R338, R339). -/
def redDelay (s : SafeSet) (g at_ : Nat) (b : Badger) : Badger × List BEv :=
  let x := b.g g
  let v := s.nat 0x22 g .vRed 250
  if x.zoneIn = .reduced && decide (v ≠ 0) && decide (x.redAt + s.nat 0x22 g .redDelay 100 * 800000 ≤ at_)
      && decide ((v : Rat) < x.vcart) then
    (wantD b g .ss1 7 true, if x.st = .released then [(0x5052, g, g, x.vcart.floor, v)] else [])
  else (b, [])

/-- Demands of the separation functions (R338 to R340): row 7, and V_CART of the limit set, row 6. -/
def sepDemands (s : SafeSet) (g at_ : Nat) (b : Badger) : Badger × List BEv :=
  let x := b.g g
  let b1 := if x.zoneIn = .stop then wantD b g .ss1 7 (decide (s.nat 0x22 g .sepRestart 1 = 0)) else b
  let r := redDelay s g at_ b1
  let vc := vCart s g x.sls
  if decide (vc ≠ 0) && decide ((vc : Rat) < x.vcart) then
    (wantD r.1 g (ofReact (s.nat 0x22 g .slsReact 0)) 6 true,
      r.2 ++ (if x.st = .released then [((0x5004, g, (g : Int), 255, (x.sls : Int)) : BEv)] else []))
  else r

/-- Groups monitored. -/
def SafeSet.ssm (s : SafeSet) (g : Nat) : Bool := decide (s.nat 0x22 g .ssmEn 0 = 1)
def SafeSet.ssmGroups (s : SafeSet) : List Nat := (List.range 8).filter s.ssm

/-- Margin, Cartesian speed and own zone of a group in a cycle. -/
def sepStep (s : SafeSet) (t : Tm) (chB : Bool) (b : Badger) (g : Nat) : Badger :=
  let r := margins s t chB g b
  let b1 := b.setG g { b.g g with margin := clampI (-0x8000) 0x7FFF r.1.1, sp := r.1.2.1, near := r.1.2.2, vcart := r.2.1 }
  ownZone s g { b1 with centres := tset [] b1.centres g (r.2.2.flatMap (fun l => l.map (fun v => [v.x, v.y, v.z]))) }

/-! ### Setting Lynx against the Badgers (R341) -/

/-- Badger B's largest S_p of group `g` with every joint at rest or at V_MAX, over its sources, zones and capsules, and the
fastest point speed of a capsule, mm and mm/s. -/
def lynxSp (s : SafeSet) (t : Tm) (g : Nat) (top : Bool) : Rat × Rat :=
  let ks := s.jointAxes g
  let speed := fun k => if top then (s.nat 0x23 k .vMax 0 : Rat) else 0
  let per := fun (_ : Nat) k => perUnit s k (s.nat 0x23 k .reach 0 : Rat)
  let p := fun inst near tr => let q := volPars s inst
    ({ near := near, vh := q.2.2, c := q.1, zd := q.2.1, tr := tr } : Vol)
  let vs := (((List.range 16).filter (fun x => (s.nat 0x22 g .srcMask 0).testBit x)).map (fun x =>
      p (16 + x) x (sensorTime s t x false + secOf (t.cutoff + t.tSafe + t.tAct))))
    ++ ((List.range 8).filter (fun z => (s.nat 0x22 g .zoneMask 0).testBit z)).map (fun z =>
      p (1 + z) (16 + z) ((s.nat 0x25 (1 + z) .tZone 0 : Rat) / 1000
        + (match zoneInput s z with | some i => (s.nat 0x20 i .siFlt 200 : Rat) / 1000000 | none => 0) + secOf (t.tSafe + t.tAct)))
  let links := (s.capNos g).map (s.capLinkOf g ks.length)
  let sps := links.flatMap (fun l => vs.map (sepDist s t g 0 speed per l))
  let vps := links.map (fun l => ((ks.take l).map (fun k => per 0 k * speed k)).sum)
  (sps.foldl max 0, vps.foldl max 0)

/-- Shortfall in mm of one inequality of R341, rounded up; 0 or less where it holds. `d` is D_STOP or D_FREE, nm. -/
def lynxShort (s : SafeSet) (t : Tm) (g : Nat) (top : Bool) (d margin : Rat) : Int :=
  let r := lynxSp s t g top
  let slack : Rat := (s.nat 0x25 0 .sphStep 50 : Rat) / 2 + r.2 * secOf t.tSafe + 1
  (r.1 + (s.nat 0x22 g .mRed 150 : Rat) + slack - (d + margin) / 1000000).ceil

end Sys2Proof.Machine
end

