-- ==== Sys2Proof/Machine/Badgers.lean ====
section
/-!
DEFINITION. The pair of Badgers and the motion die's side of them: the cycle with its exchange, outputs and test pulses,
cross-comparison, safe messages, the safety-parameter set, the status mirror (chapters 13 and 14).
-/
namespace Sys2Proof.Machine

/-! ### Events and the motion die -/

/-- SAFE_FLAGS and SEP_FLAGS bits of a record code, as fields (R327, R345). -/
def safeFlagOf (e : BEv) : List Fld :=
  match e.1 with
  | 0x5030 => [.SAFE_FLAGS_TICK_LOST]
  | 0x5002 => [.SAFE_FLAGS_ENVELOPE]
  | 0x5012 => [.SAFE_FLAGS_EDM]
  | 0x5011 => [.SAFE_FLAGS_TEST_PULSE]
  | 0x5003 => [.SAFE_FLAGS_SPOS_STALE]
  | 0x5020 => [.SAFE_FLAGS_CONN_TIMEOUT]
  | 0x5050 => [.SEP_FLAGS_STOP]
  | 0x5052 => [.SEP_FLAGS_SPEED_RED]
  | 0x5053 => [.SEP_FLAGS_ACCEL]
  | 0x5054 => if e.2.2.2.1 ≠ 0 then [.SEP_FLAGS_COVERAGE] else []
  | 0x5055 => [.SEP_FLAGS_TRACK_REJECT]
  | _ => []

/-- Reports of the Badgers reach the recorder and the mirror's flags; both channels' report of one event is one record. -/
def Dev.badgerEvents (d : Dev) (l : List BEv) : Dev :=
  forEach l.eraseDups (fun d e =>
    forEach (safeFlagOf e) (fun d f => d.setB f true) (d.raiseNext e.1 e.2.1 e.2.2.1 e.2.2.2.1 e.2.2.2.2)) d

/-- Channel 0 is Badger A, 1 Badger B. -/
def Safety.ch (s : Safety) (n : Nat) : Badger := if n = 0 then s.a else s.b
def Safety.setCh (s : Safety) (n : Nat) (b : Badger) : Safety := if n = 0 then { s with a := b } else { s with b := b }

/-- Outputs that read on: both switches on, no pulse, VSOUT present (R20, R310, R464). -/
def Safety.outputsOn (s : Safety) : Nat :=
  if s.vsoutLow then 0
  else mask8 (fun o => s.a.sw.testBit o && s.b.sw.testBit o && !s.a.pulse.testBit o && !s.b.pulse.testBit o)

/-- State of a group in force (R307). -/
def Safety.applied (s : Safety) (g : Nat) : SState := strictS (s.a.g g).st (s.b.g g).st

/-- Timing of the cycle that starts at `at_`. -/
def Dev.tm (d : Dev) (at_ : Nat) : Tm :=
  { at_ := at_, maj := d.esc.maj, tMinor := d.tMinor, m := d.M, s := d.S, cutoff := d.f .RMT_CFG_CUTOFF_US * 800 }

/-! ### One cycle of the pair (R299 to R302, R307) -/

/-- Latching at the start of a cycle, and the ticks (R299, R301). -/
def Badger.latch (b : Badger) (chB : Bool) (t : Tm) (edm : Nat) (replayIn : Option Nat) : Badger :=
  let inTime := if b.lostNow then 0 else min 16 (b.inTime + 1)
  { b with cycle := b.cycle + 1, frame := t.maj, start := t.at_, edm := edm,
           latched := match replayIn with | some v => v % 256 | none => mask8 (siLatch b chB),
           lost := if b.lostNow then b.lost else 0, inTime := inTime, lostNow := false,
           tickHold := b.tickHold && decide (inTime < 16) }

/-- A latched fault other than ACCEL takes its group to STO (Table 13-4, row 5). -/
def latchedDemand (b : Badger) (g : Nat) : Badger :=
  let x := b.g g
  if ({ x.faults with accel := false } : SFaults).any && decide (x.st ≠ .sto) then wantD b g .sto 5 true else b

/-- What a channel finds and demands by itself in a cycle. -/
def evaluate (s : SafeSet) (t : Tm) (chB : Bool) (peer : Nat) (items : List Black) (ss1Req : Nat) (line : Bool) (b : Badger) :
    Badger × List BEv :=
  let b := forEach groupOrder (fun x g => x.setG g { x.g g with own := .none, ownRow := 0, rows := 0, rowsWas := (x.g g).rows }) b
  let r := runEv (List.range 8) (discStep s t peer chB) (b, [])
  let r := (forEach (List.range 8) (fun x i => resetInput s t i x) r.1, r.2)
  let m := messages s t items r.1
  let r := runEv (List.range 16) (coverStep s) (m.1, r.2 ++ m.2)
  let r := runEv s.axes (axisStep s t items) r
  let b := otherDemands s ss1Req line (inputDemands s r.1)
  let b := forEach groupOrder latchedDemand b
  let b := forEach groupOrder (slsStep s t) b
  let r := runEv groupOrder (slsCheck s) (b, r.2)
  let r := runEv groupOrder (accelCheck s t) r
  let r := runEv groupOrder (envStep s t) r
  (forEach s.ssmGroups (sepStep s t chB) r.1, r.2)

/-- The stricter demand of the two channels applies (R302). -/
def mergeDemand (peer : Badger) (b : Badger) : Badger :=
  forEach groupOrder (fun x g =>
    let o := x.g g
    let p := peer.g g
    x.setG g { o with demand := strictD o.own p.own, rows := o.rows ||| p.rows,
                      row := if o.own.rank < p.own.rank then p.ownRow else o.ownRow }) b

/-- Decision: EDM timers, the group machines, the switches wanted. -/
def decideGroups (s : SafeSet) (t : Tm) (b : Badger) : Badger × List BEv :=
  let r := runEv (List.range 8) (edmLate s t) (b, [])
  let r := runEv groupOrder (groupStep s t) r
  ({ r.1 with want := wantSw s r.1 }, r.2)

/-- Zones exchanged, and the separation demands (R338). -/
def zonesAndDemands (s : SafeSet) (at_ : Nat) (peer : Badger) (b : Badger) : Badger × List BEv :=
  let r := runEv s.ssmGroups (fun g x => applyZone g at_ (peer.g g).zone x) (b, [])
  runEv s.ssmGroups (fun g x => sepDemands s g at_ x) r

/-- The set in force, where the channel evaluates. -/
def Badger.active (b : Badger) (t : Tm) : Option SafeSet := if b.st = .active && t.lengthOk then b.set else none

/-- Both channels through one cycle. -/
def pairCycle (t : Tm) (items : List Black) (ss1Req : Nat) (line : Bool) (a b : Badger) : (Badger × Badger) × List BEv :=
  match a.active t, b.active t with
  | some sa, some sb =>
    let ra := evaluate sa t false b.latched items ss1Req line a
    let rb := evaluate sb t true a.latched items ss1Req line b
    let za := zonesAndDemands sa t.at_ rb.1 ra.1
    let zb := zonesAndDemands sb t.at_ ra.1 rb.1
    let ga := decideGroups sa t (mergeDemand zb.1 za.1)
    let gb := decideGroups sb t (mergeDemand za.1 zb.1)
    ((ga.1, gb.1), ra.2 ++ rb.2 ++ za.2 ++ zb.2 ++ ga.2 ++ gb.2)
  | _, _ =>
    let ra := allSto a 5
    let rb := allSto b 5
    (({ ra.1 with want := 0 }, { rb.1 with want := 0 }), ra.2 ++ rb.2)

/-- The set committed is taken by both Badgers in the same cycle (R323). -/
def takeStaged (b : Blk) : Blk :=
  match b.saf.staged with
  | none => b
  | some s =>
    let ra := activate s b.saf.a
    let rb := activate s b.saf.b
    { b with saf := { b.saf with a := { ra.1 with stored := some s.sig }, b := { rb.1 with stored := some s.sig }, staged := none },
             dev := (b.dev.badgerEvents (ra.2 ++ rb.2)).raiseNext 0x5040 0xFFFF s.serial s.sig 0 }

/-! ### Status mirror (R327, R345) -/

def mirrorChannel (n : Nat) (b : Badger) (d : Dev) : Dev :=
  let d := d.setF (.SAFE_CH_STATUS_STATE n) b.st.code
  let d := d.setB (.SAFE_CH_STATUS_TICK_OK n) (decide (0 < b.inTime))
  let d := d.setB (.SAFE_CH_STATUS_SET_VALID n) (decide (b.st = .active))
  let d := d.setF (.SAFE_CH_STATUS_FAULT n) b.cause
  let d := d.setF (.SAFE_CH_SIG_SIG n) (match b.set with | some s => s.sig | none => 0)
  let d := d.setF (.SAFE_CH_FRAME_MAJ n) b.frame
  let d := d.setF (.SAFE_CH_IN_LEVEL n) b.latched
  let d := d.setF (.SAFE_CH_IN_DISC n) b.disc
  let d := d.setF (.SAFE_CH_IN_EDM n) b.edm
  d.setF (.SAFE_CH_IN_SW n) b.sw

def mirrorGroup (s : Safety) (d : Dev) (g : Nat) : Dev :=
  let a := s.a.g g
  let b := s.b.g g
  let d := d.setF (.SAFE_GRP_STATE_A g) a.st.code
  let d := d.setF (.SAFE_GRP_STATE_B g) b.st.code
  let d := d.setF (.SAFE_GRP_APPLIED g) (s.applied g).code
  let d := d.setB (.SAFE_GRP_FAULT g) (a.faults.any || b.faults.any)
  let d := d.setB (.SAFE_GRP_RESET_WAIT g) (a.needReset || b.needReset)
  let d := d.setF (.SAFE_GRP_CAUSE g) a.cause
  d.setF (.SAFE_GRP_SLS g) a.sls

def mirrorSep (s : Safety) (set : SafeSet) (d : Dev) (g : Nat) : Dev :=
  let a := s.a.g g
  let b := s.b.g g
  let d := d.setF (.SEP_GRP_STATUS_ZONE_A g) a.zone.rank
  let d := d.setF (.SEP_GRP_STATUS_ZONE_B g) b.zone.rank
  let d := d.setF (.SEP_GRP_STATUS_APPLIED g) (strictZ a.zone b.zone).rank
  let d := d.setB (.SEP_GRP_STATUS_EN g) (set.ssm g)
  let d := d.setB (.SEP_GRP_STATUS_ACCEL g) (a.faults.accel || b.faults.accel)
  let d := d.setF (.SEP_GRP_STATUS_NEAR g) (if b.margin < a.margin then b.near else a.near)
  let d := d.setS (.SEP_GRP_MARGIN_MARGIN_A g) a.margin
  let d := d.setS (.SEP_GRP_MARGIN_MARGIN_B g) b.margin
  let d := d.setF (.SEP_GRP_SP_SP_A g) (min 65535 a.sp.toNat)
  let d := d.setF (.SEP_GRP_SP_SP_B g) (min 65535 b.sp.toNat)
  let d := d.setF (.SEP_GRP_VCART_V_A g) (min 65535 a.vcart.floor.toNat)
  d.setF (.SEP_GRP_VCART_V_B g) (min 65535 b.vcart.floor.toNat)

/-- Inbound connections of a source. -/
def SafeSet.connsOfSource (s : SafeSet) (src : Nat) : List Nat :=
  s.conns.filter (fun c => !s.outbound c && decide (2 ≤ s.nat 0x24 c .kind 0) && decide (s.nat 0x24 c .source 0xFF = src))

/-- The connection of a source with the newest message. -/
def newestOf (s : SafeSet) (b : Badger) (src : Nat) : Option Nat :=
  (s.connsOfSource src).foldl (fun best c =>
    if (b.cn c).payload.isEmpty then best
    else match best with
      | none => some c
      | some k => if (b.cn k).commit < (b.cn c).commit then some c else some k) none

def mirrorSource (s : Safety) (set : SafeSet) (d : Dev) (src : Nat) : Dev :=
  let cs := set.connsOfSource src
  let ok := !cs.isEmpty && cs.all (fun c => (s.a.cn c).last.isSome && !(s.a.cn c).expired && (s.a.cn c).sensorOk)
  let k := match newestOf set s.a src with | some c => s.a.cn c | none => {}
  let d := d.setB (.SEP_SRC_OK src) ok
  let d := d.setB (.SEP_SRC_COVER_OCC src) (s.a.cover.testBit src)
  let d := d.setF (.SEP_SRC_TRACKS src) (min 3 k.tracks.length)
  d.setF (.SEP_SRC_AGE src) k.age

def mirrorConn (s : Safety) (d : Dev) (c : Nat) : Dev :=
  let k := s.a.cn c
  let d := d.setB (.SAFE_CONN_ACCEPTED c) k.accepted
  let d := d.setB (.SAFE_CONN_EXPIRED c) k.expired
  d.setF (.SAFE_CONN_SEQ c) (k.last.getD (d.f (.SAFE_CONN_SEQ c)))

/-- The motion die fills the mirror from the Badgers' reports. -/
def mirror (s : Safety) (d : Dev) : Dev :=
  let d := mirrorChannel 1 s.b (mirrorChannel 0 s.a d)
  let d := forEach groupOrder (mirrorGroup s) d
  match s.a.set with
  | none => d
  | some set =>
    let d := { d with bad := { d.bad with serial := set.serial } }
    let d := forEach (List.range 8) (mirrorSep s set) d
    let d := forEach (List.range 16) (mirrorSource s set) d
    forEach set.conns (mirrorConn s) d

/-- Discards of the cycle, as Badger A reports them. -/
def reportDiscards (s : Safety) (d : Dev) : Dev :=
  match s.a.set with
  | none => d
  | some set => forEach set.conns (fun d c => d.count (.SAFE_CONN_DISCARDS c) (s.a.cn c).discards) d

/-- Discards counted once have been reported. -/
def clearDiscards (b : Badger) : Badger := { b with conn := b.conn.map (fun e => (e.1, { e.2 with discards := 0 })) }

/-! ### Outbound safe messages (R318, R320, R342) -/

/-- Status payload of kind 1 (Table 13-8) as one channel computes it. -/
def statusPayload (s : Safety) (b : Badger) : List Byte :=
  let gs := ((List.range 9).map (fun g => (s.applied g).code * 4 ^ g)).sum
  let fl := mask8 (fun g => (s.a.g g).faults.any || (s.b.g g).faults.any)
  let f8 := ((s.a.g 8).faults.any || (s.b.g 8).faults.any).toNat
  le 3 gs ++ le 1 fl ++ le 1 (f8 + 2 * (decide (b.st = .fault)).toNat) ++ le 1 s.a.latched ++ le 1 s.b.latched ++ le 1 s.outputsOn
    ++ le 4 (match b.set with | some x => x.sig | none => 0) ++ le 4 (match b.set with | some x => x.serial | none => 0)
    ++ le 6 b.frame ++ le 2 0

/-- Relay payload of kind 3: the newest accepted message of the source, SOURCE set (R342). -/
def relayPayload (s : SafeSet) (b : Badger) (src : Nat) : Option (List Byte) :=
  (newestOf s b src).map (fun c =>
    let k := b.cn c
    k.payload.take 1 ++ le 1 (src + (if k.sensorOk && !b.cover.testBit src then 128 else 0)) ++ k.payload.drop 2)

/-- Payload of outbound connection `c` in one channel. -/
def outPayload (s : Safety) (b : Badger) (c : Nat) : Option (List Byte) :=
  match b.set with
  | none => none
  | some set => if set.nat 0x24 c .kind 0 = 1 then some (statusPayload s b) else relayPayload set b (set.nat 0x24 c .relaySrc 0)

/-- A PDU (Table 13-6). -/
def safePdu (set : SafeSet) (c seq : Nat) (copyB : Bool) (p : List Byte) : List Byte :=
  let ident := set.nat 0x24 c .connId 0
  let head := le 4 ident ++ le 2 seq ++ le 1 p.length ++ le 1 copyB.toNat ++ p
  let seed := if copyB then set.nat 0x25 0 .seedB 0 else set.nat 0x25 0 .seedA 0
  head ++ le 4 (crcSafe (seed ^^^ ident) head)

/-- The PDU in an Ethernet frame: VLAN tag where the set gives one, EtherType, padding to the Ethernet minimum. -/
def safeFrameBytes (set : SafeSet) (pdu : List Byte) : List Byte :=
  if set.has 0x25 0 .vlan then be 2 0x8100 ++ be 2 (set.nat 0x25 0 .vlan 0) ++ be 2 0x88B5 ++ padTo 42 pdu
  else be 2 0x88B5 ++ padTo 46 pdu

/-- An outbound connection sends its two copies where TX_PER cycles have passed; where the payloads differ, neither is sent
(R302). -/
def safeSend (c : Nat) (b : Blk) : Blk :=
  match b.saf.a.set, b.saf.b.set with
  | some sa, some sb =>
    let ka := b.saf.a.cn c
    if sa.outbound c && sa.conns.contains c && decide (b.saf.a.st = .active) && decide (b.saf.b.st = .active)
        && (decide (ka.txCycle = 0) || decide (ka.txCycle + sa.nat 0x24 c .txPer 4 ≤ b.saf.a.cycle)) then
      match outPayload b.saf b.saf.a c, outPayload b.saf b.saf.b c with
      | some pa, some pb =>
        let adv := fun (x : Badger) => x.setCn c { x.cn c with txSeq := ((x.cn c).txSeq + 1) % 65536, txCycle := x.cycle }
        let saf := { b.saf with a := adv b.saf.a, b := adv b.saf.b }
        if pa ≠ pb then { b with saf := saf }
        else
          let ca := safePdu sa c ka.txSeq false pa
          let cb := safePdu sb c ka.txSeq true pb
          if sa.nat 0x24 c .kind 0 = 3 then
            { b with saf := saf, dev := { b.dev with bad := { b.dev.bad with relay := b.dev.bad.relay ++ [(false, ca), (true, cb)] } } }
          else
            { b with saf := saf, dev := (b.dev.emit (.safeCopy 2 c (safeFrameBytes sa ca))).emit (.safeCopy 3 c (safeFrameBytes sb cb)) }
      | _, _ => b
    else b
  | _, _ => b

/-! ### Commands of the pair -/

/-- A safety cycle starts at `at_` in both Badgers; `edm`: EDM inputs reading open. -/
def badgerCycle (at_ edm : Nat) (b : Blk) : Blk :=
  let b := takeStaged b
  let d := b.dev
  let t := d.tm at_
  let due := fun (x : Black) => match x with | .field c .. => decide (c ≤ t.maj) | .copy c .. => decide (c ≤ t.maj)
  let items := d.bad.black.filter due
  let a0 := if b.saf.a.on then b.saf.a.latch false t edm (d.bad.replayIn.map (·.1)) else b.saf.a
  let b0 := if b.saf.b.on then b.saf.b.latch true t edm (d.bad.replayIn.map (·.2)) else b.saf.b
  let r := pairCycle t items d.bad.ss1Req d.bad.line a0 b0
  let saf := { b.saf with a := r.1.1, b := r.1.2 }
  let d := { d with bad := { d.bad with black := d.bad.black.filter (fun x => !due x), replayIn := none, ss1Req := 0,
                                        reports := d.bad.reports ++ r.2 } }
  let b := { b with dev := d, saf := saf }
  match b.saf.a.set with
  | some s => forEach (s.conns.filter s.outbound) (fun x c => safeSend c x) b
  | none => b

/-- No tick at the expected instant: channel `n` counts it and starts its next cycle by itself (R299). -/
def tickLost (n : Nat) (b : Blk) : Blk :=
  let x := b.saf.ch n
  if x.on then
    let x := { x with lost := x.lost + 1, inTime := 0, lostNow := true, tickHold := x.tickHold || decide (2 ≤ x.lost + 1) }
    { b with saf := b.saf.setCh n x,
             dev := (b.dev.badgerEvents [(0x5030, n, n, x.lost, 0)]).setB (.SAFE_CH_STATUS_TICK_OK n) false }
  else b

/-- End of evaluation of channel `n`: its switches as it decided; the motion die learns of the demands and of what the cycle reports
(R19, R300, R327). -/
def evaluationEnd (n at_ : Nat) (b : Blk) : Blk :=
  let x := b.saf.ch n
  let replay := match b.dev.img.run with | some i => i.replay | none => false
  let sw := if x.st = .active && !replay then x.want else 0
  let offs := forEach (List.range 8) (fun l o => if x.sw.testBit o && !sw.testBit o then tset 0 l o (at_ + 1) else l) x.offAt
  let x := { x with sw := sw, pulse := mask8 (fun o => x.pulse.testBit o && sw.testBit o), offAt := offs }
  let saf := b.saf.setCh n x
  let gm := fun (p : SState) => ((groupOrder.filter (fun g => decide (saf.applied g = p))).map (fun g => 2 ^ g)).sum
  let d := mirror saf (b.dev.badgerEvents b.dev.bad.reports)
  let d := if n = 0 then reportDiscards saf d else d
  { b with saf := saf.setCh n (clearDiscards x),
           dev := { d with bad := { d.bad with ss1 := gm .ss1, sto := gm .sto, released := gm .released, learned := true, reports := [] } } }

/-- Channel fault of both Badgers (R303). -/
def pairFault (cause : Nat) (b : Blk) : Blk :=
  let ra := channelFault cause b.saf.a
  let rb := channelFault cause b.saf.b
  let saf := { b.saf with a := ra.1, b := rb.1 }
  { b with saf := saf, dev := mirror saf (b.dev.badgerEvents (ra.2 ++ rb.2)) }

/-- Comparison of the channels (R302): a message received in order or not, then its frame number and signature. -/
def crossCompare (okA okB : Bool) (b : Blk) : Blk :=
  let a := b.saf.a
  let c := b.saf.b
  let alive := fun (x : Badger) => x.on && decide (x.st ≠ .fault) && decide (x.st ≠ .init)
  let gotA := okA && alive c
  let gotB := okB && alive a
  let a := { a with cmpMiss := if gotA then 0 else a.cmpMiss + 1 }
  let c := { c with cmpMiss := if gotB then 0 else c.cmpMiss + 1 }
  let b := { b with saf := { b.saf with a := a, b := c } }
  let fault := fun (cause row : Nat) => pairFault cause { b with dev := b.dev.raiseNext 0x5031 0xFFFF row (a.frame % 2 ^ 32) (c.frame % 2 ^ 32) }
  if alive a && alive c && gotA && gotB && decide (a.frame ≠ c.frame) then fault 1 1
  else if alive a && alive c && gotA && gotB && decide (a.set.map (·.sig) ≠ c.set.map (·.sig)) then fault 2 2
  else if (alive a && decide (2 ≤ a.cmpMiss)) || (alive c && decide (2 ≤ c.cmpMiss)) then fault 3 7
  else b

/-- Supply (4) or oscillator (5) fault of safety die `n` (R303): it acts at once; its demands are reported as latched in the next
cycle (R301). -/
def badgerFault (n cause : Nat) (b : Blk) : Blk :=
  let r := channelFault cause (b.saf.ch n)
  let saf := b.saf.setCh n r.1
  let d := b.dev.raiseNext 0x5032 n n cause 0
  { b with saf := saf, dev := mirror saf { d with bad := { d.bad with reports := d.bad.reports ++ r.2 } } }

/-- A change of the applied level of a safe input channel (R305). -/
def safeInputChange (i n : Nat) (level : Bool) (us : Nat) (b : Blk) : Blk :=
  { b with saf := b.saf.setCh n (siChange (b.saf.ch n) i level us) }

/-- A test-pulse fault of output `o` (R310), kind 1 to 3: the pulsing Badger keeps its switch off. -/
def testPulseFault (n o kind : Nat) (b : Blk) : Blk :=
  let x := b.saf.ch n
  match x.set with
  | none => b
  | some s =>
    let x := { x with stuck := x.stuck ||| 2 ^ o, sw := if x.sw.testBit o then x.sw - 2 ^ o else x.sw,
                      pulse := if x.pulse.testBit o then x.pulse - 2 ^ o else x.pulse }
    let g := s.nat 0x21 o .outGroup 0xFF
    { b with saf := b.saf.setCh n (if g ≤ 8 then latchFault x g (fun f => { f with tp := true }) else x),
             dev := b.dev.badgerEvents [(0x5011, o, o, n, kind)] }

/-- Channel `n` opens its switch of output `o`, which is on (R310). -/
def testPulseStart (n o : Nat) (b : Blk) : Blk :=
  let x := b.saf.ch n
  if x.st = .active && x.sw.testBit o then { b with saf := b.saf.setCh n { x with pulse := x.pulse ||| 2 ^ o } } else b

/-- The last 100 µs of a pulse: `on`, outputs reading on. -/
def testPulseCheck (n o on : Nat) (b : Blk) : Blk :=
  if (b.saf.ch n).pulse.testBit o then
    let on := if b.saf.vsoutLow then 0 else on
    if on.testBit o then testPulseFault n o 1 b
    else if (List.range 8).any (fun k => decide (k ≠ o) && b.saf.a.sw.testBit k && b.saf.b.sw.testBit k && !on.testBit k) then
      testPulseFault n o 2 b
    else b
  else b

/-- The end of a pulse: the switch closes again, or does not. -/
def testPulseEnd (n o : Nat) (closed : Bool) (b : Blk) : Blk :=
  let x := b.saf.ch n
  if x.pulse.testBit o then
    if closed then { b with saf := b.saf.setCh n { x with pulse := x.pulse - 2 ^ o } } else testPulseFault n o 3 b
  else b

/-- An event of one channel as a row of its own: `f` on channel `n` with the active set. -/
def badgerEvent (n : Nat) (f : SafeSet → Badger → Badger × List BEv) (b : Blk) : Blk :=
  match (b.saf.ch n).set with
  | none => b
  | some s =>
    if (b.saf.ch n).st = .active then
      let r := f s (b.saf.ch n)
      let saf := b.saf.setCh n r.1
      { b with saf := saf, dev := mirror saf (b.dev.badgerEvents r.2) }
    else b

/-- A supply of the safe outputs (R464). -/
def vsout (low : Bool) (b : Blk) : Blk := { b with saf := { b.saf with vsoutLow := low } }

/-- Safety die `n` leaves reset: INIT, switches off (R325); this ends a FAULT (R303). -/
def safetyDieRelease (n : Nat) (b : Blk) : Blk :=
  let saf := b.saf.setCh n { on := true, stored := (b.saf.ch n).stored }
  { b with saf := saf, dev := mirror saf b.dev }

/-- The power-on self-test of Badger `n` ends (Table 13-13). -/
def badgerSelftestEnd (n : Nat) (passed : Bool) (b : Blk) : Blk :=
  let x := b.saf.ch n
  if x.on && decide (x.st = .init) then
    if passed then
      let saf := b.saf.setCh n { x with st := .waitSet }
      { b with saf := saf, dev := mirror saf b.dev }
    else badgerFault n 6 b
  else b

/-! ### The safety-parameter set (R322 to R325) -/

/-- Allowed values of a parameter (Tables 13-11 and 14-7); none where any value of its width is allowed. -/
def parRange (s : SafeSet) (inst : Nat) (p : SParam) : Option (Int × Int) :=
  match p with
  | .func => some (0, 0x17) | .mode | .edmEn | .restart | .slsSrc | .slsReact | .ssmEn | .sepRestart | .axis | .react => some (0, 1)
  | .mask => some (0, 511)
  | .siFlt => some (50, 10000) | .discT => some (5, 500) | .outGroup => some (0, 255)
  | .tpLen => some (100, min 1000 ((s.get 0x25 0 .tpPer 100 * 1000) / 16 - 200)) | .edmT => some (5, 200)
  | .ss1Tmax => some (10, 10000) | .tLag => some (1, 500) | .stillFrames => some (1, 16) | .sposMiss => some (1, 8)
  | .slsDelay => some (0, 2000) | .srcMask => some (0, 65535) | .zoneMask => some (0, 255)
  | .capLink _ => some (1, 13) | .mRed => some (0, 2000) | .mWarn => some (s.get 0x22 inst .mRed 150, 5000)
  | .sepHyst => some (10, 500) | .sepClear => some (1, 64) | .vRed => some (0, 5000) | .redDelay => some (0, 1000)
  | .vCart _ => some (0, 10000) | .zR => some (0, 200) | .port => some (0, 3) | .axGroup => some (0, 8)
  | .safeId => some (0, 0xFFFFFF) | .joint => some (1, 12) | .jType => some (0, 2) | .vMax | .aCap => some (1, 2 ^ 63)
  | .reach => some (0, 5000) | .kind => some (0, 3)
  | .groupMask => some (if s.nat 0x24 inst .kind 0 = 0 then 1 else 0, 511)
  | .wdT => some (6, 100) | .txPer => some (1, 200) | .source | .relaySrc => some (0, 15) | .tracks => some (1, 3)
  | .vlan => some (0, 4094) | .tpPer => some (10, 1000) | .sphStep => some (10, 100) | .polyN => some (3, 8)
  | .zTop => some (500, 3000) | .tZone | .tSens => some (1, 500) | .cIntr => some (0, 2000) | .zdMin => some (0, 1000)
  | .vH => some (1600, 2500) | .tNet => some (0, 10)
  | .basePos _ | .capP0 .. | .capP1 .. => some (-(2 ^ 47), 2 ^ 47)
  | _ => none

/-- An entry is in range (step 5 of Table 13-12). -/
def entryOk (s : SafeSet) (e : SEntry) : Bool :=
  match e.par with
  | none => false
  | some p =>
    (match parRange s (e.ident / 65536 % 256) p with
      | none => true
      | some r => decide (r.1 ≤ e.val) && decide (e.val ≤ r.2))
    && (match p with
      | .func => decide (e.val ≤ 5) || decide (0x10 ≤ e.val)
      | .siFlt => decide (e.val % 50 = 0)
      | .outGroup => decide (e.val ≤ 8) || decide (e.val = 255)
      | .seedB => decide (e.val ≠ s.get 0x25 0 .seedA (-1))
      | _ => true)

/-- Parameters a present instance must carry (Tables 13-11, 14-7). -/
def requiredPars (s : SafeSet) (cls inst : Nat) : List SParam :=
  if cls = 0x23 then [.port, .slot, .axis, .axGroup, .safeId, .resolution, .vTol, .dEnv, .vStill]
    ++ (if s.ssm (s.nat 0x23 inst .axGroup 0xFF) then [.joint, .jType, .aPrev, .alphaPrev, .d, .theta, .vMax, .aCap]
          ++ (if s.revolute inst then [.reach] else []) else [])
  else if cls = 0x24 then [.connId, .kind, .groupMask, .react]
    ++ (if s.nat 0x24 inst .kind 0 = 2 then [.source, .tracks]
        else if s.nat 0x24 inst .kind 0 = 3 && !s.has 0x24 inst .relaySrc then [.source, .tracks] else [])
  else if cls = 0x25 && inst = 0 then [.seedA, .seedB]
  else if cls = 0x25 && decide (1 ≤ inst) && decide (inst ≤ 8) then [.tZone, .polyN]
  else if cls = 0x25 && decide (16 ≤ inst) then [.tSens, .polyN]
  else if cls = 0x22 && s.ssm inst then [.basePos 0, .basePos 1, .basePos 2, .baseRot 0, .baseRot 1, .baseRot 2, .baseRot 3]
  else []

/-- A condition on an entry's instance as a whole: required parameters; a monitored group has capsules, and its joints are
numbered without a gap (R332). -/
def instanceOk (s : SafeSet) (e : SEntry) : Bool :=
  let cls := e.ident / 2 ^ 24
  let inst := e.ident / 65536 % 256
  (requiredPars s cls inst).all (fun p => s.has cls inst p)
    && (if cls = 0x22 && s.ssm inst then
          !(s.capNos inst).isEmpty && !(s.axesOf inst).isEmpty
            && decide ((s.jointAxes inst).length = ((s.axesOf inst).map (fun k => s.nat 0x23 k .joint 0)).foldl max 0)
        else true)
    && (if cls = 0x24 && e.par = some .tracks then
          decide (((s.conns.filter (fun c => !s.outbound c && decide (2 ≤ s.nat 0x24 c .kind 0))).map (fun c => s.nat 0x24 c .tracks 0)).sum ≤ 16)
        else true)

/-- Step 5: detail of the first failure. -/
def rangesDetail (t : Tm) (s : SafeSet) : Option Nat :=
  if !t.lengthOk then some 0xFF000000
  else (s.entries.find? (fun e => !(entryOk s e && instanceOk s e))).map (·.ident)

/-- Step 4: the GROUP entry of the first safe axis that an image maps to another STO group (R306). -/
def mappingDetail (im : Image) (s : SafeSet) : Option Nat :=
  (s.entries.find? (fun e => decide (e.ident / 2 ^ 24 = 0x23) && decide (e.par = some .axGroup) &&
    (let k := e.ident / 65536 % 256
     (List.range 12).any (fun p =>
       let m := tget {} im.mods (s.nat 0x23 k .port 0 * 16 + p)
       m.present && decide (m.slot = s.nat 0x23 k .slot 0) &&
         (match if s.nat 0x23 k .axis 0 = 0 then m.axis0 else m.axis1 with
          | none => false
          | some x => match tget none im.axes x with | none => false | some c => decide ((c.stoGroup : Int) ≠ e.val)))))).map (·.ident)

/-- State of fuse key slot `k`: 0 EMPTY, 1 ACTIVE, 3 REVOKED (R93). -/
def Dev.keyState (d : Dev) (k : Nat) : Nat := d.f .KEY_SLOTS_STATE / 4 ^ k % 4

/-- Step 3: cause of the first failure (Table 13-16), 0 none. -/
def setAuth (d : Dev) (l : List Byte) : Nat :=
  let k := leAt l 6 1
  let pub := (l.drop 32).take 64
  if d.keyState (k % 4) = 0 || decide (4 ≤ k) then 1
  else if d.keyState (k % 4) ≠ 1 then 2
  else if tget [] d.img.keys k ≠ sha256 pub then 3
  else if ecdsaVerify pub (sha256 (l.take (l.length - 64))) (l.drop (l.length - 64)) then 0 else 4

/-- A failed commit: step, status, status detail, record detail, channel (2 Felade). -/
structure SetFail where
  step : Nat := 0
  status : Nat := 0
  detail : Nat := 0
  info : Nat := 0
  chan : Nat := 2
deriving DecidableEq, Repr, Inhabited

/-- Groups of a channel that are not in STO. -/
def notSto (b : Badger) : Nat := ((List.range 9).filter (fun g => decide ((b.g g).st ≠ .sto)) |>.map (fun g => 2 ^ g)).sum

/-- The checks of Table 13-12 in order. -/
def commitCheck (b : Blk) (sig : Nat) : Option SetFail :=
  let d := b.dev
  let l := d.bad.bytes
  let ready := fun (x : Badger) => decide (x.st = .active) || decide (x.st = .waitSet)
  let s := parseSet l
  if notSto b.saf.a ≠ 0 || !ready b.saf.a then some { step := 1, status := 0x21, detail := 2, info := notSto b.saf.a, chan := 0 }
  else if notSto b.saf.b ≠ 0 || !ready b.saf.b then some { step := 1, status := 0x21, detail := 2, info := notSto b.saf.b, chan := 1 }
  else if d.bad.owner.isNone || decide (l.length ≠ d.bad.total) || decide (l.length < 192) then
    some { step := 2, status := 0x22, info := 1 }
  else if leAt l 8 4 ≠ l.length then some { step := 2, status := 0x22, info := 2 }
  else if leAt l 0 4 ≠ 0x4641534B then some { step := 2, status := 0x22, info := 3 }
  else if leAt l 4 2 ≠ 0x0100 then some { step := 2, status := 0x22, info := 4 }
  else if setAuth d l ≠ 0 then some { step := 3, status := 0x31, info := leAt l 6 1 + 256 * setAuth d l }
  else match mappingDetail (d.img.run.getD {}) s with
    | some i => some { step := 4, status := 0x22, info := i }
    | none => match rangesDetail (d.tm 0) s with
      | some i => some { step := 5, status := 0x22, info := i, chan := 0 }
      | none =>
        if s.sig ≠ leAt l 16 4 || decide (s.sig ≠ sig) then some { step := 6, status := 0x32, info := s.sig, chan := 0 }
        else none

/-- Felade's check of Lynx's values (R341): SEP_LYNX_CHECK for each inequality that fails. -/
def lynxCheck (s : SafeSet) (d : Dev) : Dev :=
  let t := d.tm 0
  let margin := match d.img.run with | some i => i.personMargin | none => 0
  forEach s.ssmGroups (fun d g =>
    match d.grpCfg g with
    | none => d
    | some c =>
      let rest := lynxShort s t g false c.thPerson.dStop margin
      let top := lynxShort s t g true c.thPerson.dFree margin
      let d := if 0 < rest then d.raise 0x5056 g g 1 rest else d
      if 0 < top then d.raise 0x5056 g g 2 top else d) d

/-- `safety.param_commit` as it acts once its checks pass: both Badgers take the set in their next cycle, Felade stores
it. -/
def commitSet (b : Blk) : Blk :=
  let s := parseSet b.dev.bad.bytes
  let d := lynxCheck s { b.dev with bad := { b.dev.bad with flash := b.dev.bad.bytes, owner := none, total := 0, bytes := [] } }
  { b with saf := { b.saf with staged := some s }, dev := d }

/-- A set delivered from flash in CONFIG-WAIT (Table 13-13), in channel `n`. -/
def deliverTo (n : Nat) (s : SafeSet) (b : Blk) : Blk :=
  let x := b.saf.ch n
  if x.st ≠ .waitSet then b
  else if x.stored = some s.sig && (rangesDetail (b.dev.tm 0) s).isNone then
    let r := activate s x
    { b with saf := b.saf.setCh n r.1, dev := b.dev.badgerEvents r.2 }
  else { b with dev := b.dev.raiseNext 0x5042 n (x.stored.getD 0) s.sig n }

/-- Felade delivers the set held in flash to both Badgers. -/
def setDelivered (b : Blk) : Blk :=
  if b.dev.f .HOST_STATUS_DEV_STATE = 4 && !b.dev.bad.flash.isEmpty then
    let s := parseSet b.dev.bad.flash
    let b := deliverTo 1 s (deliverTo 0 s b)
    { b with dev := mirror b.saf b.dev }
  else b

/-- `safety.status` (Table 13-14), from the mirror. -/
def safetyStatus (d : Dev) : List Byte :=
  let fld := fun (f : Nat → Fld) n => d.f (f n)
  let grp := fun g => le 1 (fld .SAFE_GRP_APPLIED g + 4 * fld .SAFE_GRP_FAULT g + 8 * fld .SAFE_GRP_RESET_WAIT g)
  le 1 (fld .SAFE_CH_STATUS_STATE 0) ++ le 1 (fld .SAFE_CH_STATUS_STATE 1) ++ le 4 (fld .SAFE_CH_SIG_SIG 0) ++ le 4 (fld .SAFE_CH_SIG_SIG 1)
    ++ (List.range 9).flatMap grp ++ le 1 (fld .SAFE_CH_IN_LEVEL 0) ++ le 1 (fld .SAFE_CH_IN_LEVEL 1)
    ++ le 1 (fld .SAFE_CH_IN_SW 0 &&& fld .SAFE_CH_IN_SW 1) ++ le 1 (fld .SAFE_CH_IN_EDM 0)
    ++ le 1 (d.f .SAFE_FLAGS_TICK_LOST + 2 * d.bad.line.toNat) ++ le 4 d.bad.serial ++ le 4 (fld .SAFE_CH_FRAME_MAJ 0)

end Sys2Proof.Machine
end

