-- ==== Sys2Proof/Machine/ClOps.lean ====
section
/-!
DEFINITION. The cell link (R364 to R371): frames, joining and forming, membership, delays, hand-over, peer records.
States of CL_STATUS.STATE: 0 off, 1 LISTEN, 2 JOINING, 3 MEMBER, 4 MASTER.
-/
namespace Sys2Proof.Machine

def Dev.cl (d : Dev) : Cl := d.net.cl
def Dev.setCl (d : Dev) (c : Cl) : Dev := { d with net := { d.net with cl := c } }
def Dev.clState (d : Dev) : Nat := d.f .CL_STATUS_STATE
def Dev.cellId (d : Dev) : Nat := d.f .CL_CFG_CELL_ID
def Dev.member (d : Dev) (k : Nat) : Member := tget {} d.cl.members k
def Dev.setMember (d : Dev) (k : Nat) (m : Member) : Dev := d.setCl { d.cl with members := tset {} d.cl.members k m }

/-- Present set and its update. -/
def Dev.present (d : Dev) : Nat := d.f .CL_STATUS_PRESENT
def addBit (m k : Nat) : Nat := if m.testBit k then m else m + 2 ^ k
def delBit (m k : Nat) : Nat := if m.testBit k then m - 2 ^ k else m

/-- Identities of a mask, ascending. -/
def maskIds (m : Nat) : List Nat := (List.range 8).filter (fun k => m.testBit k)

/-! ### Frames (R365, Table 15-3) -/

/-- A frame with its header, length and CRC-32C: type, TICK or STATUS or record bytes 12 on. -/
def clFrame (d : Dev) (ty : Nat) (minorNo : Nat) (body : List Byte) : List Byte :=
  let l := le 1 ty ++ le 1 d.cellId ++ le 1 (d.f .CL_STATUS_EPOCH) ++ le 1 0 ++ le 6 minorNo ++ le 2 (16 + body.length) ++ body
  l ++ le 4 (crc32c l)

/-- A received frame whose length and CRC are right. -/
def clValid (l : List Byte) : Bool :=
  decide (20 ≤ l.length) && decide (leAt l 10 2 = l.length) && decide (leAt l (l.length - 4) 4 = crc32c (l.take (l.length - 4)))

/-- The frame as forwarded: HOP + 1, CRC anew. -/
def clForward (l : List Byte) : List Byte :=
  let b := l.take 3 ++ le 1 (leAt l 3 1 + 1) ++ (l.take (l.length - 4)).drop 4
  b ++ le 4 (crc32c b)

/-- The frame's own fields. -/
def clSrc (l : List Byte) : Nat := leAt l 1 1
def clEpoch (l : List Byte) : Nat := leAt l 2 1
def clMinor (l : List Byte) : Nat := leAt l 4 6
def clTbase (l : List Byte) : Nat := leAt l 12 4

/-- TICK of the master (Table 15-3) for a minor frame number. -/
def tickFrame (d : Dev) (minorNo : Nat) : List Byte :=
  clFrame d 1 minorNo (le 4 d.cl.tbase ++ le 2 (d.f .CL_RING_R) ++ le 1 d.present ++ le 1 (d.f .CL_STATUS_R_VALID) ++ List.replicate 8 0)

/-- STATUS of this device. -/
def statusFrame (d : Dev) : List Byte :=
  let hash := match d.img.run with | some i => i.framesHash | none => 0
  clFrame d 2 d.minorNo (le 1 (d.f .CL_RING_FWD) ++ le 3 0 ++ le 2 (d.f .CL_DELAY_E_F) ++ le 2 (d.f .CL_DELAY_E_V)
    ++ le 4 (d.reg 0x100000).toNat ++ le 3 (d.f .LINE_DEV_NUMBER) ++ le 1 d.present ++ le 16 hash)

/-- PEER frame of a record, `k` its order within the frame. -/
def peerFrame (d : Dev) (k : Nat) (p : PeerOut) : List Byte :=
  clFrame d 3 d.minorNo (le 1 p.cls ++ le 1 p.index ++ le 2 k ++ p.data)

/-- A record is queued for the next window (R366). -/
def clQueue (d : Dev) (cls index : Nat) (data : List Byte) : Dev :=
  d.setCl { d.cl with peerTx := d.cl.peerTx ++ [{ cls := cls, index := index, data := data }] }

/-- The window of this device (R366): STATUS at minor index 0, PEER and SAFE frames once a member. -/
def clWindow (d : Dev) : Dev :=
  let st := d.clState
  if st < 2 then d
  else
    let d := if d.minor = 0 then d.emit (.clFrame (statusFrame d)) else d
    if st = 2 then d
    else
      let fs := (d.cl.peerTx.zip (List.range d.cl.peerTx.length)).map (fun p => peerFrame d p.2 p.1)
        ++ d.bad.relay.map (fun c => clFrame d 4 d.minorNo (le 4 0 ++ c.2))
      let d := forEach fs (fun d f => d.emit (.clFrame f)) d
      { d.setCl { d.cl with peerTx := [] } with bad := { d.bad with relay := [] } }

/-! ### Reception -/

/-- A valid frame has arrived (R370); an invalid one is counted (R374). Frames of other devices are forwarded. -/
def clArrive (d : Dev) (port : Nat) (l : List Byte) : Option Dev :=
  if d.clState = 0 then none
  else if !clValid l then some (d.count .CL_CNT_CRC)
  else
    let d := (d.setCl { d.cl with anyFrame := true, silent := 0 }).setB .CL_STATUS_ISOLATED false
    some (if clSrc l = d.cellId then d else d.emit (.clForward (1 - port) (clForward l)))

/-- CELL_MISMATCH, once per cause (Table 15-4). -/
def cellMismatch (d : Dev) (src cause : Nat) : Dev :=
  if d.cl.mismatch.testBit cause then d
  else ((d.setCl { d.cl with mismatch := d.cl.mismatch + 2 ^ cause }).setB .CL_FLAGS_MISMATCH true).raiseNext 0x6023 0xFFFF src cause 0

/-- R_VALID of the ring; a break is flagged. -/
def setRValid (d : Dev) (v : Bool) : Dev :=
  let d := if d.b .CL_STATUS_R_VALID && !v then d.setB .CL_FLAGS_RING_BREAK true else d
  d.setB .CL_STATUS_R_VALID v

/-- The delays of R368 from the arrivals of both copies. -/
def clDelays (d : Dev) : Dev :=
  match d.cl.tF, d.cl.tV with
  | some f, some v =>
    if d.b .CL_STATUS_R_VALID then
      let fwd : Rat := (d.f .CL_RING_FWD : Rat) * 4 / 5
      let r : Rat := d.f .CL_RING_R
      let eF := (r - fwd - (((v : Int) - f : Int) : Rat)) / 2
      let eV := r - fwd - eF
      let d := d.setCl { d.cl with eF := eF, eV := eV }
      (d.setF .CL_DELAY_E_F (roundAway eF).toNat).setF .CL_DELAY_E_V (roundAway eV).toNat
    else d
  | _, _ => d

/-- The measured boundary (R368). -/
def clMeasure (d : Dev) : Dev :=
  let m := match d.cl.tF, d.cl.tV with
    | some f, _ => some ((f : Rat) - d.cl.eF)
    | none, some v => some ((v : Rat) - d.cl.eV)
    | none, none => none
  d.setCl { d.cl with measured := m }

/-- Distance of an arrival, less its delay, from the nearest of the present and the next expected boundary. -/
def tickMiss (d : Dev) (port at_ : Nat) : Rat :=
  let b := (at_ : Rat) - (if port = 1 then d.cl.eF else d.cl.eV)
  min (absR (b - d.esc.t0)) (absR (b - ((d.esc.t0 + d.tMinor : Nat) : Rat)))

/-- The TICK of the followed master is taken (R368): port 1 receives direction F, port 0 direction V. -/
def takeTick (d : Dev) (port at_ : Nat) (l : List Byte) : Dev :=
  let fresh := d.cl.tickSeen
  let d := d.setCl { d.cl with tickSeen := true, missRun := 0, joinMaj := if d.M = 0 then none else some (clMinor l / d.M + 1),
                               tF := if port = 1 then some at_ else if fresh then d.cl.tF else none,
                               tV := if port = 0 then some at_ else if fresh then d.cl.tV else none }
  let d := setRValid (d.setF .CL_RING_R (leAt l 16 2)) ((leAt l 19 1).testBit 0)
  let lost := maskIds d.present |>.filter (fun k => decide (2 ≤ (d.member k).missing))
  let d := d.setF .CL_STATUS_PRESENT (lost.foldl delBit (leAt l 18 1))
  clMeasure (clDelays d)

/-- A new master S is followed: the delay from it by the STATUS values of S (R369). -/
def newMaster (d : Dev) (s : Nat) (epoch : Nat) : Dev :=
  let m := d.member s
  let fwd : Rat := (m.fwd : Rat) * 4 / 5
  let d := d.setCl { d.cl with eF := d.cl.eF - m.eF - fwd, eV := d.cl.eV - m.eV - fwd }
  ((d.setF .CL_STATUS_MASTER s).setF .CL_STATUS_EPOCH epoch).setB .CL_FLAGS_HANDOVER true

/-- CELL_SPLIT (Table 15-4). -/
def cellSplit (d : Dev) (port other : Nat) : Dev :=
  (d.setB .CL_FLAGS_SPLIT true).raiseNext 0x6026 0xFFFF d.cl.tbase other port

/-- Is `e` 1 to 127 above `own` modulo 256? -/
def epochAbove (e own : Nat) : Bool := let k := (e + 256 - own) % 256; decide (1 ≤ k) && decide (k ≤ 127)

/-- A TICK in LISTEN: cycles of TICK, STATUS of every device present, TICK (R367). -/
def listenTick (d : Dev) (l : List Byte) : Dev :=
  let c := d.cl
  let full := match c.fullMask with | some m => decide (m &&& c.statuses = m) | none => false
  let restart := fun (d : Dev) => d.setCl { d.cl with fullMask := some (leAt l 18 1), statuses := 0, wrong := false, tickSeen := true }
  if !full then restart d
  else if (leAt l 18 1).testBit d.cellId then restart (cellMismatch d (clSrc l) 3)
  else if c.wrong then restart d
  else
    let d := restart d
    let d := d.setCl { d.cl with tbase := clTbase l, joinMaj := if d.M = 0 then none else some (clMinor l / d.M + 1) }
    ((d.setF .CL_STATUS_STATE 2).setF .CL_STATUS_MASTER (clSrc l)).setF .CL_STATUS_EPOCH (clEpoch l)

/-- The own TICK returns (R365, R368): the ring delay, and whether both copies were valid. -/
def ownTick (d : Dev) (port at_ : Nat) : Dev :=
  let d := if !d.cl.retF && !d.cl.retV then d.setF .CL_RING_R (at_ - d.esc.t0) else d
  d.setCl { d.cl with retF := d.cl.retF || decide (port = 1), retV := d.cl.retV || decide (port = 0) }

/-- A TICK copy arrives on a port. -/
def clTick (d : Dev) (port at_ : Nat) (l : List Byte) : Dev :=
  match clArrive d port l with
  | none => d
  | some d' =>
    if !clValid l || decide (leAt l 0 1 ≠ 1) then d'
    else if clSrc l = d'.cellId then (if d'.clState = 4 then ownTick d' port at_ else d')
    else
      let e := clEpoch l
      let own := d'.f .CL_STATUS_EPOCH
      match d'.clState with
      | 1 => listenTick d' l
      | 2 =>
        let d2 := takeTick d' port at_ l
        if (leAt l 18 1).testBit d2.cellId then
          (d2.setF .CL_STATUS_STATE 3).raiseNext 0x6020 0xFFFF d2.cellId (clSrc l) e
        else d2
      | 3 =>
        if clTbase l ≠ d'.cl.tbase then cellSplit d' port (clTbase l)
        else if epochAbove e own then takeTick (newMaster d' (clSrc l) e) port at_ l
        else if e = own ∧ clSrc l = d'.f .CL_STATUS_MASTER ∧ tickMiss d' port at_ ≤ d'.f .CL_CFG_TICK_WIN then takeTick d' port at_ l
        else d'
      | 4 =>
        if clTbase l ≠ d'.cl.tbase then cellSplit d' port (clTbase l)
        else if epochAbove e own then
          let d2 := (takeTick (newMaster d' (clSrc l) e) port at_ l).setF .CL_STATUS_STATE 3
          d2.raiseNext 0x6022 0xFFFF d2.cellId (clSrc l) e
        else d'
      | _ => d'

/-- A STATUS copy arrives (R365, R367). -/
def clStatus (d : Dev) (port : Nat) (l : List Byte) : Dev :=
  match clArrive d port l with
  | none => d
  | some d' =>
    let s := clSrc l
    if !clValid l || decide (leAt l 0 1 ≠ 2) || decide (s = d'.cellId) then d'
    else
      let m := d'.member s
      let d' := d'.setMember s { m with got := true, fwd := leAt l 12 1, eF := leAt l 16 2, eV := leAt l 18 2, line := leAt l 24 3 }
      if d'.clState = 1 then
        let hash := match d'.img.run with | some i => i.framesHash | none => 0
        let badCfg := decide (leAt l 20 4 % 2 ^ 29 ≠ (d'.reg 0x100000).toNat % 2 ^ 29)
        let badHash := decide (leAt l 28 16 ≠ hash % 2 ^ 128)
        let d' := if badCfg then cellMismatch d' s 1 else d'
        let d' := if badHash then cellMismatch d' s 2 else d'
        d'.setCl { d'.cl with statuses := addBit d'.cl.statuses s, wrong := d'.cl.wrong || badCfg || badHash }
      else d'

/-- Major frame in which a frame was sent, from the minor frame number it carries. -/
def clSent (d : Dev) (l : List Byte) : Nat := if d.M = 0 then 0 else clMinor l / d.M

/-- R371: too late for the batch of major frame n + 2: its cutoff, in n + 1, has passed. -/
def clLate (d : Dev) (l : List Byte) : Bool :=
  match d.rmt.sealed with
  | some b => decide (clSent d l + 2 ≤ b.frame)
  | none => decide (clSent d l + 2 ≤ d.esc.maj)

/-- Two copies of one record or safe frame: they differ at most in the HOP of the frame as received. -/
def sameInput : FInput → FInput → Bool
  | .safe p c s l _, .safe p' c' s' l' _ => decide (p = p') && decide (c = c') && decide (s = s') && decide (l = l')
  | x, y => decide (x = y)

/-- A record or safe frame of a present device is accepted for the batch of n + 2, once for its two copies. -/
def clCommit (d : Dev) (port at_ ty : Nat) (l : List Byte) (inp : FInput) : Dev :=
  match clArrive d port l with
  | none => d
  | some d' =>
    let s := clSrc l
    if !clValid l || decide (leAt l 0 1 ≠ ty) || decide (s = d'.cellId) || decide (d'.clState < 3) then d'
    else if !d'.present.testBit s then d'
    else if clLate d' l then
      ((d'.count .CL_CNT_LATE).setB .CL_FLAGS_LATE true).raiseNext 0x6025 0xFFFF s ty (clMinor l % 2 ^ 32 : Nat)
    else if d'.rmt.inputs.any (fun x => sameInput x.input inp) then d'
    else { d' with rmt := { d'.rmt with inputs := d'.rmt.inputs ++ [{ stamp := at_, frame := clSent d' l + 1, input := inp }] } }

/-- A PEER copy arrives. -/
def clPeer (d : Dev) (port at_ : Nat) (l : List Byte) : Dev :=
  clCommit d port at_ 3 l (.peer (clSrc l) (leAt l 14 2) (clSent d l) ((l.take (l.length - 4)).drop 12))

/-- A SAFE copy arrives: the PDU goes to both Badgers, copy A as from P3, copy B as from P4 (R318, R366). -/
def clSafe (d : Dev) (port at_ : Nat) (l : List Byte) : Dev :=
  let pdu := (l.take (l.length - 4)).drop 16
  clCommit d port at_ 4 l (.safe (2 + leAt pdu 7 1 % 2) (leAt pdu 0 4) (leAt pdu 4 2) pdu l)

/-! ### Missing ticks and hand-over (R368, R369) -/

/-- The expected boundary passed without a valid TICK. -/
def tickMissing (d : Dev) (at_ : Nat) : Dev :=
  if (d.clState = 2 || d.clState = 3) && !d.cl.tickSeen && decide (d.esc.t0 + d.f .CL_CFG_TICK_WIN ≤ at_) then
    ((d.setCl { d.cl with missRun := d.cl.missRun + 1, tickSeen := true }).setB .CL_FLAGS_TICK_MISS true).count .CL_CNT_TICK_MISS
  else d

/-- Rank of this device: its place among the present identities other than the master's. -/
def clRank (d : Dev) : Nat :=
  ((maskIds d.present).filter (fun k => decide (k ≠ d.f .CL_STATUS_MASTER) && decide (k ≤ d.cellId))).length

/-- A member whose rank is reached becomes master at its predicted minor boundary (R369). -/
def handover (d : Dev) : Dev :=
  if d.clState = 3 && decide (1 ≤ clRank d) && decide (clRank d ≤ d.cl.missRun) && !d.b .CL_STATUS_ISOLATED then
    let old := d.f .CL_STATUS_MASTER
    let e := (d.f .CL_STATUS_EPOCH + 1) % 256
    let d := ((d.setF .CL_STATUS_STATE 4).setF .CL_STATUS_MASTER d.cellId).setF .CL_STATUS_EPOCH e
    let d := setRValid (d.setB .CL_FLAGS_HANDOVER true) false
    (d.setCl { d.cl with missRun := 0, retF := false, retV := false }).raiseNext 0x6022 0xFFFF old d.cellId e
  else d

/-- Minor boundary: the master sends its TICK on both ports, with R_VALID while both copies of the previous one returned
(R366, R368). -/
def clMinorStep (d : Dev) : Dev :=
  let d := handover d
  if d.clState = 4 then
    let d := setRValid d (d.cl.retF && d.cl.retV)
    let d := d.setCl { d.cl with retF := false, retV := false }
    d.emit (.clFrame (tickFrame d d.minorNo))
  else if d.clState = 0 then d
  else d.setCl { d.cl with tickSeen := d.clState = 1 && d.cl.tickSeen }

/-! ### Forming and membership (R367, R370) -/

/-- LISTEN without a valid TICK for the forming timeout: this device becomes master (Table 15-4). -/
def cellForm (d : Dev) (at_ : Nat) : Dev :=
  let ids := maskIds (d.f .CL_CFG_MEMBERS)
  let k := (ids.filter (fun x => decide (x < d.cellId))).length
  let tmo := match d.img.run with | some i => i.formTmo | none => 2000
  if d.clState = 1 && d.cl.fullMask.isNone && decide (d.cl.since + k * tmo * 800000 + 8 * d.tMajor ≤ at_) then
    let d := ((d.setF .CL_STATUS_STATE 4).setF .CL_STATUS_MASTER d.cellId).setF .CL_STATUS_EPOCH 0
    let d := d.setF .CL_STATUS_PRESENT (2 ^ d.cellId)
    d.setCl { d.cl with tbase := d.cellId * 2 ^ 24 + (d.esc.tbCount + 1) % 2 ^ 24 }
  else d

/-- A device whose STATUS has been missing in two major frames leaves the present set (R367). -/
def memberLost (d : Dev) (k : Nat) : Dev :=
  if d.present.testBit k && decide (k ≠ d.cellId) && decide (2 ≤ (d.member k).missing) && decide (3 ≤ d.clState) then
    let p := delBit d.present k
    ((d.setF .CL_STATUS_PRESENT p).setB .CL_FLAGS_MEMBER_LOST true).raiseNext 0x6021 0xFFFF k p 0
  else d

/-- No valid cell-link frame in two consecutive major frames: SS1 for every STO group (R370, R177). -/
def cellIsolated (d : Dev) : Dev :=
  if 3 ≤ d.clState && decide (2 ≤ d.cl.silent) && !d.b .CL_STATUS_ISOLATED then
    let d := { d with bad := { d.bad with ss1Req := d.bad.ss1Req ||| 0x1FF } }
    (d.setB .CL_STATUS_ISOLATED true).raiseNext 0x6024 0xFFFF d.cl.silent 0 0
  else d

/-- Membership at a major boundary. -/
def clMajorStep (d : Dev) : Dev :=
  if d.clState < 3 then d
  else
    let d := forEach (List.range 8) (fun d k =>
      let m := d.member k
      let d := d.setMember k { m with got := false, consec := if m.got then m.consec + 1 else 0,
                                      missing := if m.got || !d.present.testBit k then 0 else m.missing + 1 }
      let d := if d.clState = 4 && decide (2 ≤ (d.member k).consec) then d.setF .CL_STATUS_PRESENT (addBit d.present k) else d
      memberLost d k) d
    let d := d.setCl { d.cl with silent := if d.cl.anyFrame then 0 else d.cl.silent + 1, anyFrame := false }
    cellIsolated d

/-- The cell link starts to listen as an image takes effect (R367). -/
def clStart (d : Dev) (at_ : Nat) : Dev :=
  if d.b .CL_CFG_EN then (d.setCl { since := at_ }).setF .CL_STATUS_STATE 1 else (d.setCl {}).setF .CL_STATUS_STATE 0

end Sys2Proof.Machine
end

