-- ==== Sys2Proof/Machine/Operands.lean ====
section
/-!
DEFINITION. Operand forms of the loop tiles: registers, pointers and their modes, memory operands, the write
pipeline, and the encoding of instruction words (R187, R192 to R195, R197).
-/
namespace Sys2Proof.Machine

/-- The context in which an instruction issues (R187). -/
def Tile.ctx (t : Tile) : TCtx := if t.inEvent then t.event else t.main

/-- `t` with that context replaced. -/
def Tile.setCtx (t : Tile) (c : TCtx) : Tile := if t.inEvent then { t with event := c } else { t with main := c }

/-- The slot that context runs. -/
def Tile.run (t : Tile) : Option TRun := if t.inEvent then t.eventRun else t.mainRun

def Tile.setRun (t : Tile) (r : Option TRun) : Tile :=
  if t.inEvent then { t with eventRun := r } else { t with mainRun := r }

def rdD (c : TCtx) (n : Fin 8) : DWord := tget 0 c.d n
def rdA (c : TCtx) (n : Fin 2) : Acc := tget 0 c.a n
def rdP (c : TCtx) (n : Fin 8) : BitVec 15 := tget 0 c.p n
def rdM (c : TCtx) (n : Fin 4) : BitVec 15 := tget 0 c.m n

/-- One register write landing in a context (R193). -/
def landCtx (c : TCtx) (w : TDest) (v : Acc) : TCtx :=
  match w with
  | .d n => { c with d := tset 0 c.d n (v.setWidth 24) }
  | .a n => { c with a := tset 0 c.a n v }
  | .p n => { c with p := tset 0 c.p n (v.setWidth 15) }
  | .m n => { c with m := tset 0 c.m n (v.setWidth 15) }
  | .c _ => c

/-- One register write landing in the tile; B0, L0, B1 and L1 exist once (R187). -/
def landOne (t : Tile) (w : TWrite) : Tile :=
  match w.dest with
  | .c n =>
    if n = 0 then { t with b0 := w.val.setWidth 15 } else if n = 1 then { t with b1 := w.val.setWidth 15 }
    else if n = 2 then { t with l0 := w.val.setWidth 15 } else { t with l1 := w.val.setWidth 15 }
  | d => if w.event then { t with event := landCtx t.event d w.val } else { t with main := landCtx t.main d w.val }

/-- R193: the writes due by cycle `cyc` land, in the order of their cycles and, within one, of their issue. -/
def landAll (cyc : Nat) (t : Tile) : List TWrite → Tile × List TWrite
  | [] => (t, [])
  | w :: r => if w.due ≤ cyc then landAll cyc (landOne t w) r else (t, w :: r)

/-- The tile as the instruction that issues now sees it. -/
def Tile.land (t : Tile) : Tile :=
  let r := landAll t.cyc t t.pipe
  { r.1 with pipe := r.2 }

/-- Insert a write behind every write due no later (R193: the later issue remains). -/
def pipeIns (w : TWrite) : List TWrite → List TWrite
  | [] => [w]
  | x :: r => if x.due ≤ w.due then x :: pipeIns w r else w :: x :: r

/-- R193: a result with latency `lat`, usable by the instruction that issues `lat` cycles later. -/
def Tile.result (t : Tile) (lat : Nat) (d : TDest) (v : Acc) : Tile :=
  { t with pipe := pipeIns { due := t.cyc + lat, event := t.inEvent, dest := d, val := v } t.pipe }

def Tile.resultD (t : Tile) (lat : Nat) (n : Fin 8) (v : DWord) : Tile := t.result lat (.d n) (v.setWidth 56)
def Tile.resultA (t : Tile) (lat : Nat) (n : Fin 2) (v : Acc) : Tile := t.result lat (.a n) v

/-- R195: base and length of the circular buffer that pointer `n` uses in the present context, length 0 for none. -/
def Tile.circ (t : Tile) (n : Fin 8) : Nat × Nat :=
  if n = 6 && !t.inEvent then (t.b0.toNat, t.l0.toNat)
  else if n = 7 && t.inEvent then (t.b1.toNat, t.l1.toNat)
  else (0, 0)

/-- R195: an address after a modify, brought back into a circular buffer by one length. -/
def wrapCirc (b l : Nat) (x : Int) : BitVec 15 :=
  if l = 0 then BitVec.ofInt 15 x
  else if ((b + l : Nat) : Int) ≤ x then BitVec.ofInt 15 (x - l)
  else if x < (b : Int) then BitVec.ofInt 15 (x + l)
  else BitVec.ofInt 15 x

/-- A pointer written with latency `lat`. -/
def Tile.resultP (t : Tile) (lat : Nat) (n : Fin 8) (v : BitVec 15) : Tile := t.result lat (.p n) (v.setWidth 56)

/-- R195: pointer `n` after a modify in mode `mode` with step `step` (2 for double-word instructions). -/
def Tile.stepped (t : Tile) (n : Fin 8) (mode : PMode) (m : Fin 4) (step : Nat) : BitVec 15 :=
  let cur : Int := (rdP t.ctx n).toNat
  let bl := t.circ n
  match mode with
  | .none => rdP t.ctx n
  | .inc => wrapCirc bl.1 bl.2 (cur + step)
  | .dec => wrapCirc bl.1 bl.2 (cur - step)
  | .mod => wrapCirc bl.1 bl.2 (cur + (rdM t.ctx m).toInt)

/-- The post-modify of pointer `n`, seen by the next instruction (R193). -/
def Tile.post (t : Tile) (n : Fin 8) (mode : PMode) (m : Fin 4) (step : Nat) : Tile :=
  if mode = .none then t else t.resultP 1 n (t.stepped n mode m step)

/-- Address a memory operand names, before its post-modify. -/
def Tile.addr (t : Tile) (n : Fin 8) : Nat := (rdP t.ctx n).toNat

/-- R205, cause 1: may the running slot load from `a`? Felade's slots are not checked. -/
def mayLoad (r : Option TRun) (a : Nat) : Bool :=
  match r with
  | none => true
  | some r =>
    (r.slot.law.isNone) || (decide (r.dataBase ≤ a) && decide (a < r.dataBase + r.dataLen))
      || (decide (0x7000 + 0x20 * r.port ≤ a) && decide (a < 0x7020 + 0x20 * r.port))

/-- R205, cause 1: may it store to `a`? The input block is not writable. -/
def mayStore (r : Option TRun) (a : Nat) : Bool :=
  match r with
  | none => true
  | some r =>
    (r.slot.law.isNone) || (decide (r.dataBase ≤ a) && decide (a < r.dataBase + r.dataLen))
      || (decide (0x7010 + 0x20 * r.port ≤ a) && decide (a < 0x7020 + 0x20 * r.port))

/-- The data word at `a`. -/
def Tile.peek (t : Tile) (a : Nat) : DWord := tget 0 t.data a

/-- A load: 0 where the access is not allowed (R205). -/
def Tile.load (t : Tile) (a : Nat) : DWord := if mayLoad t.run a then t.peek a else 0

/-- A store, seen by every instruction that issues after it (R192); none where it is not allowed. -/
def Tile.store (t : Tile) (a : Nat) (v : DWord) : Tile :=
  if mayStore t.run a then { t with data := tset 0 t.data (a % 32768) v } else t

/-- The double word at an even address: low word there, high word after it (R189). An odd address is open (log entry 3). -/
def Tile.loadD (t : Tile) (a : Nat) : BitVec 48 :=
  if a % 2 = 1 then Config.oddDouble t.cyc
  else (t.load (a + 1) ++ t.load a : BitVec 48)

/-- A double word stored at an even address, low word first; what an odd one leaves in the two words is open (log entry 3). A low word that may not
be stored ends the slot before the high one (R205). -/
def Tile.storeD (t : Tile) (a : Nat) (v : BitVec 48) : Tile :=
  let w := if a % 2 = 1 then Config.oddDouble t.cyc else v
  if mayStore t.run a then (t.store a (w.setWidth 24)).store ((a + 1) % 32768) ((w >>> 24).setWidth 24) else t

/-- Are both words of a double word loadable, storable? -/
def mayLoadD (r : Option TRun) (a : Nat) : Bool := mayLoad r a && mayLoad r (a + 1)
def mayStoreD (r : Option TRun) (a : Nat) : Bool := mayStore r a && mayStore r (a + 1)

/-- What an instruction does in its cycle, before the sequencing: the tile after it, and whether an access was not
allowed (R205, cause 1). -/
abbrev TStep := Tile × Bool

/-- Post-modifies of an MM operand; equal pointers leave an open value (Table 8-5). -/
def Tile.post2 (t : Tile) (o : MemOp2) : Tile :=
  if o.p = o.q then t.resultP 1 o.p (Config.samePointer t.cyc)
  else (t.post o.p o.pmode o.m 1).post o.q o.qmode o.m 1

/-- What the class field of an opcode holds (Table 8-5), and whether the opcode uses S. -/
inductive TClass where
  | r | m | mm | k | i | b | u
deriving DecidableEq, Repr

/-- One row of Table 8-6 as the encoding needs it: opcode, class, use of S, destination, source 1, source 2 fields
and the largest legal value of the fields that select fewer than eight registers. -/
structure TRow where
  op : Nat
  cls : TClass
  s : Bool
  dst : Nat
  s1 : Nat
  s2 : Nat
deriving DecidableEq, Repr

/-- Table 8-6: opcode, class, S used, and for each register field the number of its legal values (1 = must be 0). -/
def tRows : List TRow :=
  [⟨0x00, .r, false, 1, 1, 1⟩, ⟨0x01, .m, false, 8, 1, 1⟩, ⟨0x02, .m, false, 1, 8, 1⟩, ⟨0x03, .mm, false, 8, 8, 1⟩,
   ⟨0x04, .mm, false, 8, 8, 1⟩, ⟨0x05, .m, false, 2, 1, 1⟩, ⟨0x06, .m, false, 2, 1, 1⟩, ⟨0x07, .m, true, 1, 2, 1⟩,
   ⟨0x08, .m, true, 2, 1, 1⟩, ⟨0x09, .m, true, 2, 1, 1⟩, ⟨0x0A, .r, true, 2, 8, 8⟩, ⟨0x0B, .r, true, 2, 8, 8⟩,
   ⟨0x0C, .r, true, 2, 8, 8⟩, ⟨0x0D, .m, true, 2, 8, 1⟩, ⟨0x0E, .mm, true, 2, 1, 1⟩, ⟨0x0F, .r, true, 2, 8, 1⟩,
   ⟨0x10, .r, true, 2, 2, 1⟩, ⟨0x11, .r, true, 2, 2, 1⟩, ⟨0x12, .k, true, 2, 1, 1⟩, ⟨0x13, .k, true, 8, 2, 1⟩] ++
  [⟨0x14, .r, true, 8, 8, 8⟩, ⟨0x15, .r, true, 8, 8, 8⟩, ⟨0x16, .r, true, 8, 8, 1⟩, ⟨0x17, .r, true, 8, 8, 1⟩,
   ⟨0x18, .r, true, 8, 8, 8⟩, ⟨0x19, .r, true, 8, 8, 8⟩, ⟨0x1A, .r, true, 8, 8, 8⟩, ⟨0x1B, .k, true, 8, 8, 1⟩,
   ⟨0x1C, .k, true, 8, 8, 1⟩, ⟨0x1D, .r, false, 8, 8, 8⟩, ⟨0x1E, .r, false, 8, 8, 8⟩, ⟨0x1F, .r, false, 8, 8, 8⟩,
   ⟨0x20, .r, true, 8, 8, 1⟩, ⟨0x21, .i, false, 8, 1, 1⟩, ⟨0x22, .i, false, 8, 1, 1⟩, ⟨0x23, .r, true, 1, 8, 8⟩,
   ⟨0x24, .i, true, 8, 8, 1⟩, ⟨0x25, .r, true, 8, 8, 1⟩, ⟨0x26, .r, true, 4, 8, 1⟩, ⟨0x27, .i, false, 8, 1, 1⟩] ++
  [⟨0x28, .i, false, 4, 1, 1⟩, ⟨0x29, .r, true, 4, 8, 1⟩, ⟨0x2A, .r, true, 8, 1, 1⟩, ⟨0x2B, .r, true, 8, 8, 1⟩,
   ⟨0x30, .b, false, 1, 1, 1⟩, ⟨0x31, .b, false, 1, 1, 1⟩, ⟨0x32, .b, false, 1, 1, 1⟩, ⟨0x33, .b, false, 1, 1, 1⟩,
   ⟨0x34, .b, false, 1, 1, 1⟩, ⟨0x35, .b, false, 2, 8, 1⟩, ⟨0x36, .u, false, 1, 1, 1⟩, ⟨0x37, .r, false, 1, 1, 1⟩]

def twOp (w : Word) : Nat := w.toNat / 2 ^ 26
def twS (w : Word) : Bool := decide (w.toNat / 2 ^ 25 % 2 = 1)
def twDst (w : Word) : Nat := w.toNat / 2 ^ 22 % 8
def twS1 (w : Word) : Nat := w.toNat / 2 ^ 19 % 8
def twS2 (w : Word) : Nat := w.toNat / 2 ^ 16 % 8
def twLow (w : Word) : Nat := w.toNat % 2 ^ 16

/-- Are the unused parts of the class field 0 and its used parts legal (Table 8-5)? -/
def classOk (op : Nat) (c : TClass) (f : Nat) : Bool :=
  match c with
  | .r => f == 0
  | .m => f % 512 == 0 && (f / 2048 % 4 == 3 || f / 512 % 4 == 0)
  | .mm =>
    f % 16 == 0 && f / 8192 != f / 256 % 8 && (f / 2048 % 4 == 3 || f / 64 % 4 == 3 || f / 16 % 4 == 0)
  | .k =>
    f < 64 && (if op = 0x13 then decide (f ≤ 9) else if op = 0x12 then true else decide (f ≤ 23))
  | .i => true
  | .b => f < 8192
  | .u => f < 32

/-- R197, R198, rule 1 of R204: is `w` a defined instruction with unused fields 0 and S clear where it is ignored? -/
def tDefined (w : Word) : Bool :=
  match tRows.find? (fun r => r.op == twOp w) with
  | none => false
  | some r =>
    (r.s || !twS w) && decide (twDst w < r.dst) && decide (twS1 w < r.s1) && decide (twS2 w < r.s2)
      && classOk r.op r.cls (twLow w) && (r.op != 0x2B || twDst w % 2 == 0)

end Sys2Proof.Machine
end

