-- ==== Sys2Proof/Machine/TileOps.lean ====
section
/-!
DEFINITION. What each tile instruction does in its cycle, and the sequencing around it: delay slots, loops, slot ends,
the sandbox (R190 to R199, R205). Everything here acts on one tile; what leaves the tile is listed as `TEv`.
-/
namespace Sys2Proof.Machine

/-- What a tile hands to the rest of the device. -/
inductive TEv where
  /-- PUB of a grant: words 0 to 7 of the output block of `port` (R199). -/
  | pub (run : TRun) (grant : Nat) (words : List DWord)
  /-- A slot ended: cause 0 for END, else Table 8-9; TSR.SAT at the end (R206). -/
  | slotEnd (run : TRun) (cause : Nat) (sat : Bool)
deriving DecidableEq, Repr, Inhabited

/-! ### Data moves -/

def tLd (dd : Fin 8) (o : MemOp) (t : Tile) : TStep :=
  let a := t.addr o.p
  ((t.resultD 2 dd (t.load a)).post o.p o.mode o.m 1, !mayLoad t.run a)

def tSt (ds : Fin 8) (o : MemOp) (t : Tile) : TStep :=
  let a := t.addr o.p
  ((t.store a (rdD t.ctx ds)).post o.p o.mode o.m 1, !mayStore t.run a)

def tLd2 (dd de : Fin 8) (o : MemOp2) (t : Tile) : TStep :=
  let a := t.addr o.p
  let b := t.addr o.q
  let t1 := if dd = de then t.resultD 2 dd (Config.sameDest t.cyc)
    else (t.resultD 2 dd (t.load a)).resultD 2 de (t.load b)
  (t1.post2 o, !(mayLoad t.run a && mayLoad t.run b))

def tLdst (dd ds : Fin 8) (o : MemOp2) (t : Tile) : TStep :=
  let a := t.addr o.p
  let b := t.addr o.q
  let t1 := (t.resultD 2 dd (t.load a)).store b (rdD t.ctx ds)
  (t1.post2 o, !(mayLoad t.run a && mayStore t.run b))

def tLdaw (ad : Fin 2) (o : MemOp) (t : Tile) : TStep :=
  let a := t.addr o.p
  ((t.resultA 2 ad (widen (t.load a))).post o.p o.mode o.m 1, !mayLoad t.run a)

def tLdda (ad : Fin 2) (o : MemOp) (t : Tile) : TStep :=
  let a := t.addr o.p
  ((t.resultA 2 ad (BitVec.ofInt 56 (t.loadD a).toInt)).post o.p o.mode o.m 2, !mayLoadD t.run a)

/-- R191: with S set the accumulator first saturates to the range of a double word. -/
def tStda (as_ : Fin 2) (s : Bool) (o : MemOp) (t : Tile) : TStep :=
  let a := t.addr o.p
  let r := narrow 48 s (rdA t.ctx as_).toInt
  let t1 := t.setCtx (orSat t.ctx r.2)
  ((t1.storeD a r.1).post o.p o.mode o.m 2, !mayStoreD t.run a)

/-! ### Accumulators -/

/-- An accumulator result with saturation or wrap (R190). -/
def Tile.accResult (t : Tile) (lat : Nat) (s : Bool) (ad : Fin 2) (x : Int) : Tile :=
  let r := narrow 56 s x
  (t.setCtx (orSat t.ctx r.2)).resultA lat ad r.1

def tAddD (ad : Fin 2) (s : Bool) (o : MemOp) (sub : Bool) (t : Tile) : TStep :=
  let a := t.addr o.p
  let x := (rdA t.ctx ad).toInt
  let y := (t.loadD a).toInt
  ((t.accResult 2 s ad (if sub then x - y else x + y)).post o.p o.mode o.m 2, !mayLoadD t.run a)

def tMpy (ad : Fin 2) (s : Bool) (x y : Fin 8) (t : Tile) : TStep :=
  (t.accResult 1 s ad (product (rdD t.ctx x) (rdD t.ctx y)), false)

def tMac (ad : Fin 2) (s : Bool) (x y : Fin 8) (neg : Bool) (t : Tile) : TStep :=
  let a := (rdA t.ctx ad).toInt
  let p := product (rdD t.ctx x) (rdD t.ctx y)
  (t.accResult 1 s ad (if neg then a - p else a + p), false)

def tMacr (ad : Fin 2) (s : Bool) (x : Fin 8) (o : MemOp) (t : Tile) : TStep :=
  let a := t.addr o.p
  ((t.accResult 2 s ad ((rdA t.ctx ad).toInt + product (rdD t.ctx x) (t.load a))).post o.p o.mode o.m 1,
    !mayLoad t.run a)

def tMacm (ad : Fin 2) (s : Bool) (o : MemOp2) (t : Tile) : TStep :=
  let a := t.addr o.p
  let b := t.addr o.q
  ((t.accResult 2 s ad ((rdA t.ctx ad).toInt + product (t.load a) (t.load b))).post2 o,
    !(mayLoad t.run a && mayLoad t.run b))

def tLda (ad : Fin 2) (x : Fin 8) (t : Tile) : TStep := (t.resultA 1 ad (widen (rdD t.ctx x)), false)

def tAdda (ad as_ : Fin 2) (s sub : Bool) (t : Tile) : TStep :=
  let x := (rdA t.ctx ad).toInt
  let y := (rdA t.ctx as_).toInt
  (t.accResult 1 s ad (if sub then x - y else x + y), false)

/-- SHA: `k` is the signed six-bit count, −32 to 31. -/
def tSha (ad : Fin 2) (s : Bool) (k : BitVec 6) (t : Tile) : TStep :=
  (t.accResult 1 s ad (shiftInt (rdA t.ctx ad).toInt k.toInt), false)

/-! ### Data registers -/

/-- A data result that saturates or wraps (R190) and sets Z and N (R194). -/
def Tile.datResult (t : Tile) (s : Bool) (dd : Fin 8) (x : Int) : Tile :=
  let r := narrow 24 s x
  (t.setCtx (setZN (orSat t.ctx r.2) r.1)).resultD 1 dd r.1

/-- A data result that sets Z and N and cannot leave the range. -/
def Tile.bitResult (t : Tile) (dd : Fin 8) (v : DWord) : Tile := (t.setCtx (setZN t.ctx v)).resultD 1 dd v

def tMva (dd : Fin 8) (as_ : Fin 2) (s : Bool) (sh : Nat) (t : Tile) : TStep :=
  (t.datResult s dd (narrowInt (rdA t.ctx as_) sh), false)

/-- The two-operand results of Table 8-6 as integers, before R190. -/
inductive TBin where
  | add | sub | min | max
deriving DecidableEq, Repr

def TBin.eval : TBin → Int → Int → Int
  | .add, x, y => x + y
  | .sub, x, y => x - y
  | .min, x, y => Min.min x y
  | .max, x, y => Max.max x y

def tBin (op : TBin) (dd : Fin 8) (s : Bool) (x y : Fin 8) (t : Tile) : TStep :=
  (t.datResult s dd (op.eval (rdD t.ctx x).toInt (rdD t.ctx y).toInt), false)

def tNeg (dd : Fin 8) (s : Bool) (x : Fin 8) (t : Tile) : TStep := (t.datResult s dd (-(rdD t.ctx x).toInt), false)

def tAbs (dd : Fin 8) (s : Bool) (x : Fin 8) (t : Tile) : TStep :=
  (t.datResult s dd ((rdD t.ctx x).toInt.natAbs), false)

/-- CLIP: the bound must not be negative; with a negative bound the result is open (log entry 3). SAT never acts. -/
def tClip (dd x y : Fin 8) (t : Tile) : TStep :=
  let v := (rdD t.ctx x).toInt
  let b := (rdD t.ctx y).toInt
  (t.bitResult dd (if b < 0 then Config.clipNegative t.cyc else BitVec.ofInt 24 (min b (max (-b) v))), false)

def tShift (dd : Fin 8) (s : Bool) (x : Fin 8) (k : Int) (t : Tile) : TStep :=
  (t.datResult s dd (shiftInt (rdD t.ctx x).toInt k), false)

def tLogic (f : DWord → DWord → DWord) (dd x y : Fin 8) (t : Tile) : TStep :=
  (t.bitResult dd (f (rdD t.ctx x) (rdD t.ctx y)), false)

def tMov (dd x : Fin 8) (t : Tile) : TStep := (t.bitResult dd (rdD t.ctx x), false)

def tLdi (dd : Fin 8) (imm : BitVec 16) (t : Tile) : TStep := (t.resultD 1 dd (imm.signExtend 24), false)

def tLdiq (dd : Fin 8) (imm : BitVec 16) (t : Tile) : TStep := (t.resultD 1 dd (imm ++ (0 : BitVec 8)), false)

/-- CMP: the flags of the exact difference, which is not narrowed (log entry 12). -/
def tCmp (x y : Fin 8) (t : Tile) : TStep :=
  let r := (rdD t.ctx x).toInt - (rdD t.ctx y).toInt
  (t.setCtx { t.ctx with z := decide (r = 0), n := decide (r < 0) }, false)

/-! ### Pointers, modifiers, buffers, status, angles -/

def tLea (pd ps : Fin 8) (imm : BitVec 16) (t : Tile) : TStep :=
  (t.result 2 (.p pd) ((BitVec.ofInt 15 ((rdP t.ctx ps).toNat + imm.toInt)).setWidth 56), false)

def tMovp (pd x : Fin 8) (t : Tile) : TStep := (t.result 2 (.p pd) ((rdD t.ctx x).setWidth 15 |>.setWidth 56), false)

def tMovm (md : Fin 4) (x : Fin 8) (t : Tile) : TStep :=
  (t.result 2 (.m md) ((rdD t.ctx x).setWidth 15 |>.setWidth 56), false)

def tLdip (pd : Fin 8) (imm : BitVec 16) (t : Tile) : TStep := (t.result 2 (.p pd) (imm.setWidth 15 |>.setWidth 56), false)

def tLdim (md : Fin 4) (imm : BitVec 16) (t : Tile) : TStep := (t.result 2 (.m md) (imm.setWidth 15 |>.setWidth 56), false)

def tSetc (c : Fin 4) (x : Fin 8) (t : Tile) : TStep :=
  (t.result 2 (.c c) ((rdD t.ctx x).setWidth 15 |>.setWidth 56), false)

def tMovs (dd : Fin 8) (t : Tile) : TStep := (t.resultD 1 dd (tsr t.ctx t.inEvent), false)

/-- TRIG: sine to D(2·pair), cosine to D(2·pair+1), 12 cycles later (R196). -/
def tTrig (pair : Fin 4) (x : Fin 8) (t : Tile) : TStep :=
  let a := (rdD t.ctx x).toNat
  let even : Fin 8 := ⟨2 * pair.val, by omega⟩
  let odd : Fin 8 := ⟨2 * pair.val + 1, by omega⟩
  ((t.resultD 12 even (trigResult (sinTurn a) (Config.sine a))).resultD 12 odd
    (trigResult (sinTurn (a + 2 ^ 22)) (Config.cosine a)), false)

/-! ### Control -/

/-- Two delay slots, then `k` (R194). -/
def Tile.delayed (t : Tile) (k : TAfter) : Tile := t.setCtx { t.ctx with delay := 2, after := k }

def tBranch (taken : Bool) (target : BitVec 13) (t : Tile) : TStep :=
  (if taken then t.delayed (.jump target) else t, false)

/-- LOOP (R194): a count of 0 continues behind the body, after two delay slots. -/
def tLoop (inner : Bool) (x : Fin 8) (last : BitVec 13) (t : Tile) : TStep :=
  let n : BitVec 16 := (rdD t.ctx x).setWidth 16
  let c := t.ctx
  let c := if inner then { c with lc1 := n } else { c with lc0 := n }
  if n = 0 then ((t.setCtx c).delayed (.jump (last + 1)), false)
  else if inner then (t.setCtx { c with l1act := true, l1start := c.pc + 1, l1end := last }, false)
  else (t.setCtx { c with l0act := true, l0start := c.pc + 1, l0end := last }, false)

def tEnd (t : Tile) : TStep := (t.delayed .slotEnd, false)

/-- Where the next instruction issues when no delay slot is outstanding: loop ends are tested inner first. -/
def nextPc (c : TCtx) : TCtx :=
  if c.l1act && c.pc = c.l1end then
    (if c.lc1 = 1 then { c with lc1 := 0, l1act := false, pc := c.pc + 1 }
     else { c with lc1 := c.lc1 - 1, pc := c.l1start })
  else if c.l0act && c.pc = c.l0end then
    (if c.lc0 = 1 then { c with lc0 := 0, l0act := false, pc := c.pc + 1 }
     else { c with lc0 := c.lc0 - 1, pc := c.l0start })
  else { c with pc := c.pc + 1 }

/-- The slot of the present context ends: SAT is handed on and cleared (R206), loops and delay slots end. `cause` is 0
for END; END of a custom law without PUB of grant 0 is cause 4 of Table 8-9. -/
def Tile.endSlot (t : Tile) (cause : Nat) : Tile × List TEv :=
  let c := t.ctx
  let t1 := (t.setCtx { c with sat := false, delay := 0, l0act := false, l1act := false }).setRun none
  match t.run with
  | none => (t1, [])
  | some r =>
    let cause := if cause = 0 && r.slot.law.isSome && !r.published then 4 else cause
    (t1, [.slotEnd r cause c.sat])

/-- R205: would the running slot break its sandbox by issuing now? Cause 2 for the program window, cause 3 for the
declared count reached without END. -/
def Tile.brokenBefore (t : Tile) : Nat :=
  match t.run with
  | none => 0
  | some r =>
    if r.slot.law.isNone then 0
    else if t.ctx.pc.toNat < r.progBase || r.progBase + r.progLen ≤ t.ctx.pc.toNat then 2
    else if r.declared ≤ r.count && !(decide (0 < t.ctx.delay) && t.ctx.after = .slotEnd) then 3
    else 0

/-- Time passes: `n` cycles of the tile and of the running slot. -/
def Tile.tick (t : Tile) (n : Nat) : Tile :=
  let t := { t with cyc := t.cyc + n, used := t.used + n }
  match t.run with
  | none => t
  | some r => t.setRun (some { r with count := r.count + n })

/-- The sequencing after an instruction that found `d0` delay slots outstanding. -/
def Tile.advance (t : Tile) (d0 : Nat) : Tile × List TEv :=
  let c := t.ctx
  if d0 = 0 || c.delay = 2 then
    (t.setCtx (if c.delay = 0 then nextPc c else { c with pc := c.pc + 1 }), [])
  else if c.delay = 1 then
    match c.after with
    | .jump p => (t.setCtx { c with delay := 0, pc := p }, [])
    | .slotEnd => t.endSlot 0
  else (t.setCtx { c with delay := c.delay - 1, pc := c.pc + 1 }, [])

/-- One instruction issues on a tile: earlier results land, the sandbox is checked, the instruction acts, `n` cycles
pass, and control goes on. The delay count is lowered here for the slots found outstanding. -/
def Tile.issue (t : Tile) (n : Nat) (op : Tile → TStep) : Tile × List TEv :=
  let t := t.land
  let b := t.brokenBefore
  if b ≠ 0 then t.endSlot b
  else
    let d0 := t.ctx.delay
    let r := op t
    if r.2 then (r.1.tick n).endSlot 1
    else
      let t2 := r.1.tick n
      if d0 = 2 && t2.ctx.delay = 2 then (t2.setCtx { t2.ctx with delay := 1, pc := t2.ctx.pc + 1 }, [])
      else t2.advance d0

/-- PUB: the words of the output block as they stand at the end of its cycles (R199). -/
def Tile.publish (t : Tile) (grant : Nat) : Tile × List TEv :=
  let cur := match t.run with | some r => r.slot.current | none => true
  let n := if cur then 4 else 2
  let r := t.issue n (fun t =>
    (match t.run with | some r => t.setRun (some { r with published := r.published || grant = 0 }) | none => t, false))
  match t.land.run with
  | none => r
  | some run =>
    if t.land.brokenBefore ≠ 0 then r
    else (r.1, .pub run grant (tread 0 t.land.data (0x7010 + 0x20 * run.port) (2 * n)) :: r.2)

end Sys2Proof.Machine
end

