-- ==== Sys2Proof/Machine/Servo.lean ====
section
/-!
DEFINITION. The loop stages: position and velocity, current, predictive law, vector modulation, port blocks of custom laws,
and the slots of the tiles (R160 to R171, R188, R199 to R206).
-/
namespace Sys2Proof.Machine

open Fld

/-! ### The position and velocity stage (R160, R161) -/

/-- One step of a biquad. -/
def Biquad.step (q : Biquad) (s : BqState) (x : Rat) : Rat × BqState :=
  let y := cut (q.b0 * x + q.b1 * s.x1 + q.b2 * s.x2 - q.a1 * s.y1 - q.a2 * s.y2)
  (y, { x1 := x, x2 := s.x1, y1 := y, y2 := s.y1 })

/-- Speed error of R160 with the bits of AXn_SAT. -/
def speedError (c : AxisCfg) (a : Axis) : Rat × BqState × Nat :=
  let e := c.diff (a.pNext - a.pFb)
  let raw := c.kp * e + c.kvff * a.vNext
  let lim := c.vcmdMax * c.vu
  let cmd := clampR (-lim) lim raw
  let f := c.f1.step a.loop.f1 (c.si (a.vFb * c.vu))
  (c.si cmd - f.1, f.2, if cmd = raw then 0 else 1)

/-- The torque after the filters and the feed-forward, clamped: new loop values and the bits of AXn_SAT. -/
def torqueStage (c : AxisCfg) (a : Axis) (l : Loop) (tpi : Rat) : Loop × Nat :=
  let tff := cut (c.affInertia * c.si a.aNext + c.ktff * a.tDyn)
  let f2 := c.f2.step l.f2 tpi
  let n1 := c.n1.step l.n1 f2.1
  let n2 := c.n2.step l.n2 n1.1
  let raw := n2.1 + tff
  let m := c.tMax / 1000
  let t := clampR (-m) m raw
  ({ l with f2 := f2.2, n1 := n1.2, n2 := n2.2, tFf := tff, tCmd := t, satT := decide (t ≠ raw), satDir := signR raw, iqNext := cut (t / c.kt) },
   if t = raw then 0 else 4)

/-- The stage of a major frame for a servo axis; its reference is used from the next major frame (R160). -/
def outerStage (d : Dev) (n : Nat) : Dev :=
  let a := d.axis n
  let c := d.acfg n
  if !a.live ∨ (c.kind ≠ .remote ∧ c.kind ≠ .local_) ∨ a.outer = 4 then d
  else if a.outer = 3 then
    let r := torqueStage c a a.loop (a.target / 1000)
    axSat (d.setAxis n { a with loop := r.1 }) n r.2
  else
    let held := decide (2 ≤ a.age0)
    let e := speedError c a
    let l := a.loop
    let block := l.satT && decide (signR e.1 = l.satDir)
    let integ := if held || block || decide (c.tiV = 0) then l.integ else cut (l.integ + e.1 * d.sMajor / c.tiV)
    let l := { l with f1 := e.2.1, ev := e.1, integ := integ }
    let r := torqueStage c a l (cut (c.kv * (e.1 + integ)))
    axSat (d.setAxis n { a with loop := r.1 }) n (e.2.2 ||| r.2 ||| (if block && !held then 2 else 0))

/-! ### The current stage (R163 to R167) -/

/-- Current reference of minor frame `i` (R163), clamped by R166; answers whether the clamp acted. -/
def currentRef (c : AxisCfg) (l : Loop) (M i : Nat) : Rat × Bool :=
  let x := if c.iqInterp then l.iqPrev + (i + 1) * (l.iqRef - l.iqPrev) / (max 1 M : Nat) else l.iqRef
  if c.iMax / 1000 < absR x then
    let m := sqrtR (max 0 (c.iMax * c.iMax - c.idRef * c.idRef)) / 1000
    (if x < 0 then -m else m, true)
  else (x, false)

/-- The current reference of the present minor frame; a method that ends at a hard stop clamps to HOME_ILIM (Table 5-8). -/
def curRefNow (d : Dev) (n : Nat) : Rat × Bool :=
  let c := d.acfg n
  currentRef (if hardStop d n && decide (0 < c.homeIlim) then { c with iMax := min c.iMax c.homeIlim } else c) (d.axis n).loop d.M d.minor

/-- Electrical angle (2^-24 rev) of a position in axis units (R164). -/
def elecAngle (c : AxisCfg) (p : Rat) : Rat :=
  let th := if c.fbLoad = 0xFF then p else p / c.gearRatio
  (if c.rotary then c.elecScale * th else c.elecScale * th / 1000000000 * 2 ^ 24) + c.angleOffset

/-- Electrical speed in revolutions per second. -/
def elecSpeed (c : AxisCfg) (v : Rat) : Rat := if c.rotary then c.elecScale * v / 4096 else c.elecScale * v / 1000000

/-- √3, as the transforms use it. -/
def root3 : Rat := sqrtR 3

/-- d and q currents (A) of phase currents in mA at an electrical angle (R164). -/
def parkClarke (phases : Nat) (ia ib ic th : Rat) : Rat × Rat :=
  let al := if phases = 2 then ia else (2 * ia - ib - ic) / 3
  let be := if phases = 2 then (ia + 2 * ib) / root3 else (ib - ic) / root3
  (cut ((al * cosR th + be * sinR th) / 1000), cut ((be * cosR th - al * sinR th) / 1000))

/-- Phase voltages of a voltage vector at an angle. -/
def phaseVolts (ud uq th : Rat) : List Rat :=
  let ua := cut (ud * cosR th - uq * sinR th)
  let ub := cut (ud * sinR th + uq * cosR th)
  [ua, cut (-ua / 2 + root3 / 2 * ub), cut (-ua / 2 - root3 / 2 * ub)]

/-- vlimit (R165). -/
def vlimit (lim ud uq : Rat) : Rat × Rat × Bool × Bool :=
  let d := clampR (-lim) lim ud
  let m := sqrtR (max 0 (lim * lim - d * d))
  let q := clampR (-m) m uq
  (d, q, decide (d ≠ ud), decide (q ≠ uq))

/-- svm (R167): duties of the phases. -/
def svm (u : List Rat) (vbus : Rat) : List Rat :=
  let hi := u.foldl max (u.headD 0)
  let lo := u.foldl min (u.headD 0)
  u.map (fun x => if vbus = 0 then 1 / 2 else clampR 0 1 (1 / 2 + (x - (hi + lo) / 2) / vbus))

/-- Bus voltage in V (R168). -/
def busVolts (c : AxisCfg) (a : Axis) : Rat := (if c.vbusSrc = 2 then c.vbusFix else a.sample.vbus) / 1000

/-- First move of the predictive law for one component (R170): model i' = α i + β u, previous voltage `u0`, reference `r`.
Four moves minimise the sum; the first is applied. -/
def predictMove (al be i0 u0 r qI qU : Rat) : Rat × Rat :=
  let i1 := cut (al * i0 + be * u0)
  let g := fun (k j : Nat) => if j ≤ k then be * al ^ (k - j) else 0
  let h : Mat := (List.range 4).map (fun i => (List.range 4).map (fun j =>
    cut (qI * ((List.range 4).map (fun k => g k i * g k j)).sum
      + (if i = j then (if i = 3 then qU else 2 * qU) else if i + 1 = j ∨ j + 1 = i then -qU else 0))))
  let rhs := (List.range 4).map (fun i =>
    cut (qI * ((List.range 4).map (fun k => g k i * (r - al ^ (k + 1) * i1))).sum + (if i = 0 then qU * u0 else 0)))
  ((Mat.solve h rhs).getD 0 0, i1)

/-- Duties go to the power stage: the bridge group's staging, or the next command record. -/
def axPublish (d : Dev) (n : Nat) (duty : List Rat) : Dev :=
  let c := d.acfg n
  let a := d.axis n
  let d := d.setAxis n { a with loop := { a.loop with duty := duty } }
  if c.kind = .local_ then pwmPublish d c.bridge d.tMinor duty else d

/-- Overcurrent of R166: |i| above I_TRIP in two consecutive minor frames. -/
def overCurrent (d : Dev) (n : Nat) : Dev :=
  let a := d.axis n
  let c := d.acfg n
  let i2 := a.lastDq.1 * a.lastDq.1 + a.lastDq.2 * a.lastDq.2
  let excess := decide (0 < c.iTrip) && decide (c.iTrip * c.iTrip < i2 * 1000000)
  let n2 := if excess then a.overI + 1 else 0
  let d := d.setAxis n { a with overI := min 255 n2 }
  if 2 ≤ n2 then axFaults d n [(0x12, truncR (sqrtR i2 * 1000))] else d

/-- OVERCURRENT as a row of its own. -/
def overCurrentEvent (d : Dev) (n : Nat) : Dev :=
  let a := d.axis n
  if 2 ≤ a.overI then axFaults d n [(0x12, truncR (sqrtR (a.lastDq.1 * a.lastDq.1 + a.lastDq.2 * a.lastDq.2) * 1000))] else d

/-- The measured d and q currents, kept while the sample is aged (Table 7-4). -/
def measure (d : Dev) (n : Nat) : Dev :=
  let a := d.axis n
  let c := d.acfg n
  if a.age = 0 then
    let i := parkClarke c.phases a.sample.ia a.sample.ib a.sample.ic (elecAngle c a.sample.pos)
    d.setAxis n { a with lastDq := i }
  else d

/-- Voltage vector of PI or of the predictive law (R164, R170): loop values, the bits of AXn_SAT. -/
def voltStage (c : AxisCfg) (a : Axis) (tm : Rat) (iref w : Rat) (held : Bool) : Loop × Nat :=
  let l := a.loop
  let (id, iq) := a.lastDq
  let ed := c.idRef / 1000 - id
  let eq := iref - iq
  let dd := if c.decouple then w * c.lQ * iq else 0
  let dq := if c.decouple then w * (c.lD * id + c.psi) else 0
  let lim := c.modMax * busVolts c a / root3
  if a.curLaw = 1 then
    let md := predictMove (1 - tm * c.rS / c.lD) (tm / c.lD) id l.predU.1 (c.idRef / 1000) c.qI c.qU
    let mq := predictMove (1 - tm * c.rS / c.lQ) (tm / c.lQ) iq l.predU.2 iref c.qI c.qU
    let v := vlimit lim (md.1 - dd) (mq.1 + dq)
    let l := { l with ed := ed, eq := eq, ud := cut v.1, uq := cut v.2.1, id := id, iq := iq, iqUsed := iref }
    (if held then l else { l with predU := (cut (v.1 + dd), cut (v.2.1 - dq)), predI := (md.2, mq.2) },
     if v.2.2.1 || v.2.2.2 then 32 else 0)
  else
    let v := vlimit lim (c.kpI * ed + l.xd - dd) (c.kpI * eq + l.xq + dq)
    let bd := v.2.2.1 && decide (signR ed = signR v.1)
    let bq := v.2.2.2 && decide (signR eq = signR v.2.1)
    let step := fun (e : Rat) => if c.tiI = 0 then 0 else c.kpI * tm / c.tiI * e
    let l := { l with ed := ed, eq := eq, ud := cut v.1, uq := cut v.2.1, id := id, iq := iq, iqUsed := iref,
                      xd := if held || bd then l.xd else cut (l.xd + step ed), xq := if held || bq then l.xq else cut (l.xq + step eq) }
    (l, (if v.2.2.1 || v.2.2.2 then 32 else 0) + (if bd && !held then 8 else 0) + (if bq && !held then 16 else 0))

/-- Angle advance w_e × T_delay in 2^-24 rev (R164). -/
def advance (d : Dev) (c : AxisCfg) (a : Axis) (v : Rat) : Rat :=
  elecSpeed c v * (3 * d.sMinor / 2 - (a.sampleOfs : Rat) / 800000000) * 2 ^ 24

/-- The integrators hold: degraded, or the command was aged (R164, R173). -/
def curHeld (a : Axis) : Bool := decide (2 ≤ a.age) || decide (0 < a.sample.cmdAge)

/-- The current stage of a servo axis in the present minor frame. -/
def currentStage (d : Dev) (n : Nat) : Dev :=
  let c := d.acfg n
  if !(d.axis n).live ∨ (c.kind ≠ .remote ∧ c.kind ≠ .local_) then d
  else
    let d := overCurrent (measure d n) n
    let a := d.axis n
    if !a.live then d
    else
      let r := curRefNow d n
      let p := axPos d n
      let pm := if a.age = 0 then a.sample.pos else a.sample.pos + a.sample.speed * c.vu * d.sMinor * a.age
      let w := 2 * piR * elecSpeed c p.2
      let v := voltStage c a d.sMinor r.1 w (curHeld a)
      let d := axSat (d.setAxis n { a with loop := v.1 }) n (v.2 ||| (if r.2 then 4 else 0))
      let u := phaseVolts v.1.ud v.1.uq (elecAngle c pm + advance d c a p.2)
      axPublish d n (svm u (busVolts c a))

/-- The minor-frame stage of a stepper (chapter 12). -/
def stepperStage (d : Dev) (n : Nat) : Dev :=
  let c := d.acfg n
  let a := d.axis n
  let k := c.stepper
  let s := d.stpCfg k
  let d := stepperAdvance d k d.minor
  if d.b (STP_CFG_OUT k) then stepperPulses d k d.tMinor (a.live && a.outputsOn)
  else if !a.live then d
  else
    let cur := fun (i : Nat) => if i < 0xFF then sdReal d i / 1000 else 0
    let r := stepperBridge d k d.tMinor c.modMax (busVolts c a) (cur s.sdA) (cur s.sdB)
    if r.2 then axSat r.1 n 32 else r.1

/-- What Felade's slot program does for an axis at one stage. -/
def feladeSlot (d : Dev) (s : TSlot) : Dev :=
  if s.current then (if (d.acfg s.axis).kind = .stepper then stepperStage d s.axis else
    if (d.axis s.axis).curLaw = 2 then d else currentStage d s.axis)
  else outerStage d s.axis

/-! ### Port blocks of custom laws (R200, R201) -/

/-- A fraction as a Q1.23 word, cut and kept in range. -/
def toQ (x : Rat) : DWord := BitVec.ofInt 24 (clampI (-(2 ^ 23)) (2 ^ 23 - 1) (x * 8388608).floor)
/-- A one-turn angle as a word. -/
def toAngle (x : Rat) : DWord := BitVec.ofInt 24 x.floor
def ofQ (v : DWord) : Rat := v.toInt / 8388608

/-- A position as a double word. -/
def toDouble (x : Rat) : List DWord :=
  let v := BitVec.ofInt 48 (truncR x)
  [v.setWidth 24, (v >>> 24).setWidth 24]

/-- Full scales of an axis: current (A), speed and acceleration (position units), torque (N·m). -/
def scaleI (c : AxisCfg) : Rat := 2 * c.iTrip / 1000
def axVmaxOf (d : Dev) (c : AxisCfg) (n : Nat) : Rat × Rat :=
  match c.group.bind d.grpCfg with
  | some g => let j := g.joints.getD (g.axes.idxOf n) {}; (j.vmax * c.vu, j.amax * c.au)
  | none => (c.axVmax * c.vu, c.axAcc * c.au)
def scaleT (c : AxisCfg) : Rat := 2 * c.tMax / 1000
def excess (x y : Rat) : Rat := if y = 0 then 0 else x / y

/-- Input block of a current-stage law (Table 8-7). -/
def currentBlock (d : Dev) (n : Nat) : List DWord :=
  let c := d.acfg n
  let a := d.axis n
  let vb := busVolts c a
  let r := curRefNow d n
  let p := axPos d n
  let flags : Int := (if curHeld a then -(2 ^ 23) else 0) + (if a.first then 2 ^ 22 else 0)
  let i := fun (x : Rat) => toQ (excess (x / 1000) (scaleI c))
  [toAngle (elecAngle c a.sample.pos), toAngle (advance d c a p.2), i a.sample.ia, i a.sample.ib, i c.idRef, toQ (excess r.1 (scaleI c)),
   BitVec.ofInt 24 flags, if c.phases = 2 then 0 else i a.sample.ic, toQ (vb / 1024), toQ (excess a.loop.ud vb), toQ (excess a.loop.uq vb),
   BitVec.ofNat 24 a.age, 0, 0, 0, 0]

/-- Input block of an outer-stage law (Table 8-8). -/
def outerBlock (d : Dev) (n : Nat) : List DWord :=
  let c := d.acfg n
  let a := d.axis n
  let fs := axVmaxOf d c n
  let flags : Int := (if 2 ≤ a.age0 then -(2 ^ 23) else 0) + (if a.first then 2 ^ 22 else 0) + (if c.modulo then 2 ^ 21 else 0)
  toDouble a.pNext ++ toDouble a.pFb ++ [toQ (excess a.vNext (2 * fs.1)), toQ (excess a.aNext (2 * fs.2)), toQ (excess (a.vFb * c.vu) (2 * fs.1)),
    toQ (excess a.tDyn (scaleT c)), BitVec.ofInt 24 flags, BitVec.ofNat 24 a.age0, 0, 0, 0, 0, 0, 0]

/-- A published current-stage block (R199, R200). -/
def pubCurrent (d : Dev) (n : Nat) (w : List DWord) : Dev :=
  let c := d.acfg n
  let a := d.axis n
  let q := fun k => ofQ (w.getD k 0)
  let vb := busVolts c a
  let l := { a.loop with ed := q 0 * scaleI c, eq := q 1 * scaleI c, ud := q 2 * vb, uq := q 3 * vb, id := a.lastDq.1, iq := a.lastDq.2,
                         iqUsed := (curRefNow d n).1 }
  let d := d.setAxis n { a with loop := l, first := false }
  if a.live then axPublish d n [max 0 (q 4), max 0 (q 5), max 0 (q 6)] else d

/-- A published outer-stage block (R199, R201). -/
def pubOuter (d : Dev) (n : Nat) (w : List DWord) : Dev :=
  let c := d.acfg n
  let a := d.axis n
  let q := fun k => ofQ (w.getD k 0)
  let m := c.tMax / 1000
  let raw := q 0 * scaleT c
  let t := clampR (-m) m raw
  let fs := axVmaxOf d c n
  let l := { a.loop with tCmd := t, tFf := q 1 * scaleT c, ev := c.si (q 2 * 2 * fs.1), iqNext := cut (t / c.kt) }
  axSat (d.setAxis n { a with loop := l, first := false }) n (if t = raw then 0 else 4)

/-! ### Slots of a tile (R188, R203) -/

/-- A custom law serves its axis now: selected for the stage, the axis under control. -/
def lawRuns (d : Dev) (s : TSlot) (k : Nat) : Bool :=
  let a := d.axis s.axis
  a.live && decide (a.lawIdx = k) && (if s.current then decide (a.curLaw = 2) else decide (a.outer = 4))

/-- Entry of a custom-law slot (R203): input block, pointers, cleared flags. -/
def enterLaw (b : Blk) (n : Nat) (s : TSlot) (l : CustomLaw) : Blk :=
  let bd := l.bindings.getD s.binding {}
  let d := if s.current then overCurrent (measure b.dev s.axis) s.axis else b.dev
  let words := if s.current then currentBlock d s.axis else outerBlock d s.axis
  let t := (b.tile n).land
  let t := { t with data := tfill 0 t.data (0x7000 + 0x20 * bd.port) words }
  let c := t.ctx
  let p := tset 0 (tset 0 (tset 0 c.p 0 (BitVec.ofNat 15 bd.dataBase)) 1 (BitVec.ofNat 15 (0x7000 + 0x20 * bd.port))) 2
    (BitVec.ofNat 15 (0x7010 + 0x20 * bd.port))
  let t := t.setCtx { c with p := p, l0act := false, l1act := false, z := false, n := false, sat := false, pc := s.entry, delay := 0 }
  let r : TRun := { slot := s, dataBase := bd.dataBase, dataLen := bd.dataLen, progBase := l.progBase, progLen := l.code.length,
                    port := bd.port, declared := l.declared }
  { b with dev := d }.setTile n (t.setRun (some r))

/-- Slots still to run of the present context. -/
def Tile.setNext (t : Tile) (l : List TSlot) : Tile := if t.inEvent then { t with chainNext := l } else { t with mainNext := l }

/-- Run a list of slots in the present context: Felade's slots act at once, using at most the cycles admitted (R168, R171; log
entry 40); the first custom law that serves its axis is entered and the rest waits for its END. -/
def runSlots (b : Blk) (n : Nat) : List TSlot → Blk
  | [] => b.setTile n ((b.tile n).setNext [])
  | s :: r =>
    match s.law with
    | none =>
      let x := b.dev.free
      let most := if s.current then (if (b.dev.acfg s.axis).predCap then 541 else 181) else 421
      let t := b.tile n
      runSlots ({ b with dev := feladeSlot x.2 s }.setTile n { t with used := t.used + x.1 % most, cyc := t.cyc + x.1 % most }) n r
    | some k =>
      match b.dev.law k with
      | some l => if lawRuns b.dev s k then (enterLaw b n s l).setTile n (((enterLaw b n s l).tile n).setNext r) else runSlots b n r
      | none => runSlots b n r

/-- CTX and RUN of a tile's status register. -/
def tileRegs (b : Blk) (n : Nat) : Blk := { b with dev := b.dev.setB (TILE_STATUS_CTX n) (b.tile n).inEvent }

/-- A trigger switches the tile to the event context and starts the entry's chain (R188). -/
def tileSwitch (b : Blk) (n e : Nat) : Blk :=
  let t := b.tile n
  match tget none t.events e with
  | none => b
  | some en =>
    let x := b.dev.free
    let d := x.2.peak (TILE_ENTRY_PEAK n) (1 + x.1 % 5)
    tileRegs (runSlots ({ b with dev := d }.setTile n { t with inEvent := true }) n en.chain) n

/-- The event context has no slot left: back to the main context, then held triggers in ascending entry order. -/
def tileReturn : Nat → Blk → Nat → Blk
  | 0, b, _ => b
  | k + 1, b, n =>
    let t := b.tile n
    if t.inEvent && t.eventRun.isNone && t.chainNext.isEmpty then
      let b := tileRegs (b.setTile n { t with inEvent := false, heldTrig := t.heldTrig.drop 1 }) n
      match t.heldTrig with
      | [] => if t.mainRun.isNone then runSlots b n (b.tile n).mainNext else b
      | e :: _ => tileReturn k (tileSwitch b n e) n
    else b

/-- A trigger held for the main context's delay slots is taken once none is outstanding (R188). -/
def tileTake (b : Blk) (n : Nat) : Blk :=
  let t := b.tile n
  if t.inEvent || decide (0 < t.main.delay) then b
  else match t.heldTrig with
    | [] => b
    | e :: r => tileReturn (r.length + 1) (tileSwitch (b.setTile n { t with heldTrig := r }) n e) n

/-- TILE_EVENT (R188): held while the event context runs or the main context has a delay slot outstanding, else the switch. -/
def tileEvent (b : Blk) (n e : Nat) : Blk :=
  let t := b.tile n
  if t.inEvent || decide (0 < t.main.delay) then b.setTile n { t with heldTrig := sortBy (fun (x y : Nat) => decide (x < y)) (t.heldTrig ++ [e]) }
  else tileReturn (t.heldTrig.length + 1) (tileSwitch b n e) n

/-- After the end of a slot: the next of its list or chain. -/
def tileNext (b : Blk) (n : Nat) : Blk :=
  let t := b.tile n
  let b := runSlots b n (if t.inEvent then t.chainNext else t.mainNext)
  tileReturn (t.heldTrig.length + 1) b n

/-- What a tile handed out: published blocks, ended slots (R199, R205, R206). -/
def tileEv (b : Blk) (n : Nat) : TEv → Blk
  | .pub r g w =>
    if g = 0 then { b with dev := if r.slot.current then pubCurrent b.dev r.slot.axis w else pubOuter b.dev r.slot.axis w } else b
  | .slotEnd r cause sat =>
    let ax := r.slot.axis
    let d := b.dev
    let d := if sat then axSat d ax (if r.slot.law.isSome then 128 else 64) else d
    let d := match r.slot.law with
      | none => d
      | some k =>
        if cause = 0 then (d.setF (CLAW_LAST_LAST k) r.count).peak (CLAW_PEAK_PEAK k) r.count
        else
          let d := (((d.setB (TILE_SBX_VIOL n) true).setF (TILE_SBX_CAUSE n) cause).setF (TILE_SBX_LAW n) k).count (TILE_SBX_COUNT n)
          d.setAxis ax { d.axis ax with fallback := some (k, cause) }
    tileNext { b with dev := d } n

/-- An instruction of a tile and everything that follows from it. -/
def tileRun (b : Blk) (n : Nat) (r : Tile × List TEv) : Blk := tileTake (forEach r.2 (fun x e => tileEv x n e) (b.setTile n r.1)) n

/-- DECLARED_COUNT_REACHED (R205): a slot that has used its declared count without END is ended. -/
def declaredReached (b : Blk) (n : Nat) : Blk :=
  let t := (b.tile n).land
  if t.brokenBefore = 3 then tileRun b n (t.endSlot 3) else b

/-- Tiles at a minor boundary: use counters, and the main slots of the minor index (R188, R207). -/
def tileMinor (b : Blk) (n : Nat) : Blk :=
  let t := b.tile n
  let d := (b.dev.setF (TILE_USE_LAST n) t.used).peak (TILE_PEAK_PEAK n) t.used
  let d := d.setB (TILE_STATUS_RUN n) (t.mainList.any (fun e => !e.2.isEmpty) || t.events.any (fun e => e.2.isSome))
  let b := { b with dev := d }.setTile n { t with used := 0 }
  let slots := tget [] t.mainList d.minor
  if t.inEvent then b.setTile n { b.tile n with mainNext := (b.tile n).mainNext ++ slots }
  else if t.mainRun.isSome then b.setTile n { b.tile n with mainNext := (b.tile n).mainNext ++ slots }
  else runSlots b n ((b.tile n).mainNext ++ slots)

end Sys2Proof.Machine
end

