-- ==== Sys2Proof/Machine/PathGeom.lean ====
section
/-!
DEFINITION. Segment entries, their checks, segment geometry, planning of profiles and set points along a path (R107 to R118,
R133 to R139).
-/
namespace Sys2Proof.Machine

open Fld

/-! ### Entries (Tables 5-3 and 5-4) -/

def Entry.ty (e : Entry) : Nat := leAt e.raw 0 1
def Entry.flag (e : Entry) (k : Nat) : Bool := (leAt e.raw 1 1).testBit k
def Entry.frame (e : Entry) : Nat := leAt e.raw 3 1
def Entry.tag (e : Entry) : Nat := leAt e.raw 4 4
def Entry.speed (e : Entry) : Rat := (leAt e.raw 8 2 : Rat) / 10000
def Entry.accel (e : Entry) : Rat := (leAt e.raw 10 2 : Rat) / 10000
def Entry.dev (e : Entry) : Nat := leAt e.raw 12 4
/-- Entries of the store that a queued entry takes (R111). -/
def Entry.size (e : Entry) : Nat := if e.cont.isEmpty then 1 else 2
/-- JOINT, LINE, ARC, SPLINE. -/
def Entry.motion (e : Entry) : Bool := decide (1 ≤ e.ty) && decide (e.ty ≤ 4)
def Entry.cartesian (e : Entry) : Bool := decide (2 ≤ e.ty) && decide (e.ty ≤ 4)
/-- A binary32 value of the body (R6). -/
def f32At (l : List Byte) (i : Nat) : Rat := ofFloat32 (leAt l i 4)
/-- A binary32 value that is a number. -/
def finite32 (l : List Byte) (i : Nat) : Bool := decide (leAt l i 4 / 2 ^ 23 % 256 ≠ 255)

/-- Targets of a JOINT entry for `n` axes. -/
def Entry.joints (e : Entry) (n : Nat) : List Int :=
  (List.range n).map (fun k => if k < 8 then sleAt e.raw (16 + 6 * k) 6 else sleAt e.cont (16 + 6 * (k - 8)) 6)

/-- Entries that a group holds (R107): queued, in progress, and not yet free. -/
def Group.entries (g : Group) : Nat :=
  (g.queue.map Entry.size).sum + (match g.cur with | some e => e.size | none => 0) + g.freeing

/-- Free entries of the segment store. -/
def storeFree (d : Dev) : Nat := 8192 - ((List.range 12).map (fun g => (d.group g).entries)).sum

/-! ### Configuration of groups -/

def Dev.gcfg (d : Dev) (g : Nat) : GroupCfg := (d.grpCfg g).getD {}

/-- Position units per unit of speed, acceleration and jerk of a joint (Table 4-6). -/
def Joint.vu (j : Joint) : Rat := if j.kind = 0 then 4096 else 1000
def Joint.au (j : Joint) : Rat := if j.kind = 0 then 65536 else 1000
def Joint.ju (j : Joint) : Rat := if j.kind = 0 then 16777216 else 1000000

/-- Speed, acceleration and jerk limits of joint `k` in position units. -/
def jointLims (g : GroupCfg) (k : Nat) : Rat × Rat × Rat :=
  let j := g.joints.getD k {}
  (j.vmax * j.vu, j.amax * j.au, j.jmax * j.ju)

/-- Is an axis homed (R128)? -/
def axHomed (d : Dev) (n : Nat) : Bool :=
  let c := d.acfg n
  decide (c.kind = .virtual) || (if c.home = .absSet then (if c.homeChan < 24 then d.b (FB_STAT_VALID c.homeChan) else (d.axis n).sample.valid)
    else (d.axis n).homed)

def groupHomed (d : Dev) (g : Nat) : Bool := (d.gcfg g).axes.all (axHomed d)
/-- Homed axes as a mask of the group's axis order. -/
def homedMask (d : Dev) (g : Nat) : Nat :=
  let ax := (d.gcfg g).axes
  (((List.range ax.length).filter (fun k => axHomed d (ax.getD k 0))).map (fun k => 2 ^ k)).sum

/-- Soft limits of the joints for axis positions, on homed axes only (R128). -/
def softOk (d : Dev) (g : Nat) (p : List Rat) : Bool :=
  let c := d.gcfg g
  ((jointsOf c p).zip c.joints).zipIdx.all (fun e =>
    !axHomed d (c.axes.getD e.2 0) || (decide ((e.1.2.posMin : Rat) ≤ e.1.1) && decide (e.1.1 ≤ e.1.2.posMax)))

/-! ### Checks of `seg.append` that need no queue (Table 5-2, steps 2 and 3) -/

/-- A conveyor frame, latch input or field input the image configures, for WAIT (R117). -/
def waitIndexOk (d : Dev) (ev idx : Nat) : Bool :=
  match ev with
  | 1 => decide (idx < 16) && d.b (LAT_CFG_EN idx)
  | 2 => decide (idx < 32) && !fiDelegated d (idx / 8)
  | 3 => decide (idx < 32) && !fiDelegated d (idx / 8)
  | 4 => decide (idx < 4) && (d.convCfg idx).isSome
  | _ => decide (idx = 0)

def waitOk (d : Dev) (r : List Byte) : Bool :=
  let ev := leAt r 16 1
  decide (1 ≤ ev) && decide (ev ≤ 5) && waitIndexOk d ev (leAt r 17 1) && decide (leAt r 28 1 ≤ 1)
    && (decide (ev = 4) || decide (ev = 5) || zeroAt r 18 6) && zeroAt r 29 35

/-- Master of a CAM or GEAR entry in range (R110). -/
def masterOk (k i : Nat) : Bool := (decide (k = 0) && decide (i < 96)) || (decide (k = 1) && decide (i < 4)) || (decide (k = 2) && decide (i < 8))

/-- Unit norm within 10^-6 (Table 5-4). -/
def unitQuat (r : List Byte) (i : Nat) : Bool :=
  let q := (List.range 4).map (fun k => f32At r (i + 4 * k))
  let n := dotR q q
  (List.range 4).all (fun k => finite32 r (i + 4 * k)) && decide (absR (sqrtR n - 1) ≤ 1 / 1000000)

/-- Body of an entry within range. -/
def bodyOk (d : Dev) (g : Nat) (r : List Byte) : Bool :=
  let c := d.gcfg g
  match leAt r 0 1 with
  | 1 => (List.range 8).all (fun k => decide (k < c.axes.length) || zeroAt r (16 + 6 * k) 6)
  | 2 => unitQuat r 34 && (decide (c.joints.length = 8) || zeroAt r 50 6) && decide (leAt r 56 1 < 8) && zeroAt r 57 7
  | 3 => (List.range 3).all (fun k => finite32 r (52 + 4 * k))
  | 4 => unitQuat r 34 && (decide (c.joints.length = 8) || zeroAt r 50 6) && decide (leAt r 56 1 < 8) && zeroAt r 57 7
  | 5 => decide (1 ≤ leAt r 16 4) && zeroAt r 20 44
  | 6 => decide (leAt r 16 1 < 16) && masterOk (leAt r 17 1) (leAt r 18 1) && zeroAt r 19 1 && decide (leAt r 20 2 < 2 ^ c.axes.length)
      && !zeroAt r 28 6 && finite32 r 34 && zeroAt r 48 16
  | 7 => masterOk (leAt r 16 1) (leAt r 17 1) && decide (leAt r 18 2 < 2 ^ c.axes.length) && decide (1 ≤ leAt r 24 4)
      && decide (leAt r 40 1 ≤ 1) && zeroAt r 41 23
  | 8 => waitOk d r
  | _ => false

/-- Header of an entry (Table 5-3) and its type for the group (R104). -/
def headerOk (d : Dev) (g : Nat) (r : List Byte) : Bool :=
  let t := leAt r 0 1
  decide (leAt r 2 1 = g) && decide (leAt r 1 1 < 16) && (decide (g < 8) || [1, 5, 6, 7, 8].contains t)
    && (if 2 ≤ t ∧ t ≤ 4 then decide (leAt r 3 1 ≤ 4) && (decide (leAt r 3 1 = 0) || (d.convCfg (leAt r 3 1 - 1)).isSome)
        else decide (leAt r 3 1 = 0))
    && decide (1 ≤ leAt r 8 2) && decide (leAt r 8 2 ≤ 10000) && decide (1 ≤ leAt r 10 2) && decide (leAt r 10 2 ≤ 10000)

/-- A CONT entry: type, group, other header bytes 0 (R111). -/
def contOk (g n : Nat) (r : List Byte) : Bool :=
  decide (leAt r 0 1 = 0x0F) && decide (leAt r 2 1 = g) && zeroAt r 1 1 && zeroAt r 3 13 && zeroAt r 40 24
    && (List.range 4).all (fun k => decide (k + 8 < n) || zeroAt r (16 + 6 * k) 6)

/-- The entries of a request's payload, CONT joined to its JOINT; none where one is out of range (R111). -/
def entriesOf (d : Dev) (g n : Nat) : List (List Byte) → Option (List Entry)
  | [] => some []
  | r :: rest =>
    if !(headerOk d g r && bodyOk d g r) then none
    else if leAt r 0 1 = 1 ∧ 8 < n then
      match rest with
      | c :: rest' => if contOk g n c then (entriesOf d g n rest').map (fun l => { raw := r, cont := c } :: l) else none
      | [] => none
    else (entriesOf d g n rest).map (fun l => { raw := r } :: l)

/-- `seg.append` payload as entries (Table 5-2, step 3). -/
def appendEntries (d : Dev) (p : List Byte) : Option (List Entry) :=
  let g := leAt p 0 1
  let k := leAt p 1 1
  if g < 12 ∧ (d.grpCfg g).isSome ∧ 1 ≤ k ∧ k ≤ 3 ∧ zeroAt p 2 2 ∧ p.length = 4 + 64 * k then
    match entriesOf d g (d.gcfg g).axes.length ((List.range k).map (fun i => (p.drop (4 + 64 * i)).take 64)) with
    | some l =>
      if l.all (fun e => decide (e.ty ≠ 1) || e.flag 1 || softOk d g ((e.joints (d.gcfg g).axes.length).map (fun (x : Int) => (x : Rat)))) then some l
      else none
    | none => none
  else none

/-! ### Conveyor frames (R141, R145) -/

/-- Pose in W of the frame of conveyor `j` at travel `c`, or of a product at line position `x`. -/
def convPose (cfg : ConvCfg) (x : Rat) : Pose :=
  let f := Pose.ofQuat cfg.originRot (R3.ofInts cfg.originPos)
  { f with o := f.o.add (f.cx.smul x) }

def invPose (f : Pose) : Pose :=
  let g : Pose := ⟨⟨f.cx.x, f.cy.x, f.cz.x⟩, ⟨f.cx.y, f.cy.y, f.cz.y⟩, ⟨f.cx.z, f.cy.z, f.cz.z⟩, {}⟩
  { g with o := (f.inv f.o).smul (-1) }

/-- Line position of the frame in which group `g` expresses an entry of conveyor `j`: the claimed product, else the travel. -/
def lineAt (d : Dev) (g j : Nat) (c : Rat) : Rat :=
  let id := tget 0 (d.group g).claims j
  match (d.cv j).queue.find? (fun p => decide (p.id = id)) with
  | some p => if id = 0 then c else p.u + c
  | none => c

/-- Frame of an entry in the arm's base frame, with the conveyors' travel advanced by `dt`. -/
def entryFrame (d : Dev) (g frame : Nat) (dt : Rat) : Pose :=
  if frame = 0 then {}
  else
    let v := d.cv (frame - 1)
    match d.convCfg (frame - 1) with
    | some c => (invPose (basePose (d.gcfg g))).mul (convPose c (lineAt d g (frame - 1) (v.c + v.v * dt)))
    | none => {}

/-! ### Geometry of Cartesian segments (R110) -/

def poseList (p : Pose) : List Rat := p.cx.list ++ p.cy.list ++ p.cz.list ++ p.o.list
def poseOf (l : List Rat) : Pose := ⟨R3.ofList l, R3.ofList (l.drop 3), R3.ofList (l.drop 6), R3.ofList (l.drop 9)⟩

def pointAt (r : List Byte) (i : Nat) : R3 := ⟨sleAt r i 6, sleAt r (i + 6) 6, sleAt r (i + 12) 6⟩

/-- Pose at which a LINE or SPLINE point ends, relative to `s0` where REL is set. -/
def lineEnd (r : List Byte) (s0 : Pose) : Pose :=
  let p := Pose.ofQuat ((List.range 4).map (fun k => f32At r (34 + 4 * k))) (pointAt r 16)
  if (leAt r 1 1).testBit 1 then { p with o := p.o.add s0.o } else p

/-- Rotation vector of an ARC from its start. -/
def arcTurn (r : List Byte) : R3 := ⟨f32At r 52, f32At r 56, f32At r 60⟩

/-- Centre, unit normal and angle (rad) of the circle from `a` through `b` to `c`. -/
def circle (a b c : R3) : R3 × R3 × Rat :=
  let u := b.sub a
  let v := c.sub a
  let n := u.cross v
  let n2 := n.dot n
  if n2 = 0 then (a, ⟨0, 0, 0⟩, 0)
  else
    let o := a.add ((((n.cross u).smul (v.dot v)).add ((v.cross n).smul (u.dot u))).smul (1 / (2 * n2)))
    let k := (n.smul (1 / 1000000000)).unit
    let x := a.sub o
    let y := c.sub o
    let th := atan2R ((x.cross y).dot k) (x.dot y)
    (o, k, if th < 0 then th + 2 * piR else th)

/-- End pose of a Cartesian segment from its start pose, in the frame of the entry. -/
def segEnd (r : List Byte) (s0 : Pose) : Pose :=
  if leAt r 0 1 = 3 then
    let e := pointAt r 16
    { (Pose.turn (arcTurn r) s0) with o := if (leAt r 1 1).testBit 1 then e.add s0.o else e }
  else lineEnd r s0

/-- Pose at share `u` of a segment. -/
def segPose (r : List Byte) (s0 : Pose) (u : Rat) : Pose :=
  let e := segEnd r s0
  if leAt r 0 1 = 3 then
    let via := let p := pointAt r 34; if (leAt r 1 1).testBit 1 then p.add s0.o else p
    let c := circle s0.o via e.o
    { (Pose.turn ((arcTurn r).smul u) s0) with o := c.1.add (rotate (c.2.1.smul (c.2.2 * u)) (s0.o.sub c.1)) }
  else { (Pose.turn ((rotTo s0 e).smul u) s0) with o := s0.o.add ((e.o.sub s0.o).smul u) }

/-- Length (m) and angle (rad) of a segment. -/
def segMeasure (r : List Byte) (s0 : Pose) : Rat × Rat :=
  let e := segEnd r s0
  if leAt r 0 1 = 3 then
    let c := circle s0.o (let p := pointAt r 34; if (leAt r 1 1).testBit 1 then p.add s0.o else p) e.o
    (c.2.2 * (s0.o.sub c.1).len / 1000000000, (arcTurn r).len)
  else ((e.o.sub s0.o).len / 1000000000, (rotTo s0 e).len)

/-- Arm angle of an entry (rad): its redundancy angle; an ARC keeps that of the entry before it. -/
def entryAngle (r : List Byte) (keep : Rat) : Rat := if leAt r 0 1 = 3 then keep else sleAt r 50 6 * piR / 8388608

/-! ### Planning (R112 to R116) -/

/-- Why a segment cannot be followed (Table 5-10), from joint variables at a point of it. -/
def pointCause (d : Dev) (g : Nat) (t : Target) (q : List Rat) : Nat :=
  let c := d.gcfg g
  let r := residual c t q
  if c.ikFaultPos < r.1 ∨ c.ikFaultRot < r.2 then 1
  else if !softOk d g (axesOf c q) then 2
  else if c.solver = 0 ∧ absR (q.getD ((solved c).getD 4 4) 0) < c.wristSing then 3
  else 0

/-- The WRIST bit of CONFIG names the other solution of the analytic solver than the one on which the path lies (R137): it would
have to pass the singularity between them (R116, cause 3; log entry 39). -/
def wristChange (g : GroupCfg) (r : List Byte) (q : List Rat) : Bool :=
  decide (g.solver = 0) && (decide (leAt r 0 1 = 2) || decide (leAt r 0 1 = 4))
    && ((leAt r 56 1).testBit 2 != decide (q.getD ((solved g).getD 4 4) 0 < 0))

/-- Follow a Cartesian segment in `n` steps from joint variables `q`: cause of a refusal and the last joint variables. -/
def followSeg (d : Dev) (g : Nat) (f : Pose) (r : List Byte) (s0 : Pose) (ang : Rat) (n : Nat) : Nat → List Rat → Nat × List Rat
  | 0, q => (0, q)
  | k + 1, q =>
    let t : Target := { pose := f.mul (segPose r s0 ((n - k : Nat) / n)), angle := ang }
    let q' := ikSolve (d.gcfg g) t q
    let c := pointCause d g t q'
    if c ≠ 0 then (c, q') else if wristChange (d.gcfg g) r q' then (3, q') else followSeg d g f r s0 ang n k q'

/-- A planned segment of an entry that starts at axis positions `p`, or why it is refused (R116). -/
def makeSeg (d : Dev) (g : Nat) (p : List Rat) (e : Entry) : Seg × Nat :=
  let c := d.gcfg g
  if e.ty = 1 then
    let t := (e.joints c.axes.length).map (fun (x : Int) => (x : Rat))
    let goal := if e.flag 1 then (p.zip t).map (fun x => x.1 + x.2) else t
    ({ raw := e.raw, cont := e.cont, from_ := p, to_ := goal }, if e.flag 1 && !softOk d g goal then 2 else 0)
  else
    let q := jointsOf c p
    let f := entryFrame d g e.frame 0
    let s0 := (invPose f).mul (tcp c q)
    let x := followSeg d g f e.raw s0 (entryAngle e.raw (armAngle c q)) 16 16 q
    ({ raw := e.raw, from_ := p, to_ := axesOf c x.2 }, x.1)

/-- Is the corner after `e` blended into `n` (R114)? -/
def blends (e n : Entry) : Bool :=
  e.flag 0 && decide (0 < e.dev) && n.motion && (e.cartesian == n.cartesian) && decide (e.frame = n.frame)
    && (decide (e.ty = 3) || decide (n.ty = 3) || !e.cartesian || decide (leAt e.raw 56 1 = leAt n.raw 56 1))

/-- Limits of the path parameter on a segment for given limits of the Cartesian motion and share of the joints': speed,
acceleration, jerk. -/
def segLims (d : Dev) (g : Nat) (s : Seg) (r : RampCfg) (vShare aShare : Rat) : Rat × Rat × Rat :=
  let c := d.gcfg g
  let least := fun (l : List Rat) => match l with | [] => 0 | x :: xs => xs.foldl min x
  if leAt s.raw 0 1 = 1 then
    let dq := couple c.coupling ((s.to_.zip s.from_).map (fun x => x.1 - x.2))
    let ks := dq.zipIdx.filter (fun e => decide (e.1 ≠ 0))
    let own := if c.coupling.isEmpty then [] else
      (((s.to_.zip s.from_).map (fun x => x.1 - x.2)).zipIdx.filter (fun e => decide (e.1 ≠ 0))).map (fun e =>
        let a := d.acfg (c.axes.getD e.2 0); (absR e.1, a.axVmax * a.vu, a.axAcc * a.au, a.axJerk * a.ju))
    let all := ks.map (fun e => let l := jointLims c e.2; (absR e.1, l.1, l.2.1, l.2.2)) ++ own.filter (fun o => decide (0 < o.2.1))
    (least (all.map (fun x => vShare * x.2.1 / x.1)), least (all.map (fun x => aShare * x.2.2.1 / x.1)),
     least (all.map (fun x => aShare * x.2.2.2 / x.1)))
  else
    let m := segMeasure s.raw ((invPose (entryFrame d g (leAt s.raw 3 1) 0)).mul (tcp c (jointsOf c s.from_)))
    let pick := fun (lin ang : Rat) => least ((if m.1 = 0 then [] else [lin / m.1]) ++ (if m.2 = 0 then [] else [ang / m.2]))
    (pick (vShare * r.vel) (vShare * r.avel), pick (aShare * r.acc) (aShare * r.aacc), pick (aShare * r.jerk) (aShare * r.ajerk))

/-- A free factor between 1/1024 and 1 (log entry 3): where joint bounds, torque limits or blends act on the time law, the spec
gives the profile by its optimum only. -/
def freeShare (d : Dev) : Rat × Dev := let x := d.free; ((x.1 % 1024 + 1 : Nat) / 1024, x.2)

/-- Torque limits act on a JOINT profile at one of 16 points of it. -/
def torqueActs (d : Dev) (g : Nat) (s : Seg) (ps : List RampPiece) : Bool :=
  let c := d.gcfg g
  let pay := c.payloads.getD (d.group g).paySet {}
  let t := piecesTime ps
  let dp := (s.to_.zip s.from_).map (fun x => x.1 - x.2)
  decide (g < 8) && (List.range 17).any (fun i =>
    let k := playPieces {} ps (t * i / 16)
    !torqueOk c pay ((s.from_.zip dp).map (fun x => x.1 + x.2 * k.s)) (dp.map (fun x => x * k.v)) (dp.map (fun x => x * k.a)))

/-- The profile over a chain of segments that no stop point parts: from rest to rest. -/
def chainPieces (d : Dev) (g : Nat) (segs : List (Seg × Entry)) : List RampPiece × Dev :=
  let lims := segs.map (fun s => segLims d g s.1 (d.gcfg g).plan s.2.speed s.2.accel)
  let least := fun (l : List Rat) => match l with | [] => 0 | x :: xs => xs.foldl min x
  let n : Rat := segs.length
  let ps := movePieces 0 0 n (least (lims.map (·.1))) (least (lims.map (·.2.1))) (least (lims.map (·.2.2)))
  let ps := if ps.isEmpty then [{ dur := d.sMajor, jerk := 0 }] else ps
  let open_ := match segs with
    | [s] => decide (leAt s.1.raw 0 1 ≠ 1) || torqueActs d g s.1 ps
    | _ => true
  if open_ then
    let x := freeShare d
    (ps.map (fun p => { dur := p.dur / x.1, jerk := p.jerk * x.1 * x.1 * x.1 }), x.2)
  else (ps, d)

/-- May a SPLINE entry be planned: LAST, or the next control point is in the store (R112)? -/
def splineReady (e : Entry) (rest : List Entry) : Bool :=
  decide (e.ty ≠ 4) || e.flag 3 || (match rest with | n :: _ => decide (n.ty = 4) | [] => false)

/-- Segments of the next chain of `l` from axis positions `p`: segments, and cause of a refusal of the entry after them. -/
def nextChain (d : Dev) (g : Nat) : Nat → List Rat → List Entry → List (Seg × Entry) × Nat
  | 0, _, _ => ([], 0)
  | _, _, [] => ([], 0)
  | n + 1, p, e :: r =>
    if !e.motion || !splineReady e r then ([], 0)
    else
      let s := makeSeg d g p e
      if s.2 ≠ 0 then ([], s.2)
      else match r with
        | x :: _ =>
          if blends e x then
            let t := nextChain d g n s.1.to_ r
            match t.1 with
            | [] => ([(s.1, e)], t.2)
            | y :: ys => (({ s.1 with blendOut := e.dev }, e) :: ({ y.1 with blendIn := e.dev }, y.2) :: ys, t.2)
          else ([(s.1, e)], 0)
        | [] => ([(s.1, e)], 0)

/-- Axis positions at which the plan ends: the last planned segment, or the rest position. -/
def planEnd (d : Dev) (g : Nat) : List Rat :=
  match (d.group g).segs.getLast? with
  | some s => s.to_
  | none => (d.gcfg g).axes.map (fun n => (d.axis n).pNext)

/-- Entries of the queue that the plan covers. -/
def plannedEntries (x : Group) : Nat := x.segs.length - (match x.cur with | some e => if e.motion then 1 else 0 | none => 0)

/-- The claims of a group end (R145). -/
def endClaims (d : Dev) (g : Nat) : Dev :=
  let x := d.group g
  let d := forEach (List.range 4) (fun y j =>
    let id := tget 0 x.claims j
    if id = 0 then y
    else y.setCv j { y.cv j with queue := (y.cv j).queue.map (fun p => if p.id = id then { p with claim := none, flags := p.flags - p.flags % 2 } else p) }) d
  d.setGroup g { d.group g with claims := [] }

/-- Entries leave the queue unplayed; they are free from the next major frame (R107). -/
def discard (d : Dev) (g : Nat) (l : List Entry) : Dev :=
  let x := d.group g
  d.setGroup g { x with queue := x.queue.drop l.length, freeing := x.freeing + (l.map Entry.size).sum }

/-- The whole queue of a group is discarded; claims end with it. -/
def discardAll (d : Dev) (g : Nat) : Dev :=
  let x := d.group g
  let rest := decide (x.st = .standstill)
  endClaims (d.setGroup g { x with
    queue := [], freeing := x.freeing + (x.queue.map Entry.size).sum,
    segs := if rest then [] else x.segs, plan := if rest then [] else x.plan }) g

/-- The queue is discarded from the entry that cannot be planned (R116). -/
def unreachable (d : Dev) (g cause : Nat) : Dev :=
  let x := d.group g
  let keep := plannedEntries x
  let tag := match x.queue.drop keep with | e :: _ => e.tag | [] => x.tag
  let d := d.setGroup g { x with queue := x.queue.take keep, freeing := x.freeing + ((x.queue.drop keep).map Entry.size).sum }
  d.raise 0x3012 g g tag cause

/-- The planner extends the plan of a group by chains until the lookahead is covered (R112). -/
def planChains : Nat → Dev → Nat → Dev
  | 0, d, _ => d
  | n + 1, d, g =>
    let x := d.group g
    let k := plannedEntries x
    let rest := x.queue.drop k
    if (d.gcfg g).lookahead ≤ k then d
    else
      let c := nextChain d g 64 (planEnd d g) rest
      match c.1 with
      | [] => if c.2 = 0 then d else unreachable d g c.2
      | segs =>
        let p := chainPieces d g segs
        let x := p.2.group g
        let fresh := x.segs.isEmpty
        let x := { x with
          segs := x.segs ++ segs.map (·.1), plan := if fresh then p.1 else x.plan ++ p.1,
          planFrom := if fresh then {} else x.planFrom, planTime := if fresh then 0 else x.planTime }
        let d := p.2.setGroup g x
        if c.2 = 0 then planChains n d g else unreachable d g c.2

/-- A group at rest is to start: held for a start frame, or with the planning frame of an immediate start set (R105, R124). -/
def Group.awaiting (x : Group) : Bool := decide (x.st = .standstill) && (x.held.isSome || x.startPlan.isSome)

/-- A planning boundary for a group (R112, R115): the plan is extended, and knots for the next planning frame are delivered. A start
is planned afresh from the position at rest (R117, R124). -/
def planGroup (d : Dev) (g : Nat) : Dev :=
  let x := d.group g
  if x.st ≠ .moving ∧ !x.awaiting then d
  else
    let d := if x.awaiting then d.setGroup g { x with segs := [], plan := [], planFrom := {}, planTime := 0 } else d
    let d := if x.flushed then d else planChains 64 d g
    let x := d.group g
    d.setGroup g { x with planUntil := x.planTime + 4 * d.P * d.sMajor }

/-! ### Set points along the path (R115, R133, R138 to R140) -/

/-- Axes of a group take set points for the next major frame. -/
def putAxes (d : Dev) (g : Nat) (p v a : List Rat) : Dev :=
  forEach ((d.gcfg g).axes.zipIdx) (fun x e =>
    let y := x.axis e.1
    if y.st = .faulted then x else x.setAxis e.1 { y with pNext := p.getD e.2 0, vNext := v.getD e.2 0, aNext := a.getD e.2 0 }) d

/-- Free rationals (log entry 3). -/
def freeRats : Nat → Dev → List Rat × Dev
  | 0, d => ([], d)
  | n + 1, d =>
    let x := d.free
    let r : Int := if x.1 % 2 = 0 then (x.1 / 2 : Nat) else -((x.1 / 2 + 1 : Nat) : Int)
    let y := freeRats n x.2
    ((r : Rat) / 1048576 :: y.1, y.2)

/-- Where the curve of a segment is not given by its ends: on a spline, whose basis the spec does not state, and in a blend, which
lies within a deviation of the unblended path and enters half a segment at most (R114; log entry 28). -/
def Seg.open_ (s : Seg) (u : Rat) : Option (Option Rat) :=
  if leAt s.raw 0 1 = 4 then (if 0 < u ∧ (u < 1 ∨ !(leAt s.raw 1 1).testBit 3) then some none else none)
  else if 0 < s.blendIn ∧ u < 1 / 2 then some (some s.blendIn)
  else if 0 < s.blendOut ∧ 1 / 2 < u then some (some s.blendOut)
  else none

/-- Free values for `l`, each added where the curve is open. -/
def loosen (d : Dev) (s : Seg) (u : Rat) (l : List Rat) : List Rat × Dev :=
  match s.open_ u with
  | none => (l, d)
  | some _ => let x := freeRats l.length d; ((l.zip x.1).map (fun e => e.1 + e.2), x.2)

/-- Axis positions of a JOINT segment: within the deviation of a blend, each axis free. -/
def jointCurve (d : Dev) (s : Seg) (u : Rat) (l : List Rat) : List Rat × Dev :=
  match s.open_ u with
  | some (some dev) =>
    let x := freeRats l.length d
    ((l.zip x.1).map (fun e => if absR e.2 ≤ dev then e.1 + e.2 else e.1), x.2)
  | _ => (l, d)

/-- Offset of the curve of a Cartesian segment from its unblended path: of the point (nm) and of the orientation (rotation vector). -/
def curveOffset (d : Dev) (s : Seg) (u : Rat) : (R3 × R3) × Dev :=
  match s.open_ u with
  | none => (({}, {}), d)
  | some dev =>
    let x := freeRats 6 d
    let o := R3.ofList x.1
    let near := match dev with | some k => decide (o.dot o ≤ k * k) | none => true
    ((if near then o else {}, R3.ofList (x.1.drop 3)), x.2)

/-- Residual of the inverse kinematics (R139). -/
def ikResidual (d : Dev) (g : Nat) (r : Rat × Rat) : Dev :=
  let c := d.gcfg g
  let x := d.group g
  let big := decide (c.ikTolPos < r.1) || decide (c.ikTolRot < r.2)
  let bad := decide (c.ikFaultPos < r.1) || decide (c.ikFaultRot < r.2)
  let d := d.setGroup g { x with ikOver := if bad then min 255 (x.ikOver + 1) else 0, ikRaised := big, ikPos := r.1 }
  if big && !x.ikRaised then d.raise 0x3040 g g (truncR r.1) (truncR r.2) else d

/-- Difference quotient of a pose along the parameter: linear (m) and rotary (rad × W_ROT) part as a task vector. -/
def poseRate (c : GroupCfg) (a b : Pose) (h : Rat) : List Rat :=
  pickRows c ((((b.o.sub a.o).smul (1 / 1000000000 / h)).list ++ ((rotTo a b).smul (c.wrot / h)).list) ++ [0])

/-- Carriage position during a Cartesian entry (R133). -/
def carriage (d : Dev) (g : Nat) (s : Seg) (q : List Rat) : List Rat :=
  let c := d.gcfg g
  if (c.joints.headD {}).kind ≠ 2 then q
  else
    let q0 := (jointsOf c s.from_).getD 0 0
    let fr := leAt s.raw 3 1
    let move := if c.carrMode = 1 ∧ 0 < fr then
        let f := entryFrame d g fr 0
        (((links c q).headD {}).cz.dot f.cx) * ((d.cv (fr - 1)).c - (d.group g).segTravel)
      else 0
    q.set 0 (q0 + move)

/-- Set points of the next major frame at path state `k`, time scale `sc`. -/
def pathPoint (d : Dev) (g : Nat) (k : Knot) (sc : Rat) : Dev :=
  let c := d.gcfg g
  let x := d.group g
  let i := min (x.segs.length - 1) k.s.floor.toNat
  match x.segs[i]? with
  | none => putAxes d g (c.axes.map (fun n => (d.axis n).pNext)) [] []
  | some s =>
    let u := clampR 0 1 (k.s - i)
    let su := k.v * sc
    let sa := k.a * sc * sc
    if leAt s.raw 0 1 = 1 then
      let dp := (s.to_.zip s.from_).map (fun e => e.1 - e.2)
      let p := jointCurve d s u ((s.from_.zip dp).map (fun e => e.1 + e.2 * u))
      let v := loosen p.2 s u (dp.map (fun e => e * su))
      let a := loosen v.2 s u (dp.map (fun e => e * sa))
      putAxes a.2 g p.1 v.1 a.1
    else
      let off := curveOffset d s u
      let d := off.2
      let q0 := jointsOf c (c.axes.map (fun n => (d.axis n).pSet))
      let v0 := couple c.coupling (c.axes.map (fun n => (d.axis n).vSet))
      let start := if x.segStart.isEmpty ∨ i ≠ 0 then (invPose (entryFrame d g (leAt s.raw 3 1) 0)).mul (tcp c (jointsOf c s.from_)) else poseOf x.segStart
      let at_ := fun (w t : Rat) => (entryFrame d g (leAt s.raw 3 1) t).mul (let p := segPose s.raw start w
        if (s.open_ u).isNone then p else { Pose.turn off.1.2 p with o := p.o.add off.1.1 })
      let ang := entryAngle s.raw (armAngle c q0)
      let warm := carriage d g s ((q0.zip v0).map (fun e => e.1 + e.2 * d.sMajor))
      let t : Target := { pose := at_ u 0, angle := ang }
      let q := ikSolve c t warm
      let h : Rat := 1 / 4096
      let rate := (poseRate c (at_ (u - h) 0) (at_ (u + h) 0) (2 * h)).map (fun e => e * su)
      let conv := poseRate c (at_ u (-h)) (at_ u h) (2 * h)
      let qd := dlsStep c q ((rate.zip conv).map (fun e => e.1 + e.2))
      let acc := (poseRate c (at_ (u - h) 0) (at_ (u + h) 0) (2 * h)).map (fun e => e * sa)
      let jd := (((taskJacobian c (addSi c q (qd.map (fun e => e * h)))).apply ((solved c).map (fun i => qd.getD i 0))).zip
        ((taskJacobian c q).apply ((solved c).map (fun i => qd.getD i 0)))).map (fun e => (e.1 - e.2) / h)
      let qdd := dlsStep c q ((acc.zip jd).map (fun e => e.1 - e.2))
      let units := fun (l : List Rat) => (l.zip c.joints).map (fun e => e.2.ofSi e.1)
      let v := loosen d s u (uncouple c.coupling (units qd))
      let a := loosen v.2 s u (uncouple c.coupling (units qdd))
      let d := putAxes a.2 g (axesOf c q) v.1 a.1
      ikResidual d g (residual c t q)

/-- Feed-forward of an arm for the next major frame (R140): stops in DISABLED. -/
def armDynamics (d : Dev) (g : Nat) : Dev :=
  let c := d.gcfg g
  if 8 ≤ g then d
  else
    let get := fun (f : Axis → Rat) => c.axes.map (fun n => f (d.axis n))
    let t := if (d.group g).st = .disabled then c.axes.map (fun _ => 0)
      else feedForward c (c.payloads.getD (d.group g).paySet {}) (get (·.pNext)) (get (·.vNext)) (get (·.aNext))
    forEach (c.axes.zip t) (fun x e => x.setAxis e.1 { x.axis e.1 with tDyn := e.2 }) d

end Sys2Proof.Machine
end

