-- ==== Sys2Proof/Machine/LynxOps.lean ====
section
/-!
DEFINITION. Lynx (R149 to R155): swept capsules, clearances, speed scaling, stale inputs. The broad phase of R154 only chooses
which pairs are tested and changes no result; every pair is tested here.
-/
namespace Sys2Proof.Machine

/-- A capsule in W with its growth: ends and whole radius, nm. -/
structure LCap where
  p : V3 := {}
  q : V3 := {}
  r : Rat := 0
deriving DecidableEq, Repr, Inhabited

/-- A person volume (R150): a vertical wall from (x0, y0) to (x1, y1), its heights, its radius with the margin. -/
structure LWall where
  x0 : Int := 0
  y0 : Int := 0
  x1 : Int := 0
  y1 : Int := 0
  z0 : Int := 0
  z1 : Int := 0
  r : Rat := 0
deriving DecidableEq, Repr, Inhabited

def R3.nm (v : R3) : V3 := ⟨v.x.floor, v.y.floor, v.z.floor⟩

/-- Arms: groups 0 to 7 with an arm model (R104, R131). -/
def armList (d : Dev) : List Nat := d.groupList.filter (fun g => decide (g < 8) && !(d.gcfg g).joints.isEmpty)

/-- Axis positions at time `t` of the plan, unscaled (R152), from positions `p` just before. -/
def planAxes (d : Dev) (g : Nat) (t : Rat) (p : List Rat) : List Rat :=
  let c := d.gcfg g
  let x := d.group g
  let k := playPieces x.planFrom x.plan t
  let i := min (x.segs.length - 1) k.s.floor.toNat
  match x.segs[i]? with
  | none => p
  | some s =>
    let u := clampR 0 1 (k.s - i)
    if leAt s.raw 0 1 = 1 then (s.from_.zip s.to_).map (fun e => e.1 + (e.2 - e.1) * u)
    else
      let q := jointsOf c p
      let f := entryFrame d g (leAt s.raw 3 1) 0
      let start := (invPose f).mul (tcp c (jointsOf c s.from_))
      axesOf c (ikSolve c { pose := f.mul (segPose s.raw start u), angle := entryAngle s.raw (armAngle c q) } q)

/-- Positions of an arm over planning frame k: the last major frame of k − 1, then its knots, one each major frame (R149). -/
def knotPoses (d : Dev) (g : Nat) : List (List Rat) :=
  let c := d.gcfg g
  let x := d.group g
  let p0 := c.axes.map (fun n => (d.axis n).pSet)
  if x.st = .moving && !x.segs.isEmpty then
    (List.range d.P).foldl (fun l i => l ++ [planAxes d g (x.planTime + (i + 1 : Nat) * d.sMajor) (l.getLastD p0)]) [p0]
  else [p0, c.axes.map (fun n => (d.axis n).pNext)]

/-- Capsules of an arm at axis positions, in W, those of the active payload set among them (R134, R135). -/
def armCapsules (d : Dev) (g : Nat) (p : List Rat) : List LCap :=
  let c := d.gcfg g
  let q := jointsOf c p
  let ls := links c q
  let frame := fun k => if k = 13 then tcp c q else if k = 0 then basePose c else ls.getD (k - 1) {}
  let tool := match (c.payloads.getD (d.group g).paySet {}).tcp with | some t => [{ t with frame := 13 }] | none => c.capsules.filter (fun k => decide (k.frame = 13))
  ((c.capsules.filter (fun k => decide (k.frame ≠ 13))) ++ tool).map (fun k =>
    let f := frame k.frame
    { p := (f.point (R3.ofInts k.p0)).nm, q := (f.point (R3.ofInts k.p1)).nm, r := k.radius })

/-- Capsules of an arm over planning frame k, each grown by its largest point speed at the last knot times T_AHEAD (R150). -/
def sweptArm (d : Dev) (g : Nat) : List LCap :=
  let ks := (knotPoses d g).map (armCapsules d g)
  let last := ks.getLastD []
  let prev := (ks.dropLast).getLastD last
  let ahead : Rat := d.P + (d.gcfg g).ovrFrames
  let grow := (last.zip prev).map (fun e => ((max (e.1.p.sub e.2.p).len (e.1.q.sub e.2.q).len : Nat) : Rat) * ahead)
  ks.flatMap (fun l => (l.zip grow).map (fun e => { e.1 with r := e.1.r + e.2 }))

/-- Floor of W: FLOOR_Z of the set Felade holds (Table 14-1). -/
def lynxFloorZ (d : Dev) : Int := if d.bad.flash.isEmpty then 0 else (parseSet d.bad.flash).floorNm

/-- A track swept along its velocity over T_P, grown by PERSON_MARGIN (R150); `ovr` is OVR_FRAMES of the arm. -/
def sweptTrack (d : Dev) (ovr : Nat) (t : Track) : LWall :=
  let k := d.esc.maj - d.esc.maj % (max 1 d.P)
  let tp : Rat := ((k + 2 * d.P + ovr : Nat) - t.frame : Rat) * d.sMajor
  let fl := lynxFloorZ d
  let m := match d.img.run with | some i => i.personMargin | none => 0
  { x0 := t.x, y0 := t.y, x1 := t.x + (t.vx * tp : Rat).floor, y1 := t.y + (t.vy * tp : Rat).floor, z0 := fl, z1 := fl + t.height,
    r := t.radius + m }

/-- Does a segment cross the wall's face? -/
def crossesWall (w : LWall) (p q : V3) : Bool :=
  let s := fun (v : V3) => (w.x1 - w.x0) * (v.y - w.y0) - (w.y1 - w.y0) * (v.x - w.x0)
  let n := (w.x1 - w.x0) * (w.x1 - w.x0) + (w.y1 - w.y0) * (w.y1 - w.y0)
  let sp := s p
  let sq := s q
  if n = 0 ∨ sp = sq ∨ 0 < sp * sq then false
  else
    let t : Rat := (sp : Rat) / (sp - sq : Int)
    let mid := fun (u v : Int) => (u : Rat) + t * (v - u : Int)
    let al := (mid p.x q.x - w.x0) * (w.x1 - w.x0 : Int) + (mid p.y q.y - w.y0) * (w.y1 - w.y0 : Int)
    let z := mid p.z q.z
    decide (0 ≤ al) && decide (al ≤ n) && decide ((w.z0 : Rat) ≤ z) && decide (z ≤ w.z1)

/-- Squared distance of a segment from a wall. -/
def wallDist2 (w : LWall) (p q : V3) : Rat :=
  if crossesWall w p q then 0
  else
    let a := fun (z : Int) => (⟨w.x0, w.y0, z⟩ : V3)
    let b := fun (z : Int) => (⟨w.x1, w.y1, z⟩ : V3)
    let e := ((w.x0, w.y0), (w.x1, w.y1))
    [pointSide2 e w.z0 w.z1 p, pointSide2 e w.z0 w.z1 q].foldl minOpt
      (min (min (segSeg2 p q (a w.z0) (b w.z0)) (segSeg2 p q (a w.z1) (b w.z1)))
           (min (segSeg2 p q (a w.z0) (a w.z1)) (segSeg2 p q (b w.z0) (b w.z1))))

/-- Clearance from a squared distance and the radii, nm, not below 0. -/
def clearOf (d2 : Rat) (r : Rat) : Rat := max 0 (((isqrt d2.floor.toNat : Nat) : Rat) - r)

def minList : List Rat → Option Rat
  | [] => none
  | x :: l => some (l.foldl min x)

def capClear (a b : List LCap) : Option Rat :=
  minList (a.flatMap (fun x => b.map (fun y => clearOf (segSeg2 x.p x.q y.p y.q) (x.r + y.r))))
def wallClear (a : List LCap) (ws : List LWall) : Option Rat :=
  minList (a.flatMap (fun x => ws.map (fun w => clearOf (wallDist2 w x.p x.q) (x.r + w.r))))

/-- s of one kind of clearance (R151). -/
def kindScale (t : Thresh) (c : Option Rat) : Rat :=
  match c with | none => 1 | some c => clampR 0 1 (over' (c - t.dStop) (t.dFree - t.dStop))
where over' (x y : Rat) : Rat := if y = 0 then (if 0 ≤ x then 1 else 0) else x / y

/-- Planning frame number of the present major frame (R31). -/
def Dev.planNo (d : Dev) : Nat := d.esc.maj / max 1 d.P

/-- Other arms of the cell as Lynx sees them: number, ARM_PRIO, capsules. A member's set more than two planning frames old grows by
BRAKE_GROW each planning frame (R153). -/
def memberCaps (d : Dev) (m : MemberArm) : List LCap :=
  let late := d.planNo - m.plan - 2
  m.capsules.map (fun k => { p := (R3.ofInts k.p0).nm, q := (R3.ofInts k.p1).nm, r := k.radius + m.grow + m.brakeGrow * late })

/-- Tracks Lynx uses: at most the 16 nearest to any own arm (R153). -/
def nearestTracks (d : Dev) (arms : List (Nat × List LCap)) : List Track :=
  let l := d.lynx.tracks
  if l.length ≤ 16 then l
  else
    let dist := fun (t : Track) => (minList (arms.filterMap (fun a => wallClear a.2 [sweptTrack d (d.gcfg a.1).ovrFrames t]))).getD 0
    (sortBy (fun (a b : Rat × Track) => decide (a.1 < b.1)) (l.map (fun t => (dist t, t)))).take 16 |>.map (·.2)

/-- Is a source of which the image makes the arm depend silent (R153)? -/
def armStale (d : Dev) (g : Nat) : Bool :=
  match d.img.run with
  | none => false
  | some im => im.sources.any (fun s => tget false d.lynx.stale s.1 && decide (s.2 &&& (d.gcfg g).armZones ≠ 0))

/-- Results of one arm (R151, R152). `others` lists the other arms: number, ARM_PRIO, capsules. -/
def lynxArm (d : Dev) (im : Image) (own : List LCap) (tracks : List Track) (others : List (Nat × Nat × List LCap)) (g : Nat) : LynxRes :=
  let c := d.gcfg g
  let fixed := im.fixtures.map (fun k => ({ p := (R3.ofInts k.p0).nm, q := (R3.ofInts k.p1).nm, r := k.radius } : LCap))
  let person := wallClear own (tracks.map (sweptTrack d c.ovrFrames))
  let pairs := others.filterMap (fun o => (capClear own o.2.2).map (fun x => (o.1, o.2.1, x)))
  let arm := pairs.foldl (fun (s : Rat) p => if c.armPrio ≤ p.2.1 ∨ p.2.2 < c.thArm.dStop then min s (kindScale c.thArm (some p.2.2)) else s) 1
  let fixture := capClear own fixed
  let sp := kindScale c.thPerson person
  let sf := kindScale c.thFixture fixture
  let low := min sp (min arm sf)
  let floor : Rat := (im.lynxFloor : Rat) / 10000
  let stale := armStale d g
  let raw := if stale then floor else max floor low
  let prev := tget (1 : Rat) d.lynx.exact g
  let s := if raw ≤ prev then raw else min raw (prev + (im.lynxRise : Rat) / 10000)
  let armMin := minList (pairs.map (·.2.2))
  { scale := s,
    cause := if stale then 4 else if low < floor then 5 else if low = 1 then 0 else if sp = low then 1 else if arm = low then 2 else 3,
    clr := minList ([person, armMin, fixture].filterMap (fun x => x)),
    other := match pairs.find? (fun p => decide (some p.2.2 = armMin)) with | some p => p.1 | none => 0xFF }

/-- Results of the present planning frame (R149). -/
def lynxCompute (d : Dev) (im : Image) : Dev :=
  let arms := (armList d).map (fun g => (g, sweptArm d g))
  let tracks := nearestTracks d arms
  let members := d.lynx.members.map (fun m => (m.arm, m.prio, memberCaps d m))
  let res := arms.map (fun a =>
    (a.1, lynxArm d im a.2 tracks (((arms.filter (fun o => decide (o.1 ≠ a.1))).map (fun o => (o.1, (d.gcfg o.1).armPrio, o.2))) ++ members) a.1))
  let n := d.lynx.tracks.length
  let d := { d with lynx := { d.lynx with next := some res, present := n } }
  if 16 < n then (d.setB .LYNX_FLAGS_DROPPED true).raiseDev 0x3061 n 16 0 else d

/-- LYNX_HOLD of an arm (R152), once in each episode. -/
def lynxHold (d : Dev) (g : Nat) : Dev :=
  let n := tget 0 d.lynx.held g
  let lim := match d.img.run with | some im => im.holdFrames | none => 1000
  if lim ≤ n ∧ !tget false d.lynx.holdRaised g ∧ 0 < n then
    ({ d with lynx := { d.lynx with holdRaised := tset false d.lynx.holdRaised g true } }.setB .LYNX_FLAGS_HOLD true).raise 0x3062 g g
      (tget 0xFF d.lynx.other g : Nat) n
  else d

/-- A track source silent for TRACK_TTL planning frames (R153). -/
def sourceStale (d : Dev) (src : Nat) : Dev :=
  match d.img.run with
  | none => d
  | some im =>
    if im.sources.any (fun s => decide (s.1 = src)) ∧ im.trackTtl ≤ tget 0 d.lynx.silent src ∧ !tget false d.lynx.stale src then
      ({ d with lynx := { d.lynx with stale := tset false d.lynx.stale src true } }.setB .LYNX_FLAGS_STALE true).raise 0x3060 src src 1 d.planNo
    else d

/-- A member whose capsule set is more than two planning frames old (R153). -/
def memberStale (d : Dev) (k : Nat) : Dev :=
  if d.lynx.members.any (fun m => decide (m.member = k) && decide (m.plan + 2 < d.planNo)) ∧ !tget false d.lynx.staleArms k then
    ({ d with lynx := { d.lynx with staleArms := tset false d.lynx.staleArms k true } }.setB .LYNX_FLAGS_STALE true).raise 0x3060 k k 2 d.planNo
  else d

/-- Clearance as LYNX_CLRn shows it: µm, saturated. -/
def clrField (c : Option Rat) : Nat := match c with | none => 0xFFFFFFFF | some x => min 0xFFFFFFFF (x / 1000).floor.toNat

/-- The results of the frame that ends take effect, and the status registers show them (R17, R155). -/
def lynxDeliver (d : Dev) : Dev :=
  match d.lynx.next with
  | none => d
  | some res =>
    let d := { d with lynx := { d.lynx with next := none } }
    let d := (d.setB .LYNX_STATUS_RUNNING true).setF .LYNX_FRAME_PLAN (d.planNo - 1)
    let d := d.setF .LYNX_STATUS_TRACKS (min 16 d.lynx.present)
    let d := (d.setB .LYNX_STATUS_STALE_TRACKS !d.lynx.stale.isEmpty).setB .LYNX_STATUS_STALE_MEMBER !d.lynx.staleArms.isEmpty
    forEach res (fun y r =>
      let s := (r.2.scale * 10000).floor.toNat
      let held := if s = 0 then tget 0 y.lynx.held r.1 + 1 else 0
      let y := { y with lynx :=
        { y.lynx with scale := tset 10000 y.lynx.scale r.1 s, exact := tset 1 y.lynx.exact r.1 r.2.scale, held := tset 0 y.lynx.held r.1 held,
                      other := tset 0xFF y.lynx.other r.1 r.2.other,
                      holdRaised := if s = 0 then y.lynx.holdRaised else tset false y.lynx.holdRaised r.1 false } }
      lynxHold (((y.setF (.LYNX_SCALE_SCALE r.1) s).setF (.LYNX_SCALE_CAUSE r.1) r.2.cause).setF (.LYNX_CLR_CLR r.1) (clrField r.2.clr)) r.1) d

/-- A planning boundary: results of the frame that ends act, inputs age, and those of the new frame are computed. `gated` is
PD_FAB's gate of Lynx (R445). -/
def lynxPlan (gated : Bool) (d : Dev) : Dev :=
  match d.img.run with
  | none => d
  | some im =>
    if gated then { d with lynx := { d.lynx with next := none } }.setB .LYNX_STATUS_RUNNING false
    else
      let d := lynxDeliver d
      let d := { d with lynx := { d.lynx with silent := im.sources.foldl (fun l s => tset 0 l s.1 (tget 0 l s.1 + 1)) d.lynx.silent } }
      let d := forEach im.sources (fun y s => sourceStale y s.1) d
      let d := forEach (List.range 8) memberStale d
      lynxCompute d im

/-- Tracks of a source on one connection as committed in a batch (R149). -/
def lynxTracks (d : Dev) (src conn : Nat) (l : List Track) : Dev :=
  { d with lynx := { d.lynx with tracks := d.lynx.tracks.filter (fun t => decide (t.source ≠ src) || decide (t.conn ≠ conn)) ++ l, silent := tset 0 d.lynx.silent src 0,
                                 stale := tset false d.lynx.stale src false } }

/-- A track of Table 14-1 (mm, mm/s) as Lynx takes it. -/
def trackOf (src conn frame : Nat) (p : List Byte) (o : Nat) : Track :=
  { source := src, conn := conn, x := sleAt p (o + 2) 4 * 1000000, y := sleAt p (o + 6) 4 * 1000000, vx := sleAt p (o + 10) 2 * 1000000,
    vy := sleAt p (o + 12) 2 * 1000000, radius := leAt p (o + 14) 2 * 1000000, height := leAt p (o + 16) 2 * 1000000, frame := frame }

/-- A track message of a source the image names, in a safe frame as committed (R149, R319). -/
def lynxSafe (d : Dev) (conn frame : Nat) (pdu : List Byte) : Dev :=
  match d.img.run with
  | none => d
  | some im =>
    if d.bad.flash.isEmpty then d
    else
      let s := parseSet d.bad.flash
      match connOf s conn with
      | none => d
      | some c =>
        let src := s.nat 0x24 c .source 0xFF
        if im.sources.any (fun e => decide (e.1 = src)) ∧ 2 ≤ s.nat 0x24 c .kind 0 ∧ s.outbound c = false then
          let p := (pdu.drop 8).take (leAt pdu 6 1)
          lynxTracks d src c ((List.range (min 3 (leAt p 0 1))).map (fun i => trackOf src c frame p (4 + 20 * i)))
        else d

/-- A member's capsule sets as committed (R149). -/
def lynxMembers (d : Dev) (k : Nat) (l : List MemberArm) : Dev :=
  let l := l.map (fun m => { m with member := k, plan := d.planNo })
  { d with lynx := { d.lynx with members := d.lynx.members.filter (fun m => !l.any (fun x => decide (x.member = m.member) && decide (x.arm = m.arm))) ++ l,
                                 staleArms := tset false d.lynx.staleArms k false } }

end Sys2Proof.Machine
end

