-- ==== Sys2Proof/Machine/CanOps.lean ====
section
/-!
DEFINITION. CAN FD controllers: filters, FIFO and buffers, transmission and cancelling, errors, Felade's objects
(chapter 16).
-/
namespace Sys2Proof.Machine

open Fld

def Dev.can (d : Dev) (n : Nat) : CanCtl := tget {} d.io.can n
def Dev.setCan (d : Dev) (n : Nat) (c : CanCtl) : Dev := { d with io := { d.io with can := tset {} d.io.can n c } }

/-- Controller `n` is delegated to the host (R101). -/
def canDelegated (d : Dev) (n : Nat) : Bool := (d.f OWN_DELEG_CAN).testBit n

/-- May `bus` write the controller's registers (R9, R394)? -/
def canMay (d : Dev) (n : Nat) : Bus → Bool
  | .felade => !canDelegated d n
  | .bar2 => canDelegated d n
  | .bar0 | .bar4 => false

/-- Data length of a DLC (ISO 11898-1:2015; R393 counts in DLC). -/
def dlcLen (fd : Bool) (dlc : Nat) : Nat :=
  if dlc ≤ 8 then dlc
  else if !fd then 8
  else match dlc with | 9 => 12 | 10 => 16 | 11 => 20 | 12 => 24 | 13 => 32 | 14 => 48 | _ => 64

/-- Words of a frame element (Table 16-5). -/
def elemWord (e : CanElem) (w : Nat) : Word :=
  let id := e.frame.ident + (if e.frame.xtd then 2 ^ 29 else 0) + (if e.frame.rtr then 2 ^ 30 else 0)
    + (if e.frame.esi then 2 ^ 31 else 0)
  match w with
  | 0 => BitVec.ofNat 32 id
  | 1 => BitVec.ofNat 32 (e.frame.dlc % 16 + (if e.frame.fdf then 16 else 0) + (if e.frame.brs then 32 else 0) + e.filter * 256)
  | 2 => BitVec.ofNat 32 e.ofs
  | 3 => BitVec.ofNat 32 e.maj
  | 4 => BitVec.ofNat 32 (e.maj / 2 ^ 32 % 65536)
  | k + 5 => BitVec.ofNat 32 (leAt e.frame.data (4 * k) 4)

/-- The 84 bytes of an element. -/
def elemBytes (e : CanElem) : List Byte := (List.range 21).flatMap (fun w => le 4 (elemWord e w).toNat)

/-- The frame that stands in TX buffer `b`. -/
def txFrame (d : Dev) (n b : Nat) : CanFrame :=
  let w0 := (d.reg (CAN_TXE_ID_W n b).addr).toNat
  let fmt := d.f (CAN_TXE_FMT_FMT n b)
  let fdf := fmt.testBit 4
  let len := dlcLen fdf (fmt % 16)
  { ident := w0 % 2 ^ 29, xtd := w0.testBit 29, rtr := w0.testBit 30, esi := w0.testBit 31, dlc := fmt % 16, fdf := fdf,
    brs := fmt.testBit 5,
    data := ((List.range 16).flatMap (fun k => le 4 (d.reg (CAN_TXE_DATA_W n b k).addr).toNat)).take len }

/-- A frame put into TX buffer `b` by hardware or Felade. -/
def putTxFrame (d : Dev) (n b : Nat) (f : CanFrame) : Dev :=
  let e : CanElem := { frame := f }
  let d := d.setReg (CAN_TXE_ID_W n b).addr (elemWord e 0)
  let d := d.setF (CAN_TXE_FMT_FMT n b) (elemWord e 1).toNat
  forEach (List.range 16) (fun x k => x.setReg (CAN_TXE_DATA_W n b k).addr (elemWord e (k + 5))) d

/-- Field values that decide arbitration, smaller wins (ISO 11898-1:2015): base identifier, RTR or SRR, IDE, extension,
RTR. -/
def arbKey (f : CanFrame) : Nat :=
  let rtr := if f.rtr && !f.fdf then 1 else 0
  if f.xtd then f.ident / 2 ^ 18 * 2 ^ 21 + 2 ^ 20 + 2 ^ 19 + f.ident % 2 ^ 18 * 2 + rtr
  else f.ident % 2 ^ 11 * 2 ^ 21 + rtr * 2 ^ 20

/-- R382: of the buffers requested, the one whose frame wins arbitration, ties to the lower number. -/
def canPick (d : Dev) (n : Nat) : Option Nat :=
  ((List.range 32).filter (fun b => (d.f (CAN_TXREQ_REQ n)).testBit b)).foldl (fun best b =>
    match best with
    | none => some b
    | some a => if arbKey (txFrame d n b) < arbKey (txFrame d n a) then some b else some a) none

/-- A bit of a 32-bit register set or cleared by hardware. -/
def setBitOf (d : Dev) (f : Fld) (b : Nat) (v : Bool) : Dev :=
  let x := d.f f
  d.setF f (if v then x ||| 2 ^ b else if x.testBit b then x - 2 ^ b else x)

/-- Buffer `b` is cancelled (R383). -/
def canCancelled (d : Dev) (n b : Nat) : Dev :=
  ((setBitOf (setBitOf (setBitOf d (CAN_TXREQ_REQ n) b false) (CAN_TXCAN_CAN n) b false) (CAN_TXCXL_CXL n) b true)).setB
    (CAN_IR_TXCXL n) true

/-- TXREQ written with `mask` (R382). -/
def canRequest (d : Dev) (n mask : Nat) : Dev := d.setF (CAN_TXREQ_REQ n) (d.f (CAN_TXREQ_REQ n) ||| mask)

/-- TXCAN written with `mask` (R383): a started frame waits for its end, any other is cancelled now. -/
def canCancel (d : Dev) (n mask : Nat) : Dev :=
  forEach ((List.range 32).filter (fun b => mask.testBit b && (d.f (CAN_TXREQ_REQ n)).testBit b)) (fun x b =>
    if (x.can n).started = some b then setBitOf x (CAN_TXCAN_CAN n) b true else canCancelled x n b) d

/-- The controller is off the bus once no frame is started (R384). -/
def canSettle (d : Dev) (n : Nat) : Dev :=
  if d.b (CAN_CTRL_INIT n) && (d.can n).started.isNone then d.setB (CAN_CTRL_INIT_ACK n) true else d

/-- INIT set (R384). -/
def canInit (d : Dev) (n : Nat) : Dev :=
  let d := d.setB (CAN_CTRL_INIT n) true
  let d := forEach ((List.range 32).filter (fun b => (d.f (CAN_TXREQ_REQ n)).testBit b)) (fun x b =>
    if (x.can n).started = some b then x else canCancelled x n b) d
  canSettle d n

/-- INIT cleared: the controller returns to the bus. -/
def canLeaveInit (d : Dev) (n : Nat) : Dev := (d.setB (CAN_CTRL_INIT n) false).setB (CAN_CTRL_INIT_ACK n) false

/-- The started frame ended and Felade's waiting frame for that buffer, if any, is requested (R391). -/
def canEnded (d : Dev) (n b : Nat) : Dev :=
  let d := d.setCan n { d.can n with started := none }
  let d := match tget none (d.can n).after b with
    | some f =>
      let d := canRequest (putTxFrame d n b f) n (2 ^ b)
      d.setCan n { d.can n with after := tset none (d.can n).after b none }
    | none => d
  canSettle d n

/-- Error counters, STATE and EW after an event, with their flags and record (R386). -/
def canErrSet (d : Dev) (n tec rec : Nat) : Dev :=
  let old := d.f (CAN_ERR_STATE n)
  let oldEw := d.b (CAN_ERR_EW n)
  let st := if 256 ≤ tec then 2 else if 128 ≤ tec || 128 ≤ rec then 1 else 0
  let ew := decide (96 ≤ tec) || decide (96 ≤ rec)
  let d := ((d.setF (CAN_ERR_TEC n) (min 255 tec)).setF (CAN_ERR_REC n) (min 255 rec)).setF (CAN_ERR_STATE n) st
  let d := d.setB (CAN_ERR_EW n) ew
  let d := if st ≠ old || ew != oldEw then d.setB (CAN_IR_ERRSTATE n) true else d
  let d := if st = old then d else d.raiseNext 0x7000 n n st (d.f (CAN_ERR_TEC n) * 256 + d.f (CAN_ERR_REC n))
  let d := if st = 1 && old ≠ 1 then d.setB (CAN_FLAGS_PASSIVE n) true else d
  if st = 2 && old ≠ 2 then
    let d := canInit (d.setB (CAN_FLAGS_BUS_OFF n) true) n
    let ms := match d.img.run with | some i => tget 100 i.boDelay n | none => 100
    if canDelegated d n then d else d.setCan n { d.can n with boLeft := some (d.framesOfMs ms) }
  else d

/-- Filter element `e` as it decides a frame (R378). -/
def filterMatch (d : Dev) (n e : Nat) (f : CanFrame) : Bool :=
  let v1 := d.f (FLT_V1_VALUE n e)
  let v2 := d.f (FLT_V2_VALUE n e)
  d.b (FLT_CFG_EN n e) && (d.b (FLT_CFG_XTD n e) == f.xtd)
    && (if d.b (FLT_CFG_KIND n e) then decide (v1 ≤ f.ident) && decide (f.ident ≤ v2) else (f.ident ^^^ v1) &&& v2 == 0)

/-- A frame for the FIFO (R379). -/
def canToFifo (d : Dev) (n : Nat) (e : CanElem) : Dev :=
  let c := d.can n
  if 64 ≤ c.fifo.length then
    ((d.count (CAN_CNT_RX_OVF n)).setB (CAN_FLAGS_RXF_OVR n) true).setCan n { c with ovfFifo := c.ovfFifo + 1 }
  else
    ((d.setCan n { c with fifo := c.fifo ++ [e] }).setF (CAN_RXF_FILL n) (c.fifo.length + 1)).setB (CAN_IR_RXF n) true

/-- A frame for high-priority buffer `k` (R380). -/
def canToHp (d : Dev) (n k : Nat) (e : CanElem) : Dev :=
  let c := d.can n
  let full := (d.f (CAN_HPSTAT_FULL n)).testBit k
  let d := d.setCan n { c with hp := tset {} c.hp k e, ovfHp := c.ovfHp + (if full then 1 else 0) }
  let d := if full then (d.count (CAN_CNT_RX_OVF n)).setB (CAN_FLAGS_HP_OVR n) true else d
  setBitOf (setBitOf d (CAN_HPSTAT_FULL n) k true) (CAN_IR_HP n) k true

/-- The stamp of an instant (R381): frame and offset, all ones and 0 before the time base. -/
def canStamp (d : Dev) (at_ : Nat) : Nat × Nat :=
  if d.running then
    let l := d.locate at_
    (l.1, l.2.2 + l.2.1 * d.tMinor)
  else (0xFFFFFFFFFFFF, 0)

/-- A frame becomes valid (R378 to R381). -/
def canStore (d : Dev) (n at_ : Nat) (f : CanFrame) : Dev :=
  let s := canStamp d at_
  match (List.range 128).find? (fun e => filterMatch d n e f) with
  | none => if d.b (CAN_CTRL_NM_FIFO n) then canToFifo d n { frame := f, ofs := s.2, maj := s.1 } else d
  | some e =>
    let el : CanElem := { frame := f, filter := e, ofs := s.2, maj := s.1 }
    match d.f (FLT_CFG_ACTION n e) with
    | 1 => canToFifo d n el
    | 2 => canToHp d n (d.f (FLT_CFG_HP n e)) el
    | _ => d

/-- A frame arrives from the bus (R375, R378, R384, R385): off the bus, in loopback, or an FD frame with FDOE clear, it
is not taken. A received frame lowers REC (ISO 11898-1:2015). -/
def canReceive (d : Dev) (n at_ : Nat) (f : CanFrame) : Dev :=
  if d.b (CAN_CTRL_INIT_ACK n) || d.b (CAN_CTRL_LBK n) || d.f (CAN_ERR_STATE n) = 2 || (f.fdf && !d.b (CAN_CTRL_FDOE n)) then d
  else
    let rec0 := d.f (CAN_ERR_REC n)
    let d := if d.b (CAN_CTRL_MON n) then d
      else if 128 ≤ rec0 then
        let v := d.free
        canErrSet v.2 n (d.f (CAN_ERR_TEC n)) (119 + v.1 % 9)
      else canErrSet d n (d.f (CAN_ERR_TEC n)) (rec0 - 1)
    canStore d n at_ f

/-- The frame of buffer `b` as the controller sends it: bit rate switching only with BRSE, FD format only with FDOE (R377; log entry 67). -/
def sentFrame (d : Dev) (n b : Nat) : CanFrame :=
  let f := txFrame d n b
  let fd := f.fdf && d.b (CAN_CTRL_FDOE n)
  { f with fdf := fd, brs := fd && f.brs && d.b (CAN_CTRL_BRSE n), data := f.data.take (dlcLen fd f.dlc) }

/-- Start of frame (R382, R384, R385). -/
def canStart (d : Dev) (n : Nat) : Dev :=
  if d.b (CAN_CTRL_INIT n) || d.b (CAN_CTRL_MON n) || d.f (CAN_ERR_STATE n) = 2 || (d.can n).started.isSome then d
  else match canPick d n with
    | none => d
    | some b =>
      let d := d.setCan n { d.can n with started := some b }
      if d.b (CAN_CTRL_LBK n) then d else d.emit (.canStart n b (sentFrame d n b))

/-- The started frame was transmitted (R381, R383, R387, R388). -/
def canSuccess (d : Dev) (n at_ : Nat) : Dev :=
  match (d.can n).started with
  | none => d
  | some b =>
    let s := canStamp d at_
    let f := sentFrame d n b
    let d := setBitOf (setBitOf (setBitOf d (CAN_TXREQ_REQ n) b false) (CAN_TXCAN_CAN n) b false) (CAN_TXDONE_DONE n) b true
    let d := d.setB (CAN_IR_TXDONE n) true
    let e : CanElem := { frame := f, ofs := s.2, maj := s.1 }
    let d := forEach (List.range 3) (fun x k => x.setReg (CAN_TXE_STAMP_W n b k).addr (elemWord e (k + 2))) d
    let c := d.can n
    let d := d.setCan n { c with ackErr := tset 0 c.ackErr b 0, coll := tset 0 c.coll b 0 }
    let d := d.setF (CAN_ERR_ACK_RUN n) 0
    let d := canErrSet d n (d.f (CAN_ERR_TEC n) - 1) (d.f (CAN_ERR_REC n))
    let d := if d.b (CAN_CTRL_LBK n) then canStore d n at_ f else d
    canEnded d n b

/-- The started frame ended without success: kept for retry, unless a cancel or INIT stands (R383, R384). -/
def canUnsuccessful (d : Dev) (n b : Nat) : Dev :=
  let d := if (d.f (CAN_TXCAN_CAN n)).testBit b || d.b (CAN_CTRL_INIT n) then canCancelled d n b else d
  canEnded d n b

def canArbLost (d : Dev) (n : Nat) : Dev :=
  match (d.can n).started with | none => d | some b => canUnsuccessful d n b

/-- Consecutive ACK errors (R387). -/
def canAckError (d : Dev) (n b : Nat) : Dev :=
  let d := d.count (CAN_ERR_ACK_RUN n)
  let d := if d.f (CAN_ERR_ACK_RUN n) = d.f (CAN_LIMITS_NOACK_LIM n) then
      ((d.setB (CAN_FLAGS_NO_ACK n) true).setB (CAN_IR_NO_ACK n) true).raiseNext 0x7001 n n b (txFrame d n b).ident
    else d
  let c := d.can n
  let k := tget 0 c.ackErr b + 1
  let d := d.setCan n { c with ackErr := tset 0 c.ackErr b k }
  let lim := d.f (CAN_LIMITS_NOACK_CANCEL n)
  if lim ≠ 0 && k = lim then
    (setBitOf d (CAN_TXCAN_CAN n) b true).raiseNext 0x7002 n n b k
  else d

/-- A suspected identifier collision (R388). -/
def canCollision (d : Dev) (n b : Nat) : Dev :=
  let c := d.can n
  let k := tget 0 c.coll b + 1
  let d := (d.setCan n { c with coll := tset 0 c.coll b k }).count (CAN_CNT_COLL n)
  if k = d.f (CAN_LIMITS_COLL_LIM n) then
    (d.setB (CAN_FLAGS_COLL n) true).raiseNext 0x7003 n n b (txFrame d n b).ident
  else d

/-- A bus error of kind `lec` (1 to 6). `inData`: in the control, data or CRC field; `dominant`: a dominant bit during
the passive error flag; `heavy`: a receiver's error that ISO 11898-1:2015 counts eight times. -/
def canError (d : Dev) (n lec : Nat) (inData dominant heavy : Bool) : Dev :=
  if d.b (CAN_CTRL_INIT_ACK n) then d
  else
    let d := d.setF (CAN_ERR_LEC n) lec
    let tec := d.f (CAN_ERR_TEC n)
    let rec0 := d.f (CAN_ERR_REC n)
    let passive := d.f (CAN_ERR_STATE n) = 1
    match (d.can n).started with
    | some b =>
      let d := if lec = 3 then canAckError d n b else d
      let d := if lec = 4 && inData then canCollision d n b else d
      let d := if d.b (CAN_CTRL_MON n) || (lec = 3 && passive && !dominant) then d else canErrSet d n (tec + 8) rec0
      canUnsuccessful d n b
    | none =>
      if d.b (CAN_CTRL_MON n) then d else canErrSet d n tec (rec0 + (if heavy then 8 else 1))

/-- 128 occurrences of 11 recessive bits with INIT clear end bus-off (R386). -/
def canRecover (d : Dev) (n : Nat) : Dev :=
  if d.f (CAN_ERR_STATE n) = 2 && !d.b (CAN_CTRL_INIT n) then (canErrSet d n 0 0).setCan n { d.can n with boLeft := none } else d

/-- BO_DELAY over: Felade clears INIT of its controller (R386). -/
def canBoDelay (d : Dev) (n : Nat) : Dev :=
  if (d.can n).boLeft = some 0 && !canDelegated d n then
    canLeaveInit (d.setCan n { d.can n with boLeft := none }) n
  else d

/-- POP (R379). -/
def canPop (d : Dev) (n : Nat) : Dev :=
  let c := d.can n
  (d.setCan n { c with fifo := c.fifo.drop 1 }).setF (CAN_RXF_FILL n) (c.fifo.length - 1)

/-- HPSTAT.FULL bits cleared (R380). -/
def canHpFree (d : Dev) (n mask : Nat) : Dev :=
  forEach ((List.range 4).filter (fun k => mask.testBit k)) (fun x k => setBitOf x (CAN_HPSTAT_FULL n) k false) d

/-- A word of a TX buffer element written (R382, Table 16-5): RO words keep their value. -/
def canTxWrite (d : Dev) (n b w : Nat) (v : Word) : Dev :=
  if (d.f (CAN_TXREQ_REQ n)).testBit b then d.setB (CAN_FLAGS_WR_BUSY n) true
  else match w with
    | 0 => d.setReg (CAN_TXE_ID_W n b).addr v
    | 1 => d.setF (CAN_TXE_FMT_FMT n b) v.toNat
    | k + 2 => if 3 ≤ k && k ≤ 18 then d.setReg (CAN_TXE_DATA_W n b (k - 3)).addr v else d

/-- The controller's interrupt while it is delegated (R101, R380): an enabled bit of IR has set since `was`. -/
def canIrq (was d : Dev) (n : Nat) : Dev :=
  let on := fun (x : Dev) => x.reg (CAN_IR_RXF n).addr &&& x.reg (CAN_IE_RXF n).addr
  if canDelegated d n && decide (on d &&& ~~~on was ≠ 0) then d.emit (.msix (33 + n)) else d

/-! ### Felade's objects (R391 to R393) -/

def txObj (d : Dev) (n o : Nat) : Option TxObj :=
  match d.img.run with | some i => (tget [] i.txObjs n).find? (fun x => decide (x.buffer = o)) | none => none

/-- The object's present data. -/
def objFrame (d : Dev) (n : Nat) (o : TxObj) : CanFrame := (tget none (d.can n).objs o.buffer).getD o.frame

/-- A due object (R391). -/
def canDue (d : Dev) (n : Nat) (o : TxObj) : Dev :=
  let f := objFrame d n o
  let b := o.buffer
  if (d.can n).started = some b then d.setCan n { d.can n with after := tset none (d.can n).after b (some f) }
  else if (d.f (CAN_TXREQ_REQ n)).testBit b then
    canRequest (putTxFrame ((canCancel d n (2 ^ b)).raise 0x7005 n n b 0) n b f) n (2 ^ b)
  else canRequest (putTxFrame d n b f) n (2 ^ b)

/-- Controller `n` at the boundary of major frame `maj`: due objects, bus-off delay, overflow records. -/
def canMajor (d : Dev) (n maj : Nat) : Dev :=
  let c := d.can n
  let d := if 0 < c.ovfFifo then d.raise 0x7004 n n 1 c.ovfFifo else d
  let d := if 0 < c.ovfHp then d.raise 0x7004 n n 2 c.ovfHp else d
  let d := d.setCan n { d.can n with ovfFifo := 0, ovfHp := 0, boLeft := c.boLeft.map (· - 1), sendDue := [] }
  if canDelegated d n then d
  else match d.img.run with
    | none => d
    | some i =>
      forEach ((tget [] i.txObjs n).filter (fun o =>
        (decide (0 < o.period) && decide (maj % o.period = o.phase)) || c.sendDue.contains o.buffer)) (fun x o => canDue x n o) d

/-- Frames of a Felade-owned controller stamped before the cutoff instant, oldest first (R392): from the FIFO and the
filled high-priority buffers, at most 64, by instant of validity. -/
def canTake (d : Dev) (n : Nat) : Dev × List CanElem :=
  if canDelegated d n then (d, [])
  else
    let c := d.can n
    let hp := ((List.range 4).filter (fun k => (d.f (CAN_HPSTAT_FULL n)).testBit k)).map (fun k => tget {} c.hp k)
    let all := c.fifo ++ hp
    (((d.setCan n { c with fifo := [] }).setF (CAN_RXF_FILL n) 0).setF (CAN_HPSTAT_FULL n) 0, all)

/-- A committed CAN frame becomes the newest of its receive object (R392). -/
def canCommit (d : Dev) (n : Nat) (e : CanElem) : Dev :=
  if d.b (FLT_CFG_OBJ_EN n e.filter) then
    let o := d.f (FLT_CFG_OBJ n e.filter)
    let c := d.can n
    d.setCan n { c with recv := tset {} c.recv o e, recvCount := tset 0 c.recvCount o (min 65535 (tget 0 c.recvCount o + 1)) }
  else d

/-- `io.write` to a controller: is the request in range (R393)? -/
def canWriteOk (d : Dev) (n obj dlc : Nat) : Bool :=
  match txObj d n obj with
  | none => false
  | some o => decide (dlc ≤ o.dlcMax) && (o.frame.fdf || decide (dlc ≤ 8)) && decide (dlc < 16) && !canDelegated d n

/-- `io.write` takes effect (R393). -/
def canWrite (d : Dev) (n obj dlc : Nat) (data : List Byte) (send : Bool) : Dev :=
  match txObj d n obj with
  | none => d
  | some o =>
    let c := d.can n
    let f := { objFrame d n o with dlc := dlc, data := data.take (dlcLen o.frame.fdf dlc) }
    d.setCan n { c with objs := tset none c.objs obj (some f), sendDue := if send then c.sendDue ++ [obj] else c.sendDue }

/-- State byte of `io.read` (Table 16-3). -/
def canStateByte (d : Dev) (n : Nat) : Nat := if d.b (CAN_CTRL_INIT_ACK n) then 3 else d.f (CAN_ERR_STATE n)

/-- Response payload of `io.read`, and the count of the object cleared (R393). -/
def canRead (d : Dev) (n obj : Nat) : List Byte × Dev :=
  let c := d.can n
  let e := tget {} c.recv obj
  let none_ := decide (e = {})
  let bytes := if none_ then List.replicate 84 0 else elemBytes e
  (bytes ++ le 2 (tget 0 c.recvCount obj) ++ le 1 (canStateByte d n) ++ le 1 (d.f (CAN_ERR_TEC n)) ++ le 1 (d.f (CAN_ERR_REC n)),
    d.setCan n { c with recvCount := tset 0 c.recvCount obj 0 })

/-- Start of fatal handling: CAN_TXn forced recessive, a started frame cut (R390). -/
def canCut (d : Dev) (n : Nat) : Dev := canInit (d.setCan n { d.can n with started := none }) n

end Sys2Proof.Machine
end

