-- ==== Sys2Proof/Machine/RecordOps.lean ====
section
/-!
DEFINITION. The recorder, reading of records and logs, Owl, fatal handling and the dump (chapter 18).
-/
namespace Sys2Proof.Machine

/-! ### Order within the frame and limits (R410, R411) -/

/-- Range of a record: 0 reproduced, 1 CAN, 2 network, time and cell link (R410). -/
def recRange (r : Record) : Nat := match r.code / 4096 with | 7 => 1 | 6 => 2 | _ => 0

/-- Place of a reproduced record: sessions, Badgers, tiles, Lynx, planner, Felade's other work in ascending code. -/
def recKey (r : Record) : Nat :=
  if r.code / 4096 = 0xA then 0
  else if r.code / 4096 = 5 then 1
  else if [0x2000, 0x2001, 0x2002, 0x2003, 0x2011, 0x20A0].contains r.code then 2
  else if r.code / 16 = 0x306 then 3
  else if r.code = 0x3011 ∨ r.code = 0x3012 then 4
  else 5 + r.code

/-- Stable insertion by key. -/
def recInsert (r : Record) : List Record → List Record
  | [] => [r]
  | x :: l => if recKey r < recKey x then r :: x :: l else x :: recInsert r l

def recSort (l : List Record) : List Record := l.foldl (fun acc r => recInsert r acc) []

/-- Write the records of one range: `base` first ORDER, `k` ORDER used, `n` new records so far, `lim` their limit. Answers
the number kept and lost. -/
def writeRange (base lim : Nat) : List Record → Rec → Nat → Nat → Nat → Rec × Nat × Nat
  | [], c, _, n, lost => (c, n, lost)
  | r :: l, c, k, n, lost =>
    let r := { r with order := base + k, flags := r.flags + (if 0xFE00 ≤ base then 1 else 0) }
    match repeatIn r 64 c.dram with
    | some _ => writeRange base lim l (c.write r).1 k n lost
    | none => if lim ≤ n then writeRange base lim l c k n (lost + 1) else writeRange base lim l (c.write r).1 (k + 1) (n + 1) lost

/-- The records of the present frame are written (R410, R411): RECORDS_LOST first, the three ranges, RECORDS_LOST_NR last. -/
def writeFrame (d : Dev) (frame : Nat) : Dev :=
  let c := d.rec_
  let rs := c.now
  let open_ := decide (c.lost.1 ≠ 0)
  let c1 := if open_ then (c.write { mkRecord frame 0x0002 0xFFFF (c.lostFrame % 2 ^ 32) c.lost.1 0 with order := 0 }).1 else c
  let a := writeRange 0 512 (recSort (rs.filter (fun r => recRange r = 0))) c1 (open_.toNat + c.written) c.written 0
  let b := writeRange 0xFE00 256 (rs.filter (fun r => recRange r = 1)) a.1 0 0 0
  let n := writeRange 0xFF00 255 (rs.filter (fun r => recRange r = 2)) b.1 0 0 0
  let c2 := if c.lost.2.1 + c.lost.2.2 = 0 then n.1
    else (n.1.write { mkRecord frame 0x0004 0xFFFF (c.lostFrame % 2 ^ 32) c.lost.2.1 c.lost.2.2 with order := 0xFFFF, flags := 1 }).1
  let d := { d with rec_ := { c2 with now := [], written := 0, lost := (a.2.2, b.2.2, n.2.2), lostFrame := frame } }
  let d := d.count .REC_LOST_REPRO a.2.2
  let d := d.count .REC_LOST_NONREPRO (b.2.2 + n.2.2)
  let d := if a.2.2 + b.2.2 + n.2.2 = 0 then d else d.setB .REC_FLAGS_LOST true
  d.recRegs

/-- At a major boundary the ended frame's records are written, and those owed to the new frame become its own. -/
def flushRecords (d : Dev) (ended : Nat) : Dev :=
  let d := writeFrame d ended
  { d with rec_ := { d.rec_ with now := d.rec_.next, next := [] } }

/-! ### Bytes of a record (Table 18-1) -/

def recordBytes (r : Record) : List Byte :=
  let b := le 6 r.frame ++ le 2 r.order ++ le 2 r.code ++ le 2 r.source ++ le 2 r.rep ++ le 2 r.flags ++ le 4 r.p0 ++ le 4 r.p1 ++ le 4 r.p2
  b ++ le 4 (crc32c b)

/-! ### record.read (R416) -/

/-- Arguments of `record.read` are in range. -/
def recReadOk (p : List Byte) : Bool :=
  decide (leAt p 0 1 ≤ 1) && decide (1 ≤ leAt p 1 1) && decide (leAt p 1 1 ≤ 5) && zeroAt p 2 2
    && (decide (leAt p 8 2 ≤ leAt p 10 2) || (decide (leAt p 10 2 = 0) && decide (leAt p 8 2 = 0)))

/-- Does a code lie in the range asked for? -/
def codeIn (lo hi code : Nat) : Bool := (decide (lo = 0) && decide (hi = 0)) || (decide (lo ≤ code) && decide (code ≤ hi))

/-- Scan `n` entries of an ascending list for up to `k` matches: entries found, and the index after the last scanned. -/
def recScan (lo hi : Nat) : Nat → Nat → List (Nat × Record) → Nat → List (Nat × Record) × Nat
  | 0, _, _, nx => ([], nx)
  | _ + 1, 0, _, nx => ([], nx)
  | _ + 1, _ + 1, [], nx => ([], nx)
  | n + 1, k + 1, (i, r) :: l, _ =>
    if codeIn lo hi r.code then let t := recScan lo hi n k l (i + 1); ((i, r) :: t.1, t.2) else recScan lo hi n (k + 1) l (i + 1)

/-- Response of `record.read` (Table 18-4). -/
def recRead (d : Dev) (p : List Byte) : List Byte :=
  let ring := if leAt p 0 1 = 0 then d.rec_.dram else d.rec_.ret
  let k := leAt p 1 1
  let start := leAt p 4 4
  let lo := leAt p 8 2
  let hi := leAt p 10 2
  let newest := d.rec_.idx - 1
  let oldest := d.rec_.idx - ring.length
  let asc := ring.reverse
  let adv := decide (start ≠ 0xFFFFFFFF) && decide (start < oldest)
  let res := if start = 0xFFFFFFFF then
      (((ring.take 4096).filter (fun e => codeIn lo hi e.2.code)).take k |>.reverse, d.rec_.idx)
    else
      let s := max start oldest
      if d.rec_.idx ≤ start then ([], start)
      else recScan lo hi 4096 k (asc.dropWhile (fun e => decide (e.1 < s))) s
  le 1 res.1.length ++ le 1 adv.toNat ++ le 2 0 ++ le 4 res.2 ++ le 4 0 ++ le 4 oldest ++ le 4 newest ++ le 12 0
    ++ res.1.flatMap (fun e => le 4 e.1 ++ recordBytes e.2)

/-! ### The commit-log ring (R55, R417) -/

/-- Bytes of a commit-log entry (R53, Table 2-10). -/
def logBytes (e : LogEntry) : List Byte :=
  le 1 e.cls ++ le 1 e.minor ++ le 2 e.source ++ le 2 e.body.length ++ le 2 e.order ++ padTo ((e.body.length + 3) / 4 * 4) e.body

/-- The ring's bytes, oldest first. -/
def Rmt.ringBytes (r : Rmt) : List Byte := r.ring.reverse.flatMap logBytes

/-- Response of `record.commit_read`; none where the length is out of range. -/
def commitRead (d : Dev) (p : List Byte) : Option (List Byte) :=
  let len := leAt p 4 2
  if len < 1 ∨ 192 < len then none
  else
    let bytes := d.rmt.ringBytes
    let newest := d.rmt.ringPos
    let oldest := newest - bytes.length
    let pos := max (leAt p 0 4) (oldest % 2 ^ 32)
    let got := (bytes.drop (pos - oldest % 2 ^ 32)).take len
    some (le 4 pos ++ le 4 oldest ++ le 4 newest ++ le 2 got.length ++ le 2 0 ++ got)

/-! ### Counters (R422) -/

/-- First slot and number of slots of a group of Table 18-6. -/
def counterGroup : Nat → Nat × Nat
  | 0 => (0, 64) | 1 => (64, 96) | 2 => (160, 96) | 3 => (256, 64) | 4 => (320, 64) | _ => (384, 128)

/-- An event counts in a slot of its group. -/
def Dev.tally (d : Dev) (group event : Nat) (n : Nat := 1) : Dev :=
  let g := counterGroup group
  let s := g.1 + Config.counterSlot group event % g.2
  { d with rec_ := { d.rec_ with counters := tset 0 d.rec_.counters s (tget 0 d.rec_.counters s + BitVec.ofNat 64 n) } }

/-- BAR4 read of a counter word: the low word latches the high word (R422). -/
def counterRead (d : Dev) (ofs : Nat) : Nat × Dev :=
  let v := (tget 0 d.rec_.counters (ofs / 8 % 512)).toNat
  if ofs % 8 = 0 then (v % 2 ^ 32, { d with rec_ := { d.rec_ with counterHi := BitVec.ofNat 32 (v / 2 ^ 32) } })
  else (d.rec_.counterHi.toNat, d)

/-- Trace ring bytes, oldest first, in the ring of 64 MiB: the newest byte stands before OWL_WRPOS. -/
def traceBytes (d : Dev) : List Byte := d.rec_.trace.reverse.flatten

/-- A word of `l` at an offset. -/
def wordAt (l : List Byte) (o : Nat) : Nat := leAt l o 4

/-- Word of the trace ring at an offset of its 64 MiB (Table 18-7). -/
def traceWord (d : Dev) (ofs : Nat) : Nat :=
  let l := traceBytes d
  let back := (d.f .OWL_WRPOS_POS + 2 ^ 26 - ofs % 2 ^ 26) % 2 ^ 26
  if back = 0 ∨ l.length < back then 0 else wordAt l (l.length - back)

/-- BAR4 read of 32 bits (Table 18-7). -/
def bar4Read (d : Dev) (ofs : Nat) : Nat × Dev :=
  if ofs < 0x4000000 then (traceWord d ofs, d)
  else if ofs < 0x4001000 then counterRead d (ofs - 0x4000000)
  else if ofs < 0x4001040 then
    (wordAt (le 4 (d.f .OWL_WRPOS_POS) ++ le 6 d.rec_.traceFrame ++ le 2 (d.f .OWL_STATUS_EPOCH)) (ofs - 0x4001000), d)
  else if 0x8000000 ≤ ofs ∧ ofs < 0xC000000 then (wordAt d.rec_.dump (ofs - 0x8000000), d)
  else (0, d)

/-! ### Owl (R418 to R421) -/

/-- A frame goes to the trace ring, and to the port where it is enabled and free: 10 ns a byte with start and end code. -/
def owlFrame (d : Dev) (at_ : Nat) (minor count : Nat) (values : List Byte) : Dev :=
  let gap := d.rec_.traceGap
  let f := fun (g : Bool) => le 6 d.esc.maj ++ le 1 minor ++ le 1 count ++ le 2 (d.f .OWL_STATUS_EPOCH) ++ le 2 g.toNat ++ le 4 (crc32c values) ++ values
  let ring := f false
  let len := ring.length
  let d := d.setF .OWL_WRPOS_POS ((d.f .OWL_WRPOS_POS + len) % 2 ^ 26)
  let d := { d with rec_ := { d.rec_ with trace := ring :: d.rec_.trace, traceFrame := d.esc.maj } }
  let d := d.tally 4 3
  if !d.b .OWL_STATUS_PORT then d
  else if at_ < d.rec_.portBusy then
    { (d.count .OWL_PORT_DROP_DROPS).tally 4 4 with rec_ := { (d.tally 4 4).rec_ with traceGap := true } }
  else
    { d.emit (.trace ((0xA7 : Byte) :: f gap ++ [(0x5C : Byte)])) with
      rec_ := { d.rec_ with traceGap := false, portBusy := at_ + 8 * (len + 2) } }

/-- A rational as a trace value. -/
def owlR (x : Rat) : Int := x.floor

/-- Value of a trace selection (Table 18-5) that needs no tile. -/
def owlValue (d : Dev) (sel : Nat) : Int :=
  let inst := sel / 65536 % 4096
  let item := sel % 65536
  let a := d.axis inst
  let g := d.group inst
  let c := d.cv inst
  match sel / 2 ^ 28, item with
  | 1, 0 => owlR a.pSet
  | 1, 1 => owlR a.pFb
  | 1, 2 => owlR a.vFb
  | 1, 3 => owlR a.fe
  | 1, 4 => owlR a.loop.iqRef
  | 1, 5 => owlR a.loop.id
  | 1, 6 => owlR a.loop.iq
  | 1, 7 => owlR a.loop.ud
  | 1, 8 => owlR a.loop.uq
  | 1, 9 => owlR a.loop.tCmd
  | 1, 10 => a.age
  | 2, 0 => owlR g.path.s
  | 2, 1 => owlR (g.scale * 10000)
  | 2, 2 => ((tget 10000 d.lynx.scale inst : Nat) : Int)
  | 2, 3 => match g.st with | .disabled => 0 | .homing => 1 | .standstill => 2 | .moving => 3 | .stopping => 4 | .faulted => 5
  | 5, 0 => (d.fb inst).pos
  | 5, 1 => (d.fb inst).sample.speed
  | 5, 2 => (d.fb inst).sample.stat.toNat
  | 6, 0 => owlR c.c
  | 6, 1 => owlR c.v
  | 6, 2 => c.queue.length
  | _, _ => 0

/-- Value of a tile data word or double word (kinds 3 and 4). -/
def owlTileValue (b : Blk) (sel : Nat) : Int :=
  let t := b.tile (sel / 65536 % 4096)
  let a := sel % 65536
  let w := fun k => tget (0 : DWord) t.data k
  if sel / 2 ^ 28 = 3 then (w a).toInt else (w (a + 1) ++ w a : BitVec 48).toInt

/-- A trace frame of the selections in use, where OWL_RATE selects this instant: 0 major, 1 minor, 2 planning boundary. -/
def owlTrace (b : Blk) (rate at_ : Nat) : Blk :=
  match b.dev.img.run with
  | none => b
  | some i =>
    let sels := i.owlSel.filter (fun s => s / 2 ^ 28 ≠ 0)
    if i.owlRate ≠ rate ∨ sels.isEmpty then b
    else
      let vs := sels.flatMap (fun s => sle 8 (if s / 2 ^ 28 = 3 ∨ s / 2 ^ 28 = 4 then owlTileValue b s else owlValue b.dev s))
      { b with dev := owlFrame b.dev at_ (if rate = 1 then b.dev.minor else 0xFF) sels.length vs }

/-- The usage frame of a major boundary (R420); what Lynx, the planner and the sealing task used is open (log entry 3). -/
def owlUsage (b : Blk) (at_ : Nat) : Blk :=
  let ts := (List.range 16).flatMap (fun n => le 8 (b.tile n).used)
  let x := b.dev.free
  let y := x.2.free
  let z := y.2.free
  { b with dev := owlFrame z.2 at_ 0xFE 19 (ts ++ le 8 x.1 ++ le 8 y.1 ++ le 8 z.1) }

/-- Registers of Owl follow the running image; a change of selection raises the epoch (R420, R428). -/
def owlConfigure (d : Dev) (old new_ : Option Image) : Dev :=
  let sel := fun (i : Option Image) => match i with | some x => x.owlSel | none => []
  let d := if sel old = sel new_ then d else d.setF .OWL_STATUS_EPOCH ((d.f .OWL_STATUS_EPOCH + 1) % 65536)
  let n := (sel new_).filter (fun s => s / 2 ^ 28 ≠ 0) |>.length
  let d := (d.setF .OWL_STATUS_SELECTED n).setB .OWL_STATUS_TRACE (decide (0 < n))
  match new_ with
  | some i => (d.setF .OWL_STATUS_RATE i.owlRate).setB .OWL_STATUS_PORT i.tracePort
  | none => (d.setF .OWL_STATUS_RATE 0).setB .OWL_STATUS_PORT false

/-! ### Fatal handling and the dump (R423 to R427) -/

/-- A record written at once, behind what the frame has raised so far. -/
def writeNow (d : Dev) (code source : Nat) (p0 p1 p2 : Int) : Dev :=
  if d.running then
    let n := (d.rec_.now.filter (fun r => recRange r = 0)).length
    let d := writeFrame d d.esc.maj
    let w := d.rec_.write { mkRecord d.esc.maj code source p0 p1 p2 with order := n }
    ({ d with rec_ := { w.1 with written := n + 1 } }).recRegs
  else d.raise code source p0 p1 p2

/-- The header of a dump (Table 18-10). -/
def dumpHeader (d : Dev) (cause detail total complete : Nat) (felade image : List Byte) : List Byte :=
  let h := [0x4B, 0x44, 0x4D, 0x50] ++ le 2 0x0100 ++ le 1 complete ++ le 1 cause ++ le 4 total ++ le 2 6 ++ le 2 detail ++ le 6 d.rec_.fatalFrame
    ++ le 2 0 ++ le 4 d.esc.tbCount ++ le 4 d.rec_.dumpRecord ++ padTo 32 felade ++ padTo 32 image ++ le 4 (d.reg 0).toNat
  padTo 252 h ++ le 4 (crc32c (padTo 252 h))

/-- Registers of the held dump. -/
def dumpRegs (d : Dev) : Dev :=
  let l := d.rec_.dump
  (((d.setB .REC_STATUS_DUMP_HELD d.rec_.dumpHeld).setF .REC_STATUS_DUMP_COMPLETE (leAt l 6 1)).setF .REC_STATUS_DUMP_CAUSE (leAt l 7 1)).setF
    .DUMP_LEN_LEN (if d.rec_.dumpHeld then leAt l 8 4 else 0)

/-- The dump as written, complete or not. -/
def putDump (d : Dev) (cause detail complete : Nat) (felade : List Byte) : Dev :=
  let body := Config.dumpBody d.rec_.dumpRecord
  let image := match d.img.run with | some i => i.hash | none => []
  let h := dumpHeader d cause detail (256 + body.length) complete felade image
  dumpRegs { d with rec_ := { d.rec_ with dump := h ++ body, dumpHeld := true, dumping := false } }

/-- Index of the newest record with a code. -/
def recordIndex (d : Dev) (code : Nat) : Nat :=
  match d.rec_.dram.find? (fun e => decide (e.2.code = code)) with | some e => e.1 | none => 0

/-- A fatal cause (R423, R424): the pads, CAN, the STO request line, the field die and the links at once, then FATAL_STOP;
a cause during handling ends the dump write and adds nothing. -/
def fatalStop (d : Dev) (cause detail at_ : Nat) : Dev :=
  match d.rec_.fatal with
  | some _ => { d with rec_ := { d.rec_ with dumping := false } }
  | none =>
    let d := pinsForceOff (pwmForceOff (d.setB .PWM_FORCE_FATAL true))
    let d := forEach (List.range 2) canCut d
    let d := { d with bad := { d.bad with line := true }, esc := { d.esc with linksCut := true } }
    let d := fieldAllSafe d
    let d := writeNow (d.setB .REC_FLAGS_FATAL true) 0x0010 0xFFFF cause detail (d.esc.maj % 2 ^ 32)
    let d := { d with rec_ := { d.rec_ with fatal := some (cause, detail, at_), fatalFrame := d.esc.maj } }
    if d.rec_.dumpHeld then writeNow { d with rec_ := { d.rec_ with dumping := false } } 0x0013 0xFFFF cause (leAt d.rec_.dump 7 1) 0
    else { d with rec_ := { d.rec_ with dumping := true, dumpRecord := recordIndex d 0x0010 } }

/-- `dump.read` (R427). -/
def dumpRead (d : Dev) (p : List Byte) : Option (List Byte) :=
  let ofs := leAt p 0 4
  let len := leAt p 4 2
  if len < 1 ∨ 192 < len then none
  else
    let held := d.rec_.dumpHeld
    let got := if held then (d.rec_.dump.drop ofs).take len else []
    some (le 4 ofs ++ le 4 (if held then leAt d.rec_.dump 8 4 else 0) ++ le 2 got.length ++ le 6 0 ++ got)

/-- `dump.clear` empties the region (R427). -/
def dumpClear (d : Dev) (ses : Nat) : Dev :=
  (dumpRegs { d with rec_ := { d.rec_ with dump := [], dumpHeld := false } }).raise 0x0014 0xFFFF ses 0 0

/-- DUMP_HELD at each start that finds a dump (R425). -/
def dumpHeldRecord (d : Dev) : Dev :=
  if d.rec_.dumpHeld then
    (dumpRegs d).raise 0x0012 0xFFFF (leAt d.rec_.dump 8 4 / 1024) (leAt d.rec_.dump 7 1) d.rec_.dumpRecord
  else d

/-- After a reset: indices of records whose CRC fails are dropped from the DRAM ring; a lost DRAM ring starts from the
retention ring (R415). -/
def recorderStart (d : Dev) (dramLost : Bool) (corrupt : List Nat) : Dev :=
  let c := d.rec_
  let dram := if dramLost then c.ret else c.dram.filter (fun e => !corrupt.contains e.1)
  let n := if dramLost then 0 else c.dram.length - dram.length
  let c := { c with now := [], next := [], dram := dram, outOrder := 0, fatal := none, dumping := false, written := 0, lost := (0, 0, 0),
                    dump := if dramLost then [] else c.dump, dumpHeld := c.dumpHeld && !dramLost }
  let d := ((({ d with rec_ := c }).setB .REC_STATUS_RUN true).setB .REC_STATUS_DRAM_VALID true).recRegs
  if n = 0 then d else (d.setB .REC_FLAGS_CRC_DROP true).raise 0x0003 0xFFFF 0 n 0

end Sys2Proof.Machine
end

