-- ==== Sys2Proof/Machine/TimeOps.lean ====
section
/-!
DEFINITION. Network time and the Ethernet ports (R346 to R363, R372): the clock and its states, anchors, time stamps,
gates, launch times, receive rings.
-/
namespace Sys2Proof.Machine

/-! ### The clock (R348, R352 to R355) -/

/-- r of R348, in 2^-40. -/
def Dev.rate (d : Dev) : Int := ufield 32 (d.f .TIME_RATE_RATE)

/-- Network time in ns at a CLK_TIME cycle. -/
def Dev.netTime (d : Dev) (at_ : Nat) : Rat :=
  d.net.base + (((at_ : Int) - d.net.ref : Int) : Rat) * (5/4) * (1 + (d.rate : Rat) / 2 ^ 40)

/-- Seconds and nanoseconds of a network time. -/
def secsOf (t : Rat) : Nat := t.floor.toNat / 1000000000 % 2 ^ 48
def nanosOf (t : Rat) : Nat := t.floor.toNat % 1000000000

/-- The rate changes at a cycle; it stays within ±200 ppm (R348). -/
def Dev.setRate (d : Dev) (at_ : Nat) (r : Int) : Dev :=
  ({ d with net := { d.net with base := d.netTime at_, ref := at_ } }).setS .TIME_RATE_RATE (clampI (-219902325) 219902325 r)

/-- Network-time states of Table 15-2, as coded in TIME_STATE. -/
def Dev.timeState (d : Dev) : Nat := d.f .TIME_STATE_STATE

/-- A change of state: an anchor is owed at the next major boundary (R358). -/
def Dev.toTime (d : Dev) (st : Nat) : Dev :=
  let d := { d with net := { d.net with anchorDue := d.net.anchorDue || decide (st ≠ d.timeState), good := 0 } }
  d.setF .TIME_STATE_STATE st

/-- Entry to HOLDOVER: r frozen at its mean over the last 64 measurements (R353). -/
def toHoldover (d : Dev) (at_ : Nat) : Dev :=
  let n := d.net.rates.length
  let r := if n = 0 then d.rate else (d.net.rates.sum : Int) / n
  ((d.setRate at_ r).toTime 3).setB .TIME_FLAGS_HOLDOVER true

/-- Mean of offsets, and whether they agree within 1 µs. -/
def meanOf (l : List Int) : Int := if l.isEmpty then 0 else l.sum / l.length
def agree (l : List Int) : Bool :=
  match l with
  | [] => false
  | x :: r => decide (r.foldl max x - r.foldl min x ≤ 65536000)

/-- A step of the clock by the mean of the offsets: the clock loses what it is ahead by (R352). -/
def clockStep (d : Dev) (at_ : Nat) (mean : Int) (st kind : Nat) : Dev :=
  let old := d.timeState
  let d := { d with net := { d.net with base := d.netTime at_ - (mean : Rat) / 65536, ref := at_, stepped := true, anchorDue := true,
                                        window := [], excess := [] } }
  let d := forEach (List.range 4) (fun (d : Dev) n =>
    { d with net := { d.net with eth := tmod {} d.net.eth n (fun e => { e with gclFrom := d.netTime at_ }) } }) d
  let d := (((d.toTime st).setB .TIME_FLAGS_STEP true).setF .TIME_STATE_REFUSALS 0).count .TIME_STATE_STEPS
  d.raiseNext 0x6001 0xFFFF (-mean / 65536) old kind

/-- Rate correction by the servo (R353): within 50 ppm of its frequency estimate. -/
def rateCorrect (d : Dev) (at_ : Nat) : Dev :=
  let est := clampI (-219902325) 219902325 (Config.servoEstimate d.net.count)
  let r := clampI (est - 54975581) (est + 54975581) (Config.servoRate d.net.count)
  let d := d.setRate at_ r
  { d with net := { d.net with rates := (d.rate :: d.net.rates).take 64 } }

/-- A refused measurement (R354). -/
def refuseJump (d : Dev) (at_ : Nat) (offset : Int) : Dev :=
  let n := d.f .TIME_STATE_REFUSALS + 1
  let d := ((d.count .TIME_STATE_REFUSALS).setB .TIME_FLAGS_JUMP_REFUSED true)
  let d := { d with net := { d.net with refused := true, good := 0 } }
  let d := d.raiseNext 0x6002 0xFFFF (offset / 65536) n (d.f .TIME_STATE_PARENT)
  if n = 16 then toHoldover d at_ else d

/-- A permit ends (R355). -/
def endPermit (d : Dev) : Dev := d.setB .TIME_STATE_PERMIT false

/-- The permit allows a step by `mean`. -/
def permits (d : Dev) (mean : Int) : Bool :=
  d.b .TIME_STATE_PERMIT && (decide (d.net.limit = 0) || decide (mean.natAbs ≤ d.net.limit * 65536))

/-- A measurement within JUMP_THR in LOCKING, LOCKED or HOLDOVER. -/
def goodMeasure (d : Dev) (at_ : Nat) (offset : Int) : Dev :=
  let d := (rateCorrect d at_).setF .TIME_STATE_REFUSALS 0
  let d := { d with net := { d.net with excess := [] } }
  if d.timeState = 3 then d.toTime 2
  else if d.timeState = 1 then
    let g := if offset.natAbs ≤ d.f .TIME_CFG_LOCK_THR * 65536 then d.net.good + 1 else 0
    let d := { d with net := { d.net with good := g } }
    if 16 ≤ g then d.toTime 2 else d
  else d

/-- A PTP measurement from parent port `parent` (1 or 2), offset in 2^-16 ns (Table 15-2). -/
def ptpTake (d : Dev) (parent : Nat) (offset : Int) (gm at_ : Nat) : Dev :=
  let d := (d.setF .TIME_STATE_PARENT parent).setS .TIME_OFFSET_OFFSET (clampI (-(2 ^ 31)) (2 ^ 31 - 1) (offset / 65536))
  let d := { d with net := { d.net with count := d.net.count + 1, lastMeas := at_, offset := offset / 65536, gm := gm,
                                        window := (offset :: d.net.window).take 4 } }
  let st := d.timeState
  if st = 0 then
    if d.net.window.length = 4 && agree d.net.window then clockStep d at_ (meanOf d.net.window) 1 1 else d
  else if offset.natAbs ≤ d.f .TIME_CFG_JUMP_THR * 65536 then goodMeasure d at_ offset
  else
    let excess := (offset :: d.net.excess).take 4
    let d := { d with net := { d.net with excess := excess } }
    if excess.length = 4 && agree excess && permits d (meanOf excess) then endPermit (clockStep d at_ (meanOf excess) 2 2)
    else if st = 3 then d
    else refuseJump d at_ offset

/-- PTP runs only once a configuration image has taken effect (R351). -/
def ptpMeasure (d : Dev) (parent : Nat) (offset : Int) (gm at_ : Nat) : Dev :=
  if d.img.run.isSome then ptpTake d parent offset gm at_ else d

/-- No measurement for HOLD_TMO (Table 15-2). -/
def holdTmo (d : Dev) (at_ : Nat) : Dev :=
  let tmo := match d.img.run with | some i => i.holdTmo | none => 1000
  if d.timeState = 2 && decide (d.net.lastMeas + tmo * 800000 ≤ at_) then toHoldover d at_ else d

/-- A group is in one of the states. -/
def anyGroupIn (d : Dev) (l : List GState) : Bool := d.grp.any (fun e => l.contains e.2.st)

/-- The permit is withdrawn after PERMIT_FRAMES, or as a group enters MOVING or HOMING (R355). -/
def permitExpire (d : Dev) : Dev :=
  let n := match d.img.run with | some i => i.permitFrames | none => 8000
  if !d.b .TIME_STATE_PERMIT then d
  else if anyGroupIn d [.moving, .homing] then (endPermit d).raise 0x6003 0xFFFF 2 0 0
  else if d.net.permitFrom + n ≤ d.esc.maj then (endPermit d).raise 0x6003 0xFFFF 1 0 0
  else d

/-- `time.permit_step` may be accepted (R355). -/
def permitOk (d : Dev) : Bool := !anyGroupIn d [.moving, .homing, .stopping]

/-- `time.permit_step` takes effect. -/
def permitStep (d : Dev) (limit : Nat) : Dev :=
  ({ d with net := { d.net with limit := limit, permitFrom := d.esc.maj, excess := [] } }).setB .TIME_STATE_PERMIT true

/-- The time anchor of a major boundary (R358, R359). -/
def timeAnchor (d : Dev) (at_ : Nat) : Dev :=
  let replay := match d.img.run with | some i => i.replay | none => false
  let due := decide (d.esc.maj % 8192 = 0)
  if due || (d.net.anchorDue && !replay) then
    let t := d.netTime at_
    let st := if replay then 0 else d.timeState
    let fl := d.net.stepped.toNat + 2 * d.net.refused.toNat + 4 * d.f .ESC_STATUS_ALIGNED + 8 * (decide (d.f .ESC_SRC_ACTIVE = 2)).toNat
    let d := { d with net := { d.net with stepped := false, refused := false, anchorDue := false } }
    d.raise 0x6000 0xFFFF (secsOf t % 2 ^ 32 : Nat) (nanosOf t + st * 2 ^ 30 : Nat) (secsOf t / 2 ^ 32 + fl * 65536 : Nat)
  else d

/-- `time.status` (R372). -/
def timeStatus (d : Dev) : List Byte :=
  let t := d.netTime d.esc.majAt
  le 1 d.timeState ++ le 1 (d.f .TIME_STATE_REFUSALS) ++ le 1 (d.f .TIME_STATE_PERMIT) ++ le 1 (d.f .TIME_STATE_PARENT)
    ++ sle 8 d.net.offset ++ sle 4 d.rate ++ be8 d.net.gm ++ le 6 (secsOf t) ++ le 4 (nanosOf t) ++ le 2 (d.f .TIME_STATE_STEPS)
where be8 (v : Nat) : List Byte := (le 8 v).reverse

/-- Reading TIME_NOW_SEC_LO latches the other two (R373, R282). -/
def timeNowRead (d : Dev) (at_ : Nat) : Dev :=
  let t := d.netTime at_
  (((d.setF .TIME_NOW_SEC_LO_SEC_LO (secsOf t % 2 ^ 32)).setF .TIME_NOW_SEC_HI_SEC_HI (secsOf t / 2 ^ 32)).setF .TIME_NOW_NS_NS (nanosOf t))

/-! ### PTP messages (R350, R360) -/

/-- ORGANIZATION_EXTENSION TLV of an Announce message (R360; TLV layout of IEEE 1588-2019). -/
def announceTlv (d : Dev) : List Byte :=
  let org := match d.img.run with | some i => i.orgId | none => 0
  [0x00, 0x03, 0x00, 0x09] ++ (le 3 org).reverse ++ [0x00, 0x00, 0x01] ++ (le 3 (d.f .LINE_DEV_NUMBER)).reverse

/-- A PTP message of a type leaves port `n` (R350, R351): only with an image in effect, on a port with a PTP role. -/
def ptpTransmit (d : Dev) (n kind : Nat) : Dev :=
  match d.img.run with
  | none => d
  | some i => if n < 2 && i.ptpPorts.testBit n then d.emit (.ptp n kind (if kind = 0xB then announceTlv d else [])) else d

/-! ### Ethernet ports -/

def Dev.ethp (d : Dev) (n : Nat) : EthPort := tget {} d.net.eth n
def Dev.setEth (d : Dev) (n : Nat) (e : EthPort) : Dev := { d with net := { d.net with eth := tset {} d.net.eth n e } }

/-- Receive stamp of R349, ns. -/
def rxStamp (d : Dev) (n at_ : Nat) : Rat := d.netTime at_ - (d.f (.ETH_LAT_ING n) : Rat) / 16

/-- EtherType of a frame from its destination address on, behind an 802.1Q tag where there is one, and where its payload
begins. -/
def etherType (l : List Byte) : Nat × Nat :=
  let t := fun i => leAt l i 1 * 256 + leAt l (i + 1) 1
  if t 12 = 0x8100 then (t 16, 18) else (t 12, 14)

/-- A PTP Announce message with the TLV of R360, over IEEE 802.3: clockIdentity and line device number. -/
def announceOf (d : Dev) (l : List Byte) : Option (Nat × Nat) :=
  let e := etherType l
  let p := l.drop e.2
  let tlv := p.drop 64
  if e.1 = 0x88F7 && leAt p 0 1 % 16 = 0xB && (tlv.take 10 == (announceTlv d).take 10) then
    some (ofLe ((p.drop 20).take 8).reverse, ofLe ((tlv.drop 10).take 3).reverse)
  else none

/-- The own line device number seen from another clock (R28, R360). -/
def dupLineDev (d : Dev) (n : Nat) (l : List Byte) : Dev :=
  match announceOf d l with
  | none => d
  | some (clk, line) =>
    if line = d.f .LINE_DEV_NUMBER && line ≠ 0 then
      (d.setB .TIME_FLAGS_DUP_LINE_DEV true).raiseNext 0x6004 n line (clk % 2 ^ 32 : Nat) (n + 1 : Nat)
    else d

/-- A frame arrives on port `n` (R347): a safe copy on P3 or P4 goes to the Badgers through Remontoire, any other frame
to the receive ring; a full ring drops it. -/
def ethReceive (d : Dev) (n at_ : Nat) (l : List Byte) : Dev :=
  if !d.b (.ETH_CFG_EN n) then d
  else
    let e := etherType l
    if 2 ≤ n ∧ e.1 = 0x88B5 then
      let p := d.ethp n
      if 64 ≤ p.safe then (d.count (.ETH_RX_OVF_SAFE n)).raiseNext 0x6012 n (n + 1 : Nat) 2 0
      else
        let pdu := l.drop e.2
        let d := d.setEth n { p with safe := p.safe + 1 }
        { d with rmt := { d.rmt with inputs := d.rmt.inputs ++
          [{ stamp := at_, frame := d.esc.maj, input := .safe n (leAt pdu 0 4) (leAt pdu 4 2) pdu l }] } }
    else
      let d := if n < 2 then dupLineDev d n l else d
      let p := d.ethp n
      if 256 ≤ p.rx.length then (d.count (.ETH_RX_OVF_RING n)).raiseNext 0x6012 n (n + 1 : Nat) 1 0
      else
        let d := d.setEth n { p with rx := p.rx ++ [(l, rxStamp d n at_)] }
        if n < 2 ∧ (d.f .OWN_DELEG_ETH).testBit n then d.mayRaise (35 + n) else d

/-! ### Gates (R362) -/

/-- Entries of a gate control list: gates, interval in ns. -/
def gclEntries (d : Dev) (n : Nat) : List (Nat × Nat) :=
  (List.range (min 32 (d.f (.ETH_GCL_LEN_LEN n)))).map (fun e => (d.f (.ETH_GCL_GATES n e), d.f (.ETH_GCL_INTERVAL n e)))

/-- Entry at a phase, and what is left of it; the last entry holds to the end of the cycle. -/
def gclWalk (cycle : Rat) : List (Nat × Nat) → Nat → Rat → Rat → Option (Nat × Rat)
  | [], _, _, _ => none
  | [_], i, _, ph => some (i, cycle - ph)
  | e :: r, i, acc, ph => if ph < acc + e.2 then some (i, acc + e.2 - ph) else gclWalk cycle r (i + 1) (acc + e.2) ph

/-- Phase in the cycle at a network time, none before BASE or without a cycle. -/
def gclPhase (d : Dev) (n : Nat) (t : Rat) : Option Rat :=
  let base : Rat := ((d.f (.ETH_GCL_BASE_SEC_LO_BASE n) + d.f (.ETH_GCL_BASE_SEC_HI_BASE n) * 2 ^ 32) * 1000000000 + d.f (.ETH_GCL_BASE_NS_BASE n) : Nat)
  let c : Rat := d.f (.ETH_GCL_CYCLE_CYCLE n)
  let from_ := (d.ethp n).gclFrom
  let start := if c = 0 then base else base + c * (((from_ - base) / c).ceil : Rat)
  if c = 0 ∨ t < base ∨ (base < from_ ∧ t < start) then none
  else some (t - base - c * (((t - base) / c).floor : Rat))

/-- The gates in force follow the list at a network time (R362, R357). -/
def gateUpdate (d : Dev) (n : Nat) (t : Rat) : Dev :=
  let l := gclEntries d n
  let p := d.ethp n
  if l.isEmpty then d.setEth n { p with gates := 255 }
  else match gclPhase d n t with
    | none => d
    | some ph => match gclWalk (d.f (.ETH_GCL_CYCLE_CYCLE n)) l 0 0 ph with
      | none => d
      | some (i, _) => d.setEth n { p with gates := (l.getD i (255, 0)).1 }

/-- How long the gate of a queue stays open from a time on, ns; none without an end. -/
def gateOpenFor (d : Dev) (n q : Nat) (t : Rat) : Option Rat :=
  let l := gclEntries d n
  if l.isEmpty then none
  else match gclPhase d n t with
    | none => none
    | some ph => match gclWalk (d.f (.ETH_GCL_CYCLE_CYCLE n)) l 0 0 ph with
      | none => none
      | some (i, left) =>
        let next := (l.drop (i + 1) ++ l.take i).takeWhile (fun e => e.1.testBit q)
        if next.length + 1 = l.length then none else some (left + (next.map (fun e => (e.2 : Rat))).sum)

/-- Time a frame of `n` bytes takes on a port with preamble and check sequence, ns. -/
def frameNs (d : Dev) (n len : Nat) : Rat :=
  ((len + 12 : Nat) : Rat) * (match d.f (.ETH_CFG_SPEED n) with | 0 => 800 | 1 => 80 | _ => 8)

/-! ### Transmission (R361 to R363) -/

/-- A transmit stamp joins the port's queue, or is dropped (R361). -/
def queueStamp (d : Dev) (n ident : Nat) (stamp : Rat) : Dev :=
  let p := d.ethp n
  if 16 ≤ p.txts.length then
    ((d.count (.ETH_TXTS_STAT_DROPS n)).setB (.ETH_TXTS_STAT_OVF n) true).raiseNext 0x6010 n (n + 1 : Nat) ident 0
  else (d.setEth n { p with txts := p.txts ++ [(ident, stamp)] }).setF (.ETH_TXTS_STAT_COUNT n) (p.txts.length + 1)

/-- A frame leaves queue `q` of port `n` at a cycle. -/
def sendFrame (d : Dev) (n q at_ : Nat) (f : TxFrame) : Dev :=
  let stamp := d.netTime at_ + (d.f (.ETH_LAT_EGR n) : Rat) / 16
  let d := (d.setEth n { d.ethp n with heads := tset none (d.ethp n).heads q none }).emit (.ethFrame n q f.bytes stamp)
  match f.stampId with
  | some i => queueStamp d n i stamp
  | none => d

/-- May the head of queue `q` start now: gate open long enough, launch time reached to within 8 ns? -/
def headReady (d : Dev) (n q at_ : Nat) (f : TxFrame) : Bool :=
  let t := d.netTime at_
  (d.ethp n).gates.testBit q
    && (match f.launch with | none => true | some l => decide ((l : Rat) - 8 ≤ t))
    && (match gateOpenFor d n q t with | none => true | some w => decide (frameNs d n f.bytes.length ≤ w))

/-- Frames that may start leave in strict priority, queue 7 first. -/
def txService (d : Dev) (n at_ : Nat) : Dev :=
  forEach [7, 6, 5, 4, 3, 2, 1, 0] (fun d q =>
    match tget none (d.ethp n).heads q with
    | some f => if headReady d n q at_ f then sendFrame d n q at_ f else d
    | none => d) d

/-- A late (1) or far (2) frame is counted (R363). -/
def launchLate (d : Dev) (n q kind : Nat) : Dev :=
  let d := d.count (.ETH_Q_LATE_CNT n q)
  let d := d.setB (if kind = 1 then .ETH_Q_LATE n q else .ETH_Q_FAR n q) true
  d.raiseNext 0x6011 n (n + 1 : Nat) q kind

/-- A frame reaches the head of its queue (R362, R363). -/
def queueHead (d : Dev) (n q at_ : Nat) (f : TxFrame) : Dev :=
  if !d.b (.ETH_CFG_EN n) then d
  else
    let t := d.netTime at_
    let put := fun (d : Dev) (f : TxFrame) => txService (d.setEth n { d.ethp n with heads := tset none (d.ethp n).heads q (some f) }) n at_
    match f.launch with
    | none => put d f
    | some l =>
      if (l : Rat) < t then
        let d := launchLate d n q 1
        if d.b (.ETH_Q_LATE_POLICY n q) then put d { f with launch := none } else d
      else if t + 1000000000 < (l : Rat) then launchLate d n q 2
      else put d f

/-- The launch time of the head of a queue has come. -/
def launchTime (d : Dev) (n _q at_ : Nat) : Dev := txService d n at_

/-- An interval of the gate control list ends. -/
def gateInterval (d : Dev) (n at_ : Nat) : Dev := txService (gateUpdate d n (d.netTime at_)) n at_

/-- A read of ETHn_TXTS_ID (R361): the value read, and the device with the stamp moved into its registers. -/
def txtsRead (d : Dev) (n : Nat) : Nat × Dev :=
  let p := d.ethp n
  match p.txts with
  | [] => (d.f (.ETH_TXTS_ID_ID n), d.setB (.ETH_TXTS_ID_VALID n) false)
  | (i, t) :: r =>
    let d := (d.setEth n { p with txts := r }).setF (.ETH_TXTS_STAT_COUNT n) r.length
    let d := (d.setF (.ETH_TXTS_SEC_LO_SEC n) (secsOf t % 2 ^ 32)).setF (.ETH_TXTS_SEC_HI_SEC n) (secsOf t / 2 ^ 32)
    let d := ((d.setF (.ETH_TXTS_NS_NS n) (nanosOf t)).setF (.ETH_TXTS_ID_ID n) (i % 65536)).setB (.ETH_TXTS_ID_VALID n) true
    (i % 65536 + 65536, d)

/-- Felade, or the host for a delegated port, empties the receive rings (DESIGN CHOICE: at each major boundary; log entry
35). -/
def drainRings (d : Dev) : Dev := forEach (List.range 4) (fun d n => d.setEth n { d.ethp n with rx := [] }) d

end Sys2Proof.Machine
end

