-- ==== Sys2Proof/Machine/GroupOps.lean ====
section
/-!
DEFINITION. Groups: states, stops, playing of entries, cams and gears, homing, coordinated starts, commands (R104 to R129).
-/
namespace Sys2Proof.Machine

open Fld

def GState.code : GState → Nat
  | .disabled => 0 | .homing => 1 | .standstill => 2 | .moving => 3 | .stopping => 4 | .faulted => 5

/-- ARM_STATE with every change of state. -/
def gState (d : Dev) (g : Nat) (st : GState) : Dev :=
  let x := d.group g
  if x.st = st then d else (d.setGroup g { x with st := st }).raise 0x3000 g g x.st.code st.code

/-- The path of a group ends: plan and entry in progress are dropped, the axes stand (R107). -/
def dropPath (d : Dev) (g : Nat) : Dev :=
  let x := d.group g
  let n := match x.cur with | some e => e.size | none => 0
  let d := d.setGroup g { x with
    cur := none, segs := [], plan := [], planFrom := {}, planTime := 0, path := {}, ramp := .none,
    rampPieces := [], rampTime := 0, gateOpen := false, flushed := false, starved := false, engaged := false, engage := 0, gearV := [],
    freeing := x.freeing + n, startPlan := none, ikOver := 0 }
  forEach (d.gcfg g).axes (fun y n => y.setAxis n { y.axis n with vNext := 0, aNext := 0, ramping := false }) d

/-! ### Stops (R119, R120, Table 5-5) -/

/-- Acceleration and jerk of the path parameter that a ramp may use on the segment in progress. -/
def rampLims (d : Dev) (g : Nat) (r : Ramp) : (Rat × Rat) × Dev :=
  let c := d.gcfg g
  let x := d.group g
  let rc := if r = .quick then c.quick else c.stop
  let i := min (x.segs.length - 1) x.path.s.floor.toNat
  match x.segs[i]? with
  | none => ((0, 0), d)
  | some s =>
    let l := segLims d g s rc rc.jshare rc.jshare
    if leAt s.raw 0 1 = 1 then ((l.2.1, l.2.2), d)
    else
      let l := segLims d g s rc 1 1
      let f := freeShare d
      ((l.2.1 * f.1, l.2.2 * f.1), f.2)

/-- Axis ramps of slaves and homing axes: each at its share of its joint's limits. -/
def rampAxes (d : Dev) (g : Nat) (r : Ramp) : Dev :=
  let c := d.gcfg g
  let rc := if r = .quick then c.quick else c.stop
  forEach c.axes.zipIdx (fun y e =>
    let l := jointLims c e.2
    let a := y.axis e.1
    if a.vSet = 0 then y.setAxis e.1 { a with ramping := false, vNext := 0, aNext := 0 }
    else
      let A := rc.jshare * l.2.1
      let J := rc.jshare * l.2.2
      let ps := if 0 ≤ a.vSet then stopPieces a.vSet a.aSet A J
        else (stopPieces (-a.vSet) (-a.aSet) A J).map (fun p => { p with jerk := -p.jerk })
      y.setAxis e.1 { a with rampPieces := ps, rampTime := 0, rampFrom := { s := a.pSet, v := a.vSet, a := a.aSet }, ramping := true }) d

/-- Is the entry in progress played along a planned path? -/
def Group.onPath (x : Group) : Bool := match x.cur with | some e => e.motion | none => false

/-- A stop ramp begins at this boundary. -/
def beginRamp (d : Dev) (g : Nat) (r : Ramp) : Dev :=
  let x := d.group g
  if x.onPath then
    let l := rampLims d g r
    let x := l.2.group g
    let v := x.path.v * x.scale
    let a := x.path.a * x.scale * x.scale
    l.2.setGroup g { x with ramp := r, rampPieces := stopPieces v a l.1.1 l.1.2, rampTime := 0, rampFrom := { s := x.path.s, v := v, a := a } }
  else rampAxes (d.setGroup g { x with ramp := r, rampPieces := [], rampTime := 0 }) g r

/-- HOMING_FAILED: the axes of the stage in progress stay unhomed (R128); a stop names no axis, so its parameter is a free value
(log entry 3). -/
def homeAbort (d : Dev) (g : Nat) (axis : Option Nat) (cause : Nat) : Dev :=
  let x := match axis with | some n => (n, d) | none => let y := d.free; (y.1 % 2 ^ 32, y.2)
  let d := x.2.raise 0x3031 g g x.1 cause
  forEach (d.gcfg g).axes (fun y n => y.setAxis n { y.axis n with homePhase := 0 }) d

/-- A stop of a moving or homing group, or a change to a stronger ramp of a stopping one (R120). -/
def stopGroup (d : Dev) (g : Nat) (r : Ramp) (row : Nat) : Dev :=
  let x := d.group g
  match x.st with
  | .moving => gState (beginRamp (d.setGroup g { x with stopRow := row }) g r) g .stopping
  | .homing => gState (beginRamp (d.setGroup g { x with stopRow := row }) g r) g .stopping
  | .stopping => if r = .quick ∧ x.ramp = .stop then beginRamp (d.setGroup g { x with stopRow := row }) g .quick else d
  | _ => d

/-- `arm.stop` and a lost action (R79): earlier entries discarded, STOP ramp. -/
def armStop (d : Dev) (g : Nat) (row : Nat) : Dev :=
  let x := d.group g
  match x.st with
  | .disabled => d
  | .faulted => d
  | .homing => stopGroup (homeAbort (discardAll d g) g none 4) g .stop row
  | _ => stopGroup (discardAll d g) g .stop row

/-- De-energise every axis; DISABLED (R106). -/
def groupOff (d : Dev) (g : Nat) : Dev :=
  let d := forEach (d.gcfg g).axes (fun y n => axDeenergise y n) (dropPath d g)
  let d := d.setGroup g { d.group g with pendDisable := false, pendFault := false, pendSs1 := false }
  gState d g .disabled

/-- `arm.disable` (R106). -/
def armDisable (d : Dev) (g : Nat) : Dev :=
  let x := d.group g
  match x.st with
  | .disabled => d
  | .standstill => groupOff (discardAll d g) g
  | .faulted => groupOff (discardAll d g) g
  | st =>
    let d := discardAll d g
    let d := if st = .homing then homeAbort d g none 4 else d
    let d := d.setGroup g { d.group g with pendDisable := true }
    stopGroup d g .stop 2

/-- SS1 demand on a group (R19, R106). -/
def groupSs1 (d : Dev) (g : Nat) : Dev :=
  let x := d.group g
  match x.st with
  | .disabled => d
  | .faulted => d
  | .standstill => gState (discardAll (d.setGroup g { x with pendSs1 := true, stopRow := 7 }) g) g .stopping
  | st =>
    let d := discardAll d g
    let d := if st = .homing then homeAbort d g none 4 else d
    let d := d.setGroup g { d.group g with pendSs1 := true }
    stopGroup d g .quick 7

/-- An axis fault takes effect for the group (R176), or a fault without an axis (R139, R142): axis, code. -/
def groupFault (d : Dev) (g axis code : Nat) : Dev :=
  let x := d.group g
  match x.st with
  | .disabled => d
  | .faulted => d
  | .standstill => (gState (dropPath (discardAll d g) g) g .faulted).raise 0x3002 g g axis code
  | st =>
    let d := discardAll d g
    let d := if st = .homing then homeAbort d g (some axis) 3 else d
    let x := d.group g
    let d := d.setGroup g (if x.pendFault then x else { x with pendFault := true, faultAxis := axis, faultCode := code })
    stopGroup d g .quick 6

/-- STO groups of a group: those the image assigns its axes to, lowest first (R306; log entry 103). -/
def Dev.stoGroups (d : Dev) (g : Nat) : List Nat :=
  (List.range 9).filter (fun k => (d.gcfg g).axes.any (fun n => decide ((d.acfg n).stoGroup = k)))

/-- STO demand covering the group's STO group `k`: DISABLED (R106). -/
def groupSto (d : Dev) (g k : Nat) : Dev :=
  let x := d.group g
  if x.st = .disabled then d
  else
    let d := discardAll d g
    let d := if x.st = .homing then homeAbort d g none 4 else d
    let d := dropPath d g
    let d := forEach (d.gcfg g).axes (fun y n => if d.bad.sto.testBit (y.acfg n).stoGroup then axSto y n else axDeenergise y n) d
    let d := d.setGroup g { d.group g with pendDisable := false, pendFault := false, pendSs1 := false }
    (gState d g .disabled).raise 0x3003 g g k 0

/-- Are all axes of the group at rest? -/
def axesStill (d : Dev) (g : Nat) : Bool := (d.gcfg g).axes.all (fun n => !(d.axis n).ramping && decide ((d.axis n).vSet = 0))

/-- A stopping group is at standstill. -/
def stopStill (d : Dev) (g : Nat) : Bool :=
  let x := d.group g
  decide (x.st = .stopping) && (if x.onPath then decide (piecesTime x.rampPieces ≤ x.rampTime) else axesStill d g)

/-- STANDSTILL_REACHED for a group (R106, R119). -/
def groupStill (d : Dev) (g : Nat) : Dev :=
  if !stopStill d g then d
  else
    let x := d.group g
    let d := dropPath d g
    if x.pendDisable then
      (groupOff d g).raise 0x3001 g g x.stopRow 0
    else if x.pendFault then
      let d := d.setGroup g { d.group g with pendFault := false, pendSs1 := false }
      (gState d g .faulted).raise 0x3002 g g x.faultAxis x.faultCode
    else if x.pendSs1 then d
    else gState d g .standstill

/-! ### Masters, cams and gears (R121 to R123) -/

/-- Position and speed of a master. -/
def masterAt (d : Dev) (kind idx : Nat) : Rat × Rat :=
  match kind with
  | 0 =>
    let a := d.axis idx
    if (d.acfg idx).noFeedback then (a.pSet, a.vSet) else (a.pFb, a.vFb * (d.acfg idx).vu)
  | 1 => ((d.cv idx).c, (d.cv idx).v)
  | _ => let m := tget {} d.masters idx; (m.pos + m.vel * 2 * d.sMajor, m.vel)

/-- Point `j` of a cam table, extended across turns by RISE (R122). -/
def camPoint (t : Cam) (j : Int) : Rat := t.points.getD (j % 1024).toNat 0 + t.rise * (j / 1024 : Int)

/-- Value of a cam at a phase: uniform Catmull–Rom cubics. -/
def camValue (t : Cam) (ph : Rat) : Rat :=
  let x := ph * 1024
  let j := x.floor
  let u := x - j
  let p0 := camPoint t (j - 1)
  let p1 := camPoint t j
  let p2 := camPoint t (j + 1)
  let p3 := camPoint t (j + 2)
  p1 + u / 2 * ((p2 - p0) + u * ((2 * p0 - 5 * p1 + 4 * p2 - p3) + u * (3 * p1 - p0 - 3 * p2 + p3)))

/-- Wanted motion of a slave clamped at its speed and acceleration limits (R121): new position, speed, and whether a limit
acted. -/
def slaveClamp (p v want T V A : Rat) : Rat × Rat × Bool :=
  let w := (want - p) / (if T = 0 then 1 else T)
  let w1 := clampR (v - A * T) (v + A * T) w
  let w2 := clampR (-V) V w1
  (p + w2 * T, w2, decide (w2 ≠ w))

/-- Move the slaves of the mask towards wanted positions; GEAR_LIMITED once per entry. -/
def driveSlaves (d : Dev) (g mask : Nat) (want : List Rat) : Dev :=
  let c := d.gcfg g
  let T := d.sMajor
  let r := forEach c.axes.zipIdx (fun (acc : Dev × Option Nat) e =>
    if !mask.testBit e.2 then acc
    else
      let a := acc.1.axis e.1
      let l := jointLims c e.2
      let m := slaveClamp a.pSet a.vSet (want.getD e.2 a.pSet) T l.1 l.2.1
      let y := if a.st = .faulted then acc.1 else acc.1.setAxis e.1 { a with pNext := m.1, vNext := m.2.1, aNext := (m.2.1 - a.vSet) / (if T = 0 then 1 else T) }
      (y, if m.2.2 && acc.2.isNone then some e.1 else acc.2)) (d, none)
  let x := r.1.group g
  match r.2 with
  | some n => if x.gearLimited then r.1 else (r.1.setGroup g { x with gearLimited := true }).raise 0x3015 g g n x.tag
  | none => r.1

/-- A major frame of a CAM entry (R122). Answers whether it has ended. -/
def playCam (d : Dev) (g : Nat) (e : Entry) : Dev × Bool :=
  let c := d.gcfg g
  let x := d.group g
  let r := e.raw
  let m := masterAt d (leAt r 17 1) (leAt r 18 1)
  let ph := (m.1 - sleAt r 22 6) / (sleAt r 28 6 : Int)
  let t := (d.img.run.bind (fun i => tget none i.cams (leAt r 16 1))).getD {}
  let val := fun (p : Rat) => (sleAt r 38 6 : Int) + f32At r 34 * camValue t p
  let mask := leAt r 20 2
  if !x.engaged then
    let prev := x.gearPrev
    let cross := decide (x.engage = 1) && decide (prev.floor < ph.floor)
    let d := d.setGroup g { x with gearPrev := ph, engage := 1 }
    if cross then
      let off := c.axes.zipIdx.any (fun a => mask.testBit a.2 && decide (c.inPos < absR ((d.axis a.1).pSet - val 0)))
      if off then (unreachable d g 5, true)
      else (driveSlaves (d.setGroup g { d.group g with engaged := true, camTurns := 0, gearM0 := ph.floor }) g mask (c.axes.map (fun _ => val (ph - ph.floor))), false)
    else (d, false)
  else
    let turns := if x.gearPrev.floor < ph.floor then x.camTurns + (ph.floor - x.gearPrev.floor).toNat else x.camTurns
    let d := d.setGroup g { x with gearPrev := ph, camTurns := turns }
    if 0 < leAt r 44 4 ∧ leAt r 44 4 ≤ turns then (rampAxes d g .stop, true)
    else (driveSlaves d g mask (c.axes.map (fun _ => val (ph - x.gearM0))), false)

/-- A major frame of a GEAR entry (R123). Answers whether it has ended. -/
def playGear (d : Dev) (g : Nat) (e : Entry) : Dev × Bool :=
  let c := d.gcfg g
  let x := d.group g
  let r := e.raw
  let m := masterAt d (leAt r 16 1) (leAt r 17 1)
  let ratio : Rat := (sleAt r 20 4 : Int) / (leAt r 24 4 : Nat)
  let mask := leAt r 18 2
  let T := d.sMajor
  let dm := m.1 - x.gearPrev
  if x.gearV.isEmpty then
    (d.setGroup g { x with gearPrev := m.1, gearM0 := m.1, gearV := c.axes.map (fun n => (d.axis n).vSet), engage := 0 }, false)
  else if !x.engaged then
    let eng := sleAt r 28 6
    if eng = 0 then
      let d := forEach c.axes.zipIdx (fun y a =>
        if !mask.testBit a.2 then y
        else
          let s := y.axis a.1
          let l := jointLims c a.2
          let k := playPieces { s := s.pSet, v := s.vSet, a := s.aSet } (velPieces s.vSet s.aSet (ratio * m.2) (e.accel * l.2.1) (e.accel * l.2.2)) T
          if s.st = .faulted then y else y.setAxis a.1 { s with pNext := k.s, vNext := k.v, aNext := k.a }) d
      let there := c.axes.zipIdx.all (fun a => !mask.testBit a.2 || decide (absR ((d.axis a.1).vNext - ratio * m.2) < 1))
      (d.setGroup g { d.group g with engaged := there, gearPrev := m.1, gearM0 := m.1, gearP0 := c.axes.map (fun n => (d.axis n).pNext) }, false)
    else
      let done := clampR 0 1 (absR (m.1 - x.gearM0) / absR (eng : Int))
      let f := freeShare d
      let part := if 1 ≤ done then 1 else max x.engage (min 1 f.1)
      let d := driveSlaves (f.2.setGroup g { f.2.group g with engage := part, gearPrev := m.1 }) g mask (c.axes.map (fun n => (d.axis n).pSet + part * ratio * dm))
      if 1 ≤ done then
        (d.setGroup g { d.group g with engaged := true, gearM0 := m.1, gearP0 := c.axes.map (fun n => (d.axis n).pNext) }, false)
      else (d, false)
  else
    let len := sleAt r 34 6
    let want := if leAt r 40 1 = 1 then x.gearP0.map (fun p => p + ratio * (m.1 - x.gearM0))
      else c.axes.map (fun n => (d.axis n).pSet + ratio * dm)
    let d := driveSlaves (d.setGroup g { x with gearPrev := m.1 }) g mask want
    (d, decide (len ≠ 0) && decide (absR (len : Int) ≤ absR (m.1 - x.gearM0)))

/-- GEAR_ENGAGEMENT_END (R123): p0 and m0 are fixed and the slaves follow. -/
def gearEngaged (d : Dev) (g : Nat) : Dev :=
  let x := d.group g
  match x.cur with
  | some e =>
    if e.ty = 7 ∧ !x.engaged ∧ x.engage = 1 then
      let m := masterAt d (leAt e.raw 16 1) (leAt e.raw 17 1)
      d.setGroup g { x with engaged := true, gearM0 := m.1, gearP0 := (d.gcfg g).axes.map (fun n => (d.axis n).pNext) }
    else d
  | none => d

/-! ### Playing entries (R110, R115 to R118) -/

/-- SEG_DONE and the entry freed (R107, R108). -/
def segDone (d : Dev) (g : Nat) : Dev :=
  let x := d.group g
  match x.cur with
  | none => d
  | some e =>
    let path := if e.motion then { x.path with s := max 0 (x.path.s - 1) } else x.path
    let d := d.setGroup g { x with
      cur := none, freeing := x.freeing + e.size, path := path, segs := if e.motion then x.segs.drop 1 else x.segs,
      planFrom := if e.motion then { x.planFrom with s := x.planFrom.s - 1 } else x.planFrom,
      waited := 0, dwelled := 0, engaged := false, engage := 0, gearV := [], gearLimited := false, gateOpen := false, segStart := [] }
    if e.flag 2 then d.raise 0x3013 g g e.tag 0 else d

/-- The next entry begins. -/
def segBegin (d : Dev) (g : Nat) : Dev :=
  let x := d.group g
  match x.queue with
  | [] => d
  | e :: r =>
    let d := d.setGroup g { x with cur := some e, queue := r, tag := e.tag, waited := 0, dwelled := 0 }
    if e.cartesian then
      let c := d.gcfg g
      let p := (invPose (entryFrame d g e.frame 0)).mul (tcp c (jointsOf c (c.axes.map (fun n => (d.axis n).pSet))))
      d.setGroup g { d.group g with segStart := poseList p, segTravel := if e.frame = 0 then 0 else (d.cv (e.frame - 1)).c }
    else d

/-- Has the motion entry in progress reached its end? -/
def pathReached (x : Group) : Bool :=
  decide (1 ≤ x.path.s) || (decide (x.segs.length ≤ 1) && decide (piecesTime x.plan ≤ x.planTime) && !x.segs.isEmpty)

/-- A WAIT whose event the batch of this frame commits (R117, Table 5-7); conveyor WAITs are opened by R145. -/
def waitOpen (d : Dev) (e : Entry) : Bool :=
  let i := leAt e.raw 17 1
  match leAt e.raw 16 1 with
  | 1 => d.rmt.now.inputs.any (fun s => match s.input with | .latch src _ _ _ => decide (src = i) | _ => false)
  | 2 => d.rmt.snapValid.getLsbD i && d.rmt.snap.getLsbD i
  | 3 => d.rmt.snapValid.getLsbD i && !d.rmt.snap.getLsbD i
  | 5 => decide (sleAt e.raw 18 6 ≤ d.esc.maj)
  | _ => false

/-- WAIT_TIMEOUT (R117): the event prevails when both fall in one frame. -/
def waitTimeout (d : Dev) (g : Nat) : Dev :=
  let x := d.group g
  match x.cur with
  | some e =>
    if e.ty = 8 ∧ 0 < leAt e.raw 24 4 ∧ leAt e.raw 24 4 ≤ x.waited ∧ !x.gateOpen then
      let d := d.raise 0x3014 g g e.tag (leAt e.raw 28 1)
      let d := if leAt e.raw 28 1 = 1 then discardAll d g else d
      d.setGroup g { d.group g with gateOpen := true }
    else d
  | none => d

/-- DWELL_END (R110). -/
def dwellEnd (d : Dev) (g : Nat) : Dev :=
  let x := d.group g
  match x.cur with
  | some e => if e.ty = 5 ∧ leAt e.raw 16 4 ≤ x.dwelled ∧ x.st = .moving then segDone d g else d
  | none => d

/-- Has the entry in progress ended at this boundary? -/
def entryEnded (d : Dev) (g : Nat) : Bool :=
  let x := d.group g
  match x.cur with
  | none => true
  | some e => match e.ty with
    | 5 => decide (leAt e.raw 16 4 ≤ x.dwelled)
    | 8 => x.gateOpen
    | 6 => false
    | 7 => false
    | _ => pathReached x

/-- Does the group stand still before its next entry: it has none, or `seg.flush` ends its motion here (R106, Table 5-5)? -/
def Group.last (x : Group) : Bool := x.flushed || x.queue.isEmpty

/-- PATH_END (R106): no entry left at standstill. -/
def pathEnd (d : Dev) (g : Nat) : Dev :=
  let x := d.group g
  if x.st = .moving ∧ x.cur.isNone ∧ x.last ∧ axesStill d g then
    let d := endClaims (dropPath d g) g
    (gState d g .standstill).raise 0x3010 g g x.tag 0
  else d

/-- Entries that have ended make room for the next, at most `n` of them in one boundary. -/
def advanceEntries : Nat → Dev → Nat → Dev
  | 0, d, _ => d
  | n + 1, d, g =>
    let d := match (d.group g).cur with
      | some e => if e.ty = 8 then
          let d := if waitOpen d e then d.setGroup g { d.group g with gateOpen := true } else d
          waitTimeout d g
        else d
      | none => d
    if entryEnded d g then
      let d := segDone d g
      if (d.group g).last then d else advanceEntries n (segBegin d g) g
    else d

/-- Bound of the time scale at a point of the path: the full limits of the segment (R118). -/
def scaleCap (d : Dev) (g : Nat) (k : Knot) : Rat × Dev :=
  let x := d.group g
  match x.segs[min (x.segs.length - 1) k.s.floor.toNat]? with
  | none => (1, d)
  | some s =>
    let l := segLims d g s (d.gcfg g).plan 1 1
    let part := fun (lim v : Rat) => if v = 0 ∨ lim = 0 then (2 : Rat) else lim / absR v
    let cap := min (part l.1 k.v) (min (sqrtR (part l.2.1 k.a)) (cbrtR (part l.2.2 k.j)))
    if leAt s.raw 0 1 = 1 ∧ 8 ≤ g then (max 1 cap, d) else let f := freeShare d; (max 1 (cap * f.1), f.2)

/-- Time scale of the frame (R118): ramped towards the lower of override and Lynx scaling within OVR_FRAMES. -/
def timeScale (d : Dev) (g : Nat) : Dev :=
  let x := d.group g
  let c := d.gcfg g
  let lynx := if g < 8 then tget 10000 d.lynx.scale g else 20000
  let target : Rat := (min x.override_ lynx : Nat) / 10000
  let x := if target = x.scaleTo then x else { x with scaleTo := target, scaleLeft := max 1 c.ovrFrames }
  if x.scaleLeft ≤ 1 then d.setGroup g { x with scale := x.scaleTo, scaleLeft := 0 }
  else
    let f := freeShare d
    f.2.setGroup g { x with scale := x.scale + (x.scaleTo - x.scale) * f.1, scaleLeft := x.scaleLeft - 1 }

/-- PATH_STARVED and the fall-back: the STOP ramp, the queue kept (R18, R115). -/
def pathStarved (d : Dev) (g : Nat) : Dev :=
  let x := d.group g
  let d := (d.setGroup g { x with starved := true }).raise 0x3011 g g x.tag 0
  let d := stopGroup d g .stop 4
  d.setGroup g { d.group g with starved := true }

/-- Play a stop ramp for one frame. -/
def playRamp (d : Dev) (g : Nat) : Dev :=
  let x := d.group g
  if x.onPath then
    let t := x.rampTime + d.sMajor
    let k := playPieces x.rampFrom x.rampPieces t
    let k := if piecesTime x.rampPieces ≤ t then { k with v := 0, a := 0 } else k
    pathPoint (d.setGroup g { x with rampTime := t, path := k }) g k 1
  else forEach (d.gcfg g).axes (fun y n => axGenerate y n) d

/-- Play one frame of a planned path; beyond what the planner delivered the fall-back is played (R115). -/
def playPath (d : Dev) (g : Nat) : Dev :=
  let x := d.group g
  let cap := scaleCap d g x.path
  let x := cap.2.group g
  let sc := if 1 < x.scale then min x.scale cap.1 else x.scale
  let t := x.planTime + sc * d.sMajor
  let total := piecesTime x.plan
  if x.planUntil < t ∧ x.planTime < total then playRamp (pathStarved cap.2 g) g
  else
    let k := playPieces x.planFrom x.plan t
    let k := if total ≤ t then { k with s := x.planFrom.s.floor + (x.segs.length : Nat), v := 0, a := 0 } else k
    let k := { k with s := max k.s x.path.s }
    pathPoint (cap.2.setGroup g { x with planTime := min t total, path := k }) g k sc

/-- The frame of a moving group after its entries have advanced: the set points of the next one. -/
def playMoving (d : Dev) (g : Nat) : Dev :=
  let x := d.group g
  match x.cur with
  | none => forEach (d.gcfg g).axes (fun y n => axGenerate y n) d
  | some e => match e.ty with
    | 5 => d.setGroup g { x with dwelled := x.dwelled + 1 }
    | 8 => d.setGroup g { x with waited := x.waited + 1 }
    | 6 => let r := playCam d g e; if r.2 then segDone r.1 g else r.1
    | 7 => let r := playGear d g e; if r.2 then segDone (rampAxes r.1 g .stop) g else r.1
    | _ => if x.segs.isEmpty then d else playPath d g

/-! ### Homing (R127, R128) -/

/-- Places of the axes of the present stage in the group's axis order. -/
def stageAxes (d : Dev) (g : Nat) : List (Nat × Nat) :=
  let x := d.group g
  (d.gcfg g).axes.zipIdx.filter (fun e => x.homeMask.testBit e.2 && decide ((d.acfg e.1).homeStage = x.homeStage)
    && decide ((d.acfg e.1).kind ≠ .virtual))

/-- Set the home of an axis: its positions move by `delta`. -/
def homeShift (d : Dev) (n : Nat) (delta : Rat) : Dev :=
  let a := d.axis n
  let d := d.setAxis n { a with homeOfs := a.homeOfs + delta, pSet := a.pSet + delta, pNext := a.pNext + delta, pFb := a.pFb + delta,
                                rampFrom := { a.rampFrom with s := a.rampFrom.s + delta }, homed := true, homePhase := 6 }
  if (d.acfg n).kind = .stepper then stepperHomed d (d.acfg n).stepper (d.axis n).pSet else d

/-- A speed for a homing axis on the group's HOME ramp. -/
def homeMove (d : Dev) (g n k : Nat) (v : Rat) (phase : Nat) : Dev :=
  let c := d.gcfg g
  let l := jointLims c k
  let a := d.axis n
  let A := c.home.jshare * l.2.1
  let J := c.home.jshare * l.2.2
  d.setAxis n { a with rampPieces := velPieces a.vSet a.aSet v A J, rampTime := 0, rampFrom := { s := a.pSet, v := a.vSet, a := a.aSet },
                       ramping := true, homePhase := phase }

/-- A move by a distance on the HOME ramp. -/
def homeBack (d : Dev) (g n k : Nat) (dist v : Rat) (phase : Nat) : Dev :=
  let c := d.gcfg g
  let l := jointLims c k
  let a := d.axis n
  let ps := movePieces a.vSet a.aSet dist v (c.home.jshare * l.2.1) (c.home.jshare * l.2.2)
  d.setAxis n { a with rampPieces := ps, rampTime := 0, rampFrom := { s := a.pSet, v := a.vSet, a := a.aSet }, ramping := true, homePhase := phase }

/-- Position, in axis units, of a latch event of the axis's switch source in this batch. -/
def homeLatched (d : Dev) (n : Nat) : Option Rat :=
  let c := d.acfg n
  d.rmt.now.inputs.findSome? (fun s => match s.input with
    | .latch src pos _ _ =>
      if src ≠ c.homeSource then none
      else if d.b (LAT_CFG_KIND src) then some pos
      else some ((pos * c.cntNum : Int) / (c.cntDen : Rat) + (d.axis n).homeOfs)
    | _ => none)

/-- Position of a new index pulse of the axis's homing channel. -/
def homeIndexed (d : Dev) (n : Nat) : Option Rat :=
  let c := d.acfg n
  let s := (d.fb c.homeChan).sample
  if s.stat.getLsbD (FB_STAT_IDX_NEW c.homeChan).lo then some ((s.idx * c.cntNum : Int) / (c.cntDen : Rat) + (d.axis n).homeOfs) else none

/-- Start the method of an axis of the stage (Table 5-8). -/
def homeStart (d : Dev) (g : Nat) (e : Nat × Nat) : Dev :=
  let n := e.1
  let c := d.acfg n
  let sg : Rat := if c.homeRev then -1 else 1
  let d := d.setAxis n { d.axis n with homeFrom := (d.axis n).pSet, homeCount := 0 }
  match c.home with
  | .none => d.setAxis n { d.axis n with homePhase := 6 }
  | .switch => homeMove d g n e.2 (sg * c.homeSearch * c.vu) 1
  | .switchIndex => homeMove d g n e.2 (sg * c.homeSearch * c.vu) 1
  | .index => homeMove d g n e.2 (sg * c.homeCreep * c.vu) 4
  | .stopCurrent => homeMove d g n e.2 (sg * c.homeCreep * c.vu) 7
  | .stopFerr => homeMove d g n e.2 (sg * c.homeCreep * c.vu) 7
  | .absSet => if axHomed d n then homeShift d n (c.homeOffset - (d.axis n).homeOfs) else d.setAxis n { d.axis n with homePhase := 9 }
  | .setHere => homeShift d n (c.homeValue - (d.axis n).pSet)

/-- One frame of a homing axis: phases 1 search, 2 stop, 3 back-off, 4 creep to the index or edge, 5 final stop, 7 creep to a
hard stop, 8 back-off from it, 10 creep from the edge to the index; 6 done, 9 failed. -/
def homeAxis (d : Dev) (g : Nat) (e : Nat × Nat) : Dev :=
  let n := e.1
  let c := d.acfg n
  let a := d.axis n
  let sg : Rat := if c.homeRev then -1 else 1
  let still := !a.ramping && decide (a.vSet = 0)
  let far := decide (c.homeTravel < absR (a.pSet - a.homeFrom))
  match a.homePhase with
  | 1 => if (homeLatched d n).isSome then homeMove d g n e.2 0 2 else if far then d.setAxis n { a with homePhase := 9 } else d
  | 2 => if still then homeBack d g n e.2 (-sg * c.homeBackoff) (c.homeSearch * c.vu) 3 else d
  | 3 => if still then homeMove d g n e.2 (sg * c.homeCreep * c.vu) 4 else d
  | 4 =>
    let hit := if c.home = .index then homeIndexed d n else homeLatched d n
    match hit with
    | some p =>
      if c.home = .switchIndex then d.setAxis n { a with homePhase := 10 }
      else homeMove (d.setAxis n { a with homeLatch := p }) g n e.2 0 5
    | none => if far then d.setAxis n { a with homePhase := 9 } else d
  | 10 => match homeIndexed d n with
    | some p => homeMove (d.setAxis n { a with homeLatch := p }) g n e.2 0 5
    | none => if far then d.setAxis n { a with homePhase := 9 } else d
  | 5 => if still then homeShift d n (-(a.homeLatch + c.homeOffset)) else d
  | 7 =>
    let press := if c.home = .stopCurrent then decide (c.homeIthr < absR (a.loop.iq * 1000)) else decide (c.homeFethr < absR a.fe)
    let k := if press then a.homeCount + 1 else 0
    let d := d.setAxis n { a with homeCount := k }
    if c.homeDwell ≤ k ∧ press then
      let d := homeShift d n (-(a.pFb + c.homeOffset))
      homeBack d g n e.2 (-sg * c.homeBackoff) (c.homeCreep * c.vu) 8
    else if far then d.setAxis n { d.axis n with homePhase := 9 } else d
  | 8 => if still then d.setAxis n { a with homePhase := 6 } else d
  | _ => d

/-- HOMING_DONE (R127): a stage whose axes have all found home is followed by the next, or the group returns to STANDSTILL. -/
def homeNext (d : Dev) (g : Nat) : Dev :=
  let x := d.group g
  if x.st ≠ .homing ∨ (stageAxes d g).any (fun e => decide ((d.axis e.1).homePhase ≠ 6)) then d
  else
    let later := ((d.gcfg g).axes.zipIdx.filter (fun e => x.homeMask.testBit e.2 && decide (x.homeStage < (d.acfg e.1).homeStage))).map
      (fun e => (d.acfg e.1).homeStage)
    match later with
    | [] => (gState (forEach (d.gcfg g).axes (fun y n => y.setAxis n { y.axis n with homePhase := 0 }) d) g .standstill).raise 0x3030 g g (homedMask d g) 0
    | s :: r =>
      let d := d.setGroup g { x with homeStage := r.foldl min s }
      forEach (stageAxes d g) (fun y e => homeStart y g e) d

/-- HOMING_FAILED (R128): travel (cause 1) or an invalid absolute reading (cause 2) of an axis. -/
def homeFail (d : Dev) (g : Nat) : Dev :=
  let x := d.group g
  if x.st ≠ .homing then d
  else match (stageAxes d g).find? (fun e => decide ((d.axis e.1).homePhase = 9)) with
    | none => d
    | some e =>
      let cause := if (d.acfg e.1).home = .absSet then 2 else 1
      stopGroup (homeAbort d g (some e.1) cause) g .quick 8

/-- `arm.home` starts stage 0, or the lowest stage of the mask. -/
def homeBegin (d : Dev) (g mask : Nat) : Dev :=
  let st := ((d.gcfg g).axes.zipIdx.filter (fun e => mask.testBit e.2)).map (fun e => (d.acfg e.1).homeStage)
  let s := match st with | [] => 0 | a :: r => r.foldl min a
  let d := gState (d.setGroup g { d.group g with homeMask := mask, homeStage := s }) g .homing
  forEach (stageAxes d g) (fun y e => homeStart y g e) d

/-- A frame of a homing group. -/
def playHoming (d : Dev) (g : Nat) : Dev :=
  let d := forEach (stageAxes d g) (fun y e => homeAxis y g e) d
  let d := homeNext (homeFail d g) g
  forEach (d.gcfg g).axes (fun y n => axGenerate y n) d

/-! ### Starts (R105, R117, R124 to R126) -/

/-- The start gate of a group opens: MOVING from standstill. -/
def openGate (d : Dev) (g : Nat) : Dev :=
  let x := d.group g
  if x.st = .standstill ∧ !x.queue.isEmpty then
    gState (segBegin (d.setGroup g { x with startPlan := none, path := {} }) g) g .moving
  else d

/-- An immediate start (R105): planning frame of the commit plus 2. -/
def armStart (d : Dev) (g : Nat) : Dev :=
  let x := d.group g
  if (d.gcfg g).startMode = 0 ∧ x.startPlan.isNone then d.setGroup g { x with startPlan := some (d.esc.maj / max 1 d.P + 2) } else d

/-- The gate of an immediate start at a planning boundary. -/
def immediateStart (d : Dev) (g : Nat) : Dev :=
  let x := d.group g
  match x.startPlan with
  | some k => if d.esc.maj % max 1 d.P = 0 ∧ k ≤ d.esc.maj / max 1 d.P then openGate d g else d
  | none => if (d.gcfg g).startMode = 0 ∧ x.st = .standstill ∧ !x.queue.isEmpty then armStart d g else d

/-- Readiness of R124. -/
def startReady (d : Dev) (g : Nat) : Bool :=
  let x := d.group g
  decide (x.st = .standstill) && decide ((d.gcfg g).startMode = 1) && !x.queue.isEmpty && groupHomed d g && x.held.isNone

/-- Earliest admissible S of R124 or, with joined members, of R125. -/
def earliestStart (d : Dev) (e : Nat) (joined : Bool) : Nat := ((if joined then e + 2 else e) / max 1 d.P + 2) * max 1 d.P

/-- Hold local groups for S (R124). -/
def holdGroups (d : Dev) (s issuer : Nat) (go : Bool) (l : List Nat) : Dev :=
  forEach l (fun y g => y.setGroup g { y.group g with held := some (s, issuer, go) }) d

/-- START_DONE, or START_ABORTED, at major frame S (R126). -/
def startAt (d : Dev) (g : Nat) : Dev :=
  let x := d.group g
  match x.held with
  | none => d
  | some (s, issuer, go) =>
    if d.esc.maj < s then d
    else
      let d := d.setGroup g { x with held := none }
      if !go then d.raise 0x3021 g g (s % 2 ^ 32) 2
      else if startReady d g then (openGate d g).raise 0x3020 g g (s % 2 ^ 32) issuer
      else d.raise 0x3021 g g (s % 2 ^ 32) 3

/-- START_ABORT: groups held for S by an issuer are released with cause 1. -/
def startAbort (d : Dev) (s issuer : Nat) : Dev :=
  forEach (List.range 12) (fun y g =>
    match (y.group g).held with
    | some (s', i, _) => if s' = s ∧ i = issuer then (y.setGroup g { y.group g with held := none }).raise 0x3021 g g (s % 2 ^ 32) 1 else y
    | none => y) d

/-- START_GO: the groups held for S keep the start. -/
def startGo (d : Dev) (s issuer : Nat) : Dev :=
  forEach (List.range 12) (fun y g =>
    match (y.group g).held with
    | some (s', i, _) => if s' = s ∧ i = issuer then y.setGroup g { y.group g with held := some (s, i, true) } else y
    | none => y) d

/-! ### A major boundary of a group -/

/-- Faults raised for axes of the group in the ended frame take effect, lowest axis first (R176). -/
def takeFaults (d : Dev) (g : Nat) : Dev :=
  let d := forEach (d.gcfg g).axes (fun y n => if (y.axis n).newFault then groupFault y g n (y.axis n).fault else y) d
  forEach (d.gcfg g).axes (fun y n => y.setAxis n { y.axis n with newFault := false }) d

/-- IK_DIVERGED (R139): QUICK ramp, then FAULTED. -/
def ikDiverged (d : Dev) (g : Nat) : Dev :=
  let x := d.group g
  if 0 < (d.gcfg g).ikFaultFrames ∧ (d.gcfg g).ikFaultFrames ≤ x.ikOver then
    let d := (d.setGroup g { x with ikOver := 0 }).raise 0x3041 g g (truncR x.ikPos) x.tag
    let f := d.free
    groupFault f.2 g (f.1 % 2 ^ 32) 0
  else d

/-- Payload set by the commanded outputs (R135). -/
def payloadSet (d : Dev) (g : Nat) : Dev :=
  let c := d.gcfg g
  let bit := fun (o : Option Nat) => match o with | some k => (d.field.applied.getLsbD k).toNat | none => 0
  let s := 2 * bit c.paySel1 + bit c.paySel0
  let x := d.group g
  if c.payloads.isEmpty ∨ s = x.paySet then d else (d.setGroup g { x with paySet := s }).raise 0x3042 g g x.paySet s

/-- Entries freed in the previous frame count as free now (R107). -/
def freeEntries (d : Dev) (g : Nat) : Dev := d.setGroup g { d.group g with freeing := 0 }

/-- What a group does at a major boundary once demands and commands have acted. -/
def groupBoundary (d : Dev) (g : Nat) : Dev :=
  let d := payloadSet d g
  let d := groupStill d g
  let d := startAt (immediateStart d g) g
  let d := if (d.group g).st = .moving then pathEnd (advanceEntries 64 d g) g else d
  timeScale d g

/-- The tiles' work of a major frame for a group: set points of the next one (R115, R160). -/
def groupWork (d : Dev) (g : Nat) : Dev :=
  let d := if (d.group g).st = .moving then advanceEntries 64 d g else d
  let d := match (d.group g).st with
    | .moving => playMoving d g
    | .stopping => playRamp d g
    | .homing => playHoming d g
    | _ => forEach (d.gcfg g).axes (fun y n => y.setAxis n { y.axis n with vNext := 0, aNext := 0 }) d
  armDynamics (ikDiverged d g) g

/-! ### Commands (R129, Table 5-9) -/

def known (d : Dev) (g : Nat) : Bool := (d.grpCfg g).isSome

/-- Why `arm.enable` is refused (R106). -/
def armEnableCheck (d : Dev) (g : Nat) : Nat :=
  if !known d g then 0x22
  else if (d.group g).st = .disabled ∧ (d.gcfg g).axes.all (axReady d) then 0 else 0x21

/-- `arm.enable`: energise, run ABS_SET homing. -/
def armEnable (d : Dev) (g : Nat) : Dev :=
  let d := forEach (d.gcfg g).axes (fun y n =>
    let y := axEnergise y n
    if (y.acfg n).home = .absSet then let z := homeShift y n ((y.acfg n).homeOffset - (y.axis n).homeOfs); z.setAxis n { z.axis n with homePhase := 0 } else y) d
  gState d g .standstill

/-- Status of `arm.disable`, `arm.stop`, `seg.flush` when they take effect. -/
def stopAnswer (d : Dev) (g : Nat) : Nat :=
  match (d.group g).st with | .moving => 1 | .homing => 1 | .stopping => 1 | _ => 0

/-- Why `arm.home` is refused (R106, R127). -/
def armHomeCheck (d : Dev) (g mask : Nat) : Nat :=
  let c := d.gcfg g
  if !known d g ∨ 2 ^ c.axes.length ≤ mask then 0x22
  else if c.axes.zipIdx.any (fun e => mask.testBit e.2 && decide ((d.acfg e.1).kind ≠ .virtual) && decide ((d.acfg e.1).home = .none)) then 0x22
  else if (d.group g).st = .standstill ∧ (d.group g).queue.isEmpty then 0 else 0x21

/-- `arm.status` (Table 5-9). -/
def armStatus (d : Dev) (g : Nat) : List Byte :=
  let x := d.group g
  let paused := decide (x.st = .moving) && decide (x.scale = 0)
  let waiting := match x.cur with | some e => decide (e.ty = 8) && !x.gateOpen | none => false
  let flags := (groupHomed d g).toNat + 2 * paused.toNat + 4 * x.held.isSome.toNat + 8 * waiting.toNat + 16 * x.starved.toNat
  let lynx := if g < 8 then tget 10000 d.lynx.scale g else 10000
  let s := match x.held with | some h => h.1 | none => 0
  le 1 x.st.code ++ le 1 flags ++ le 2 (min 65535 (x.entries - x.freeing)) ++ le 4 x.tag ++ le 2 x.override_ ++ le 2 lynx ++ le 6 s ++ le 2 (homedMask d g)

/-- Step 4 of Table 5-2: state of the group, homing. -/
def appendState (d : Dev) (g : Nat) (l : List Entry) : Bool :=
  let x := d.group g
  decide (x.st ≠ .homing) && decide (x.st ≠ .faulted) && (groupHomed d g || l.all (fun e => [1, 5, 8].contains e.ty))

/-- Step 6 of Table 5-2: room in the store and under SEG_CAP. -/
def appendRoom (d : Dev) (g : Nat) (l : List Entry) : Bool :=
  let n := (l.map Entry.size).sum
  decide (n ≤ storeFree d) && decide ((d.group g).entries + n ≤ (d.gcfg g).segCap)

/-- `seg.append` queues its entries (R108). -/
def segAppend (d : Dev) (g : Nat) (l : List Entry) : Dev :=
  let x := d.group g
  let d := d.setGroup g { x with queue := x.queue ++ l }
  if x.queue.isEmpty ∧ x.st = .standstill then armStart d g else d

/-- `seg.flush` (Table 5-5): entries not begun are discarded; the segment in progress ends at standstill, or the STOP ramp acts
where it cannot; a DWELL or a WAIT in progress ends as it would. What is appended later waits for a start (R120). -/
def segFlush (d : Dev) (g : Nat) : Dev :=
  let x := d.group g
  let d := discardAll d g
  let y := if x.st = .moving then { d.group g with flushed := true } else d.group g
  let d := d.setGroup g y
  match x.st, x.cur with
  | .moving, some e =>
    if e.motion then
      match y.segs with
      | s :: _ =>
        let l := segLims d g s (d.gcfg g).plan e.speed e.accel
        let stop := stopPieces y.path.v y.path.a l.2.1 l.2.2
        let need := (playPieces { v := y.path.v, a := y.path.a } stop (piecesTime stop)).s
        if y.path.s + need ≤ 1 then
          d.setGroup g { y with segs := [s], plan := movePieces y.path.v y.path.a (1 - y.path.s) l.1 l.2.1 l.2.2, planFrom := y.path, planTime := 0 }
        else stopGroup d g .stop 3
      | [] => d.setGroup g { y with cur := none, freeing := y.freeing + e.size }
    else if e.ty = 7 ∨ e.ty = 6 then segDone (rampAxes d g .stop) g
    else d
  | _, _ => d

/-- `seg.status` (Table 5-9). -/
def segStatus (d : Dev) (g : Nat) : List Byte :=
  let x := d.group g
  le 2 (storeFree d) ++ le 2 (x.entries - x.freeing) ++ le 2 d.rmt.credits ++ le 2 (d.gcfg g).segCap

/-- Groups a `cell.start_together` names: local ones, and pairs of member and group. -/
def startNames (d : Dev) (p : List Byte) : List Nat × List (Nat × Nat) :=
  let n := leAt p 6 1
  let l := (List.range n).map (fun i => (leAt p (8 + 2 * i) 1, leAt p (9 + 2 * i) 1))
  let own := d.f CL_CFG_CELL_ID
  let isOwn := fun (e : Nat × Nat) => decide (e.1 = 0xFF) || decide (e.1 = own)
  ((l.filter isOwn).map (·.2), l.filter (fun e => !isOwn e))

/-- Status of `cell.start_together` committed for frame `e`, and the earliest S where it is RANGE (R124, R125). -/
def startCheck (d : Dev) (e : Nat) (p : List Byte) : Nat × Nat :=
  let s := leAt p 0 6
  let n := leAt p 6 1
  let names := startNames d p
  let first := earliestStart d e (!names.2.isEmpty)
  if n < 1 ∨ 16 < n ∨ !zeroAt p 7 1 ∨ p.length ≠ 8 + 2 * n then (0x22, first)
  else if names.1.any (fun g => !known d g) || names.2.any (fun m => !(d.f CL_CFG_MEMBERS).testBit m.1 || decide (12 ≤ m.2)) then (0x22, first)
  else if s < first then (0x22, first)
  else if names.1.all (startReady d) then (1, 0) else (0x21, 0)

end Sys2Proof.Machine
end

