-- ==== Sys2Proof/Machine/TrackOps.lean ====
section
/-!
DEFINITION. Conveyors, products, claims and trigger bindings (R141 to R148, R473).
-/
namespace Sys2Proof.Machine

open Fld

def Dev.vcfg (d : Dev) (j : Nat) : ConvCfg := (d.convCfg j).getD {}

/-- The conveyor's local channel holds VALID; a cell-link master delivers. -/
def convValid (d : Dev) (j : Nat) : Bool :=
  let c := d.vcfg j
  if c.srcKind = 0 then d.b (FB_STAT_VALID c.srcIdx) else (tget {} d.masters (8 + c.srcIdx)).valid

/-- Count and speed (counts per second) of the source (R141, R121). -/
def convSource (d : Dev) (j : Nat) : Rat × Rat :=
  let c := d.vcfg j
  if c.srcKind = 0 then
    let s := (d.fb c.srcIdx).sample
    (s.count, if d.sMinor = 0 then 0 else (s.speed : Rat) / 4096 / d.sMinor)
  else
    let m := tget {} d.masters (8 + c.srcIdx)
    (m.pos + m.vel * 2 * d.sMajor, m.vel)

/-- Step 1: c and v (R141). -/
def convMove (d : Dev) (j : Nat) : Dev :=
  let c := d.vcfg j
  let v := d.cv j
  let s := convSource d j
  let k : Rat := c.scaleNum / c.scaleDen
  d.setCv j { v with count := truncR s.1, cPrev := v.c, c := k * (s.1 - v.zero), v := k * s.2 }

/-- Groups whose entry in progress names conveyor `j`: a Cartesian entry in its frame or, where asked, a WAIT (R142, R473). -/
def groupsOn (d : Dev) (j : Nat) (waits : Bool) : List Nat :=
  (List.range 12).filter (fun g =>
    let x := d.group g
    (decide (x.st = .moving) || decide (x.st = .homing)) && (match x.cur with
      | some e => (e.cartesian && decide (e.frame = j + 1)) || (waits && decide (e.ty = 8) && decide (leAt e.raw 16 1 = 4) && decide (leAt e.raw 17 1 = j))
      | none => false))

/-- A fault with ramp reaction that names no axis (R142, R473): its axis parameter is a free value (log entry 3). -/
def convFault (d : Dev) (l : List Nat) : Dev :=
  forEach l (fun y g => let f := y.free; groupFault f.2 g (f.1 % 2 ^ 32) 0) d

/-- CONV_OVERSPEED (R142). -/
def convSpeed (d : Dev) (j : Nat) : Dev :=
  let v := d.cv j
  let c := d.vcfg j
  let excess := decide (c.vmax * 1000 < v.v)
  let d := d.setCv j { v with overspeed := excess }
  let d := if excess && !v.overspeed then d.raise 0x3050 j j (truncR (v.v / 1000)) (truncR c.vmax) else d
  if excess then convFault d (groupsOn d j false) else d

/-- Step 2: one latch event of the sensor, at `count` (R143). -/
def convLatch (d : Dev) (j : Nat) (count : Int) : Dev :=
  let v := d.cv j
  let c := d.vcfg j
  let cl : Rat := (c.scaleNum : Rat) * (count - v.zero : Int) / c.scaleDen
  let u := c.sensorPos - roundAway cl
  match v.queue.getLast? with
  | some p =>
    let dist := p.u - u
    if dist < c.minPitch then d.raise 0x3052 j j (sfield 32 count) (dist / 1000)
    else if 256 ≤ v.queue.length then d.raise 0x3051 j j (sfield 32 count) 0
    else d.setCv j { v with queue := v.queue ++ [{ id := v.nextId, u := u, entry := d.esc.maj }], nextId := v.nextId + 1 }
  | none => d.setCv j { v with queue := [{ id := v.nextId, u := u, entry := d.esc.maj }], nextId := v.nextId + 1 }

/-- Latch events of the sensor in the batch, in capture order. -/
def convLatches (d : Dev) (j : Nat) : Dev :=
  let c := d.vcfg j
  forEach d.rmt.now.inputs (fun y s => match s.input with
    | .latch src pos _ _ => if src = c.sensor then convLatch y j pos else y
    | _ => y) d

/-- A group loses its product: it stops as under R116, cause 1 (R145). -/
def convStop (d : Dev) (g : Nat) : Dev :=
  let x := d.group g
  (segFlush d g).raise 0x3012 g g x.tag 1

/-- A product leaves the queue; a claim on it ends, and the claiming group stops. -/
def dropProduct (d : Dev) (j : Nat) (p : Product) : Dev :=
  let d := d.setCv j { d.cv j with queue := (d.cv j).queue.filter (fun q => decide (q.id ≠ p.id)) }
  match p.claim with
  | none => d
  | some g => convStop (d.setGroup g { d.group g with claims := tdel (d.group g).claims j }) g

/-- Step 3: products that went back, and unclaimed products at the exit. -/
def convLeave (d : Dev) (j : Nat) : Dev :=
  let c := d.vcfg j
  forEach (d.cv j).queue (fun y p =>
    let x : Rat := p.u + (y.cv j).c
    if x < c.sensorPos - c.minPitch then (dropProduct y j p).raise 0x3053 j j p.id p.flags
    else if p.claim.isNone ∧ (c.exitPos : Rat) ≤ x then
      let y := dropProduct y j p
      if c.convRec then y.raise 0x3054 j j p.id p.flags else y
    else y) d

/-- Step 4: verdicts. -/
def convVerdict (d : Dev) (j : Nat) : Dev :=
  let c := d.vcfg j
  let v := d.cv j
  if 32 ≤ c.verdictSrc then d
  else
    let bad := d.rmt.snap.getLsbD c.verdictSrc == c.verdictLevel
    d.setCv j { v with queue := v.queue.map (fun p =>
      if (p.u : Rat) + v.cPrev < c.verdictPos ∧ (c.verdictPos : Rat) ≤ p.u + v.c ∧ p.flags / 2 % 2 = 0 then
        { p with flags := p.flags ||| (if bad then 6 else 2) } else p) }

/-- Step 5: conveyor WAITs open and claim the head, in ascending group number (R145). -/
def convClaim (d : Dev) (j : Nat) : Dev :=
  forEach (List.range 12) (fun y g =>
    let x := y.group g
    match x.st, x.cur with
    | .moving, some e =>
      if e.ty = 8 ∧ leAt e.raw 16 1 = 4 ∧ leAt e.raw 17 1 = j ∧ !x.gateOpen then
        match (y.cv j).queue.find? (fun p => p.claim.isNone) with
        | some p =>
          if (sleAt e.raw 18 6 : Rat) ≤ p.u + (y.cv j).c then
            let old := tget 0 x.claims j
            let q := (y.cv j).queue.map (fun r =>
              if r.id = p.id then { r with claim := some g, flags := r.flags ||| 1 }
              else if old ≠ 0 ∧ r.id = old then { r with claim := none, flags := r.flags - r.flags % 2 } else r)
            (y.setCv j { y.cv j with queue := q }).setGroup g { x with gateOpen := true, claims := tset 0 x.claims j p.id }
          else y
        | none => y
      else y
    | _, _ => y) d

/-! ### Trigger bindings (R147, R148) -/

def Dev.tr (d : Dev) (i : Nat) : Trig := tget {} d.trig i
def Dev.setTr (d : Dev) (i : Nat) (t : Trig) : Dev := { d with trig := tset {} d.trig i t }

/-- Set flag bits of a product. -/
def markProduct (d : Dev) (j id bits : Nat) : Dev :=
  d.setCv j { d.cv j with queue := (d.cv j).queue.map (fun p => if p.id = id then { p with flags := p.flags ||| bits } else p) }

/-- MARK_MISSED or REJECT_MISSED. -/
def missed (d : Dev) (t : TrigCfg) (id : Nat) : Dev := d.raise (if t.kind = 0 then 0x3055 else 0x3056) t.conv t.conv id t.unit

/-- Does the binding serve a product? -/
def serves (t : TrigCfg) (p : Product) (c : Rat) (done : List Nat) : Bool :=
  !done.contains p.id && decide ((p.u : Rat) + c < t.trigPos)
    && (decide (t.kind = 0) || (p.flags.testBit 1 && (p.flags.testBit 2 || (decide (t.kind = 2) && p.flags.testBit 4))))

/-- A result of the unit seen in the previous frame. -/
def bindResult (d : Dev) (i : Nat) (t : TrigCfg) : Dev :=
  let s := d.tr i
  match (d.cmp t.unit).carry, s.serving with
  | some (r, _, _), some id =>
    let d := markProduct d t.conv id (if r = 2 then (if t.kind = 0 then 8 else 32) else (if t.kind = 0 then 16 else 64))
    let d := if r = 2 then d else missed d t id
    d.setTr i { s with serving := none, frozen := false, done := id :: s.done }
  | _, _ => d

/-- Step 6 of one binding. -/
def trigStep (d : Dev) (i : Nat) (t : TrigCfg) : Dev :=
  let c := d.vcfg t.conv
  let d := bindResult d i t
  let v := d.cv t.conv
  let s := d.tr i
  let gone := match s.serving with | some sid => !v.queue.any (fun (p : Product) => decide (p.id = sid)) | none => false
  let d := if gone then (cmpStageTarget d t.unit 0 false).setTr i { s with serving := none, frozen := false } else d
  let s := d.tr i
  let pick := match s.serving with
    | some sid => v.queue.find? (fun (p : Product) => decide (p.id = sid))
    | none => v.queue.find? (fun p => serves t p v.c s.done)
  match pick with
  | none => d
  | some p =>
    let d := d.setTr i { s with serving := some p.id, frozen := s.frozen && s.serving.isSome }
    if v.v ≤ 0 then (cmpStageTarget d t.unit 0 false).setTr i { d.tr i with frozen := false }
    else if (d.tr i).frozen then d
    else
      let xf := (t.trigPos : Rat) - v.v * t.lead / 1000000000
      let target := v.zero + roundAway ((xf - p.u) * c.scaleDen / c.scaleNum)
      let d := cmpStageTarget d t.unit target true
      let frozen := decide ((target - v.count : Int) * (c.scaleNum : Rat) / c.scaleDen < v.v * 2 * d.sMajor)
      d.setTr i { d.tr i with frozen := frozen }

/-- Bindings of conveyor `j`. -/
def trigsOf (d : Dev) (j : Nat) : List (TrigCfg × Nat) :=
  match d.img.run with | some im => im.trigs.zipIdx.filter (fun e => decide (e.1.conv = j)) | none => []

/-- The work of Table 6-7 for a conveyor in a major frame; nothing moves while its channel is invalid (R473). -/
def convWork (d : Dev) (j : Nat) : Dev :=
  if (d.convCfg j).isNone then d
  else if !convValid d j then convFault d (groupsOn d j true)
  else
    let d := convClaim (convVerdict (convLeave (convLatches (convSpeed (convMove d j) j) j) j) j) j
    forEach (trigsOf d j) (fun y e => trigStep y e.2 e.1) d

/-- The channel of a conveyor has lost VALID: the queue empties, products still to serve are missed, claims end (R473). -/
def convInvalid (d : Dev) (j : Nat) : Dev :=
  let c := d.vcfg j
  if (d.convCfg j).isNone ∨ c.srcKind ≠ 0 ∨ !(d.fb c.srcIdx).newInvalid then d
  else
    let v := d.cv j
    let d := forEach (trigsOf d j) (fun y e =>
      let s := y.tr e.2
      let y := forEach (v.queue.filter (fun p => decide (s.serving = some p.id) || serves e.1 p v.c s.done)) (fun z p => missed z e.1 p.id) y
      y.setTr e.2 { s with serving := none, frozen := false }) d
    forEach v.queue (fun y p => dropProduct y j p) d

/-- Felade writes REVALID of a channel bound to no axis at the first major boundary at which no group moves or homes with an
entry that names a conveyor on it (R473). -/
def convRevalid (d : Dev) (k : Nat) : Dev :=
  let bound := d.axisList.any (fun n => decide ((d.acfg n).kind ≠ .virtual) && (decide ((d.acfg n).fbMotor = k) || decide ((d.acfg n).fbLoad = k)))
  let convs := (List.range 4).filter (fun j => (d.convCfg j).isSome && decide ((d.vcfg j).srcKind = 0) && decide ((d.vcfg j).srcIdx = k))
  if d.f (FB_CFG_MODE k) = 0 ∨ d.b (FB_STAT_VALID k) ∨ bound ∨ (d.fb k).newInvalid then d
  else if convs.all (fun j => (groupsOn d j true).isEmpty) then fbRevalid d k else d

/-- Conveyors and channels at a major boundary. -/
def convBoundary (d : Dev) : Dev :=
  let d := forEach (List.range 4) convInvalid d
  let d := forEach (List.range 24) convRevalid d
  forEach (List.range 24) (fun y k => y.setFb k { y.fb k with newInvalid := false }) d

/-- Zero of every conveyor at the start of a time base (R141). -/
def convStart (d : Dev) : Dev :=
  forEach (List.range 4) (fun y j => if (y.convCfg j).isSome then y.setCv j { zero := truncR (convSource y j).1, count := truncR (convSource y j).1 } else y) d

/-- The tiles' work of a major frame, once the samples of its minor frame 0 are in (R144, R160). -/
def tileWork (d : Dev) : Dev :=
  let d := forEach (List.range 4) convWork d
  let d := forEach d.groupList groupWork d
  let free := d.axisList.filter (fun n => (d.acfg n).group.isNone)
  forEach free (fun y n => if (y.axis n).outer ≤ 2 ∨ (y.axis n).ramping then axGenerate y n else y) d

end Sys2Proof.Machine
end

