-- ==== Sys2Proof/Machine/EscOps.lean ====
section
/-!
DEFINITION. Escapement: frame lengths, boundary sources, SYNC_IN, start and end of a time base, locking and rebinding
(chapter 02).
-/
namespace Sys2Proof.Machine
open Fld

/-! ### Length of a minor frame (R37) -/

/-- No source corrects the boundaries: the correction returns to zero (R38). -/
def freeRuns (d : Dev) : Bool :=
  let s := d.f ESC_SRC_ACTIVE
  decide (s = 3) || (decide (s = 1) && d.b ESC_STATUS_SYNC_LOST)

/-- The length that a boundary asked for `want` cycles after the previous one gets: within 2 % of the configured length and
16 ns (12 whole cycles) of the length before; free-running, between that length and the configured one. -/
def frameLength (base prev want : Nat) (free : Bool) : Nat :=
  let p := if prev = 0 then base else prev
  let lo := max (base - base / 50) (p - 12)
  let hi := min (base + base / 50) (p + 12)
  let lo := if free then max lo (min base p) else lo
  let hi := if free then min hi (max base p) else hi
  max lo (min hi want)

/-- A minor boundary near CLK_TIME cycle `at_`: it falls where R37 lets it fall (log entry 42). -/
def placeBoundary (d : Dev) (at_ : Nat) : Dev :=
  let base := d.tMinor
  let len := frameLength base d.esc.prevLen (at_ - d.esc.t0) (freeRuns d)
  let corr : Int := (len : Int) - base
  let d := { d with esc := { d.esc with t0 := d.esc.t0 + len, prevLen := len } }
  (d.setS ESC_STATUS_CORR corr).setB ESC_STATUS_SLEWING (decide (corr ≠ 0))

/-! ### Sources (R36) -/

/-- Is a source valid now (Table 2-2)? 0 cell link, as a member; 1 SYNC_IN; 2 network time, locked or in holdover. -/
def sourceValid (d : Dev) (s : Nat) : Bool :=
  match s with
  | 0 => decide (d.clState = 3) && !d.b CL_STATUS_ISOLATED
  | 1 => d.esc.syncValid
  | 2 => decide (2 ≤ d.timeState)
  | _ => true

/-- The source R36 selects. -/
def bestSource (d : Dev) : Nat :=
  let ok := fun s => (d.f ESC_SRC_ALLOW).testBit s && sourceValid d s && decide (tget 0 d.esc.bar s = 0)
  if ok 0 then 0 else if ok 1 then 1 else if ok 2 then 2 else 3

/-- Select the source; each change raises SOURCE_CHANGE (R36). -/
def selectSource (d : Dev) : Dev :=
  let old := d.f ESC_SRC_ACTIVE
  let s := bestSource d
  if s = old then d
  else ((d.setF ESC_SRC_ACTIVE s).setB ESC_FLAGS_SRC_CHANGE true).raise 0x1012 0xFFFF old s 0

/-- A major boundary counts the frames for which a source that was invalid has been valid, 64 in a row (R36). -/
def countSources (d : Dev) : Dev :=
  let f := fun (d : Dev) s =>
    let k := if sourceValid d s then tget 0 d.esc.bar s - 1 else 64
    { d with esc := { d.esc with bar := tset 0 d.esc.bar s k } }
  forEach [0, 1, 2] f d

/-! ### SYNC_IN (R38) -/

/-- The expected boundary nearest to `at_`: its instant and minor frame number. With SYNC_PER 1 only major boundaries are
expected. -/
def expectedEdge (d : Dev) (at_ : Nat) : Nat × Nat :=
  let m := max 1 d.M
  let step := if d.b ESC_SRC_SYNC_PER then m * d.tMinor else d.tMinor
  let a := if d.b ESC_SRC_SYNC_PER then d.esc.majAt else d.esc.t0
  let n := if d.b ESC_SRC_SYNC_PER then d.esc.maj * m else d.minorNo
  if 2 * at_ ≤ 2 * a + step then (a, n) else (a + step, n + (if d.b ESC_SRC_SYNC_PER then m else 1))

/-- SYNC_IN is watched: allowed, and a time base runs (R439). -/
def syncWatched (d : Dev) : Bool := d.running && (d.f ESC_SRC_ALLOW).testBit 1

/-- The edge expected at minor frame `n` is unusable, with error `err`. -/
def syncLose (d : Dev) (n : Nat) (err : Int) : Dev :=
  let d := { d with esc := { d.esc with syncJudged := n + 1, syncLost := d.esc.syncLost + 1 } }
  ((d.setB ESC_STATUS_SYNC_LOST true).setB ESC_FLAGS_SYNC_LOST true).raiseNext 0x1010 0xFFFF err (n % max 1 d.M) 0

/-- An active edge at `at_`: inside the window its error is recorded and tracked, outside it is not used. -/
def syncEdge (d : Dev) (at_ : Nat) : Dev :=
  if !syncWatched d then d
  else
    let e := expectedEdge d at_
    let err : Int := (at_ : Int) - e.1
    if 4 * err.natAbs ≤ d.tMinor then
      let lost := d.b ESC_STATUS_SYNC_LOST
      let k := d.esc.syncLost
      let d := d.setS ESC_SYNC_ERR_ERR err
      let d := { d with esc := { d.esc with syncJudged := e.2 + 1, syncSeen := true, syncMiss := 0, syncValid := true, syncLost := 0 } }
      if lost then (d.setB ESC_STATUS_SYNC_LOST false).raiseNext 0x1011 0xFFFF err k 0 else d
    else if d.esc.syncJudged = e.2 + 1 then d
    else syncLose d e.2 err

/-- The window of the edge expected near `at_` has passed without one: no edge, so no error is measured (log entry 3). -/
def syncAbsent (d : Dev) (at_ : Nat) : Dev :=
  let e := expectedEdge d at_
  if !syncWatched d || decide (d.esc.syncJudged = e.2 + 1) then d
  else
    let r := d.free
    syncLose r.2 e.2 (ufield 32 (r.1 % 2 ^ 32))

/-- LOSS_LIMIT major frames without a usable edge: SYNC_IN becomes invalid and the next source is selected. -/
def syncInvalid (d : Dev) : Dev :=
  if d.esc.syncValid && decide (d.f ESC_SRC_LOSS_LIMIT ≤ d.esc.syncMiss) then
    selectSource { d with esc := { d.esc with syncValid := false, bar := tset 0 d.esc.bar 1 64 } }
  else d

/-- Usable edges counted at a major boundary. -/
def syncMajor (d : Dev) : Dev :=
  if !syncWatched d then d
  else
    let d := { d with esc := { d.esc with syncMiss := if d.esc.syncSeen then 0 else d.esc.syncMiss + 1, syncSeen := false } }
    syncInvalid d

/-! ### Network-time grid (R34, R39) -/

/-- Length of a major frame in ns. -/
def majorNs (d : Dev) : Rat := (d.tMajor : Rat) * 5 / 4

/-- Major frame number of the network-time grid nearest to cycle `at_`. -/
def gridNumber (d : Dev) (at_ : Nat) : Nat :=
  if d.tMajor = 0 then 0 else (d.netTime at_ / majorNs d + 1/2).floor.toNat % 2 ^ 48

/-- A step moved the grid: ALIGNED clears while the number differs from the grid's. -/
def checkAligned (d : Dev) : Dev :=
  if d.b ESC_STATUS_ALIGNED && decide (gridNumber d d.esc.majAt ≠ d.esc.maj) then
    (d.setB ESC_STATUS_ALIGNED false).setB ESC_FLAGS_NET_UNALIGNED true
  else d

/-! ### Time base (R33 to R35) -/

/-- ESC_MAJ_LO follows the frame number. -/
def majRegs (d : Dev) : Dev := d.setF ESC_MAJ_LO_MAJ_LO (d.esc.maj % 2 ^ 32)

/-- The first frame number of a time base and its origin (R34): the master's, the network grid's, or 0. -/
def originOf (d : Dev) (at_ : Nat) : Nat × Nat :=
  match (if d.clState = 2 ∨ d.clState = 3 then d.cl.joinMaj else none) with
  | some n => (n, 2)
  | none => if (d.f ESC_SRC_ALLOW).testBit 2 && decide (d.timeState = 2) then (gridNumber d at_, 1) else (0, 0)

/-- May the time base start (R33, Table 15-4)? The image is locked in, and a device of a cell has joined it or forms it. -/
def mayStart (d : Dev) : Bool :=
  d.esc.starting && !d.running && (decide (d.clState = 0) || decide (2 ≤ d.clState))

/-- Escapement at the first boundary of a time base (R33, R34, R35): `n` is the frame number. -/
def Esc.start (e : Esc) (n at_ : Nat) : Esc :=
  { e with maj := n, t0 := at_, majAt := at_, prevLen := 0, fresh := true, syncSeen := false, syncMiss := 0, syncJudged := 0,
           syncLost := 0, syncValid := false, bar := tset 0 [] 1 64, tbCount := e.tbCount + 1, starting := false }

/-- The time base starts at the boundary `at_` (R33, R34, R35); the caller has checked that it may. -/
def timebaseStart (d : Dev) (at_ : Nat) : Dev :=
  let o := originOf d at_
  let hash := match d.img.run with | some i => leAt i.hash 0 4 | none => 0
  let d := { d with esc := d.esc.start o.1 at_ }
  let d := ((majRegs d).setF ESC_MINOR_INDEX 0).setB ESC_STATUS_RUNNING true
  let d := (d.setB ESC_STATUS_ALIGNED (decide (o.2 = 1))).setB ESC_STATUS_SYNC_LOST false
  let d := (d.setF ESC_STATUS_CORR 0).setB ESC_STATUS_SLEWING false
  let d := writeNow d 0x1000 0xFFFF o.2 hash d.esc.tbCount
  selectSource (convStart (dlStart d))

/-- Tiles that execute no slot programs from here on show it (R207). -/
def tilesStopped (d : Dev) (p : Nat → Bool) : Dev :=
  forEach ((List.range 16).filter p) (fun d n => (d.setB (TILE_STATUS_RUN n) false).setB (TILE_STATUS_CTX n) false) d

/-- The time base ends (R35): its records are written, the locks open, markers and TICKs stop. -/
def timebaseEnd (d : Dev) : Dev :=
  if !d.running then { d.setB ESC_CFG_LOCK false with esc := { d.esc with starting := false } }
  else
    let d := flushRecords d d.esc.maj
    let d := flushRecords d (d.esc.maj + 1)
    let d := { d with esc := { d.esc with maj := 0, starting := false, staged := [], bar := [], syncValid := false } }
    let d := ((majRegs d).setF ESC_MINOR_INDEX 0).setB ESC_STATUS_RUNNING false
    let d := ((d.setB ESC_STATUS_ALIGNED false).setB ESC_CFG_LOCK false).setB ESC_CFG_REBIND false
    let d := ((d.setF ESC_STATUS_CORR 0).setB ESC_STATUS_SLEWING false).setB ESC_STATUS_SYNC_LOST false
    tilesStopped (dlStop (d.setF ESC_SRC_ACTIVE 3)) (fun _ => true)

/-! ### LOCK and REBIND (R60) -/

/-- A write of 1 to ESC_CFG.LOCK: the RWL fields of every block lock, and the time base starts at the next boundary. -/
def escLock (d : Dev) : Dev :=
  if d.b ESC_CFG_LOCK then d
  else { d.setB ESC_CFG_LOCK true with esc := { d.esc with starting := !d.running } }

/-- A write of 1 to ESC_CFG.REBIND opens the RWL fields of the other blocks to staged writes. -/
def escRebind (d : Dev) : Dev := if d.b ESC_CFG_LOCK && d.running then d.setB ESC_CFG_REBIND true else d

/-- At the boundary every staged field moves to live in one cycle, REBIND clears and the fields lock again. -/
def stagedLive (d : Dev) : Dev :=
  let d := forEach d.esc.staged.reverse (fun d (e : Nat × Word × Word) =>
    d.setReg e.1 ((d.reg e.1 &&& ~~~e.2.1) ||| (e.2.2 &&& e.2.1))) d
  { d.setB ESC_CFG_REBIND false with esc := { d.esc with staged := [] } }

/-! ### Overrun (R43) -/

/-- An engine missed its deadline: nothing of it is published, and fatal handling starts. Engine 0 to 15 tiles, 16 Lynx,
17 planner, 18 sealing; kinds of Table 2-3. -/
def frameOverrun (d : Dev) (engine kind at_ : Nat) : Dev :=
  if !d.running then d
  else
    let n := if kind = 0 then d.minorNo else if kind = 2 then d.planNo else d.esc.maj
    let d := if engine = 16 then { d with lynx := { d.lynx with next := none } } else d
    let d := (d.setB ESC_FLAGS_OVERRUN true).raise 0x1001 0xFFFF engine kind (n % 2 ^ 32)
    fatalStop d 1 engine at_

end Sys2Proof.Machine
end

