-- ==== Sys2Proof/Machine/RegAccess.lean ====
section
/-!
DEFINITION. Register accesses by Felade and by the host through BAR0, BAR2 and BAR4: access codes field by field, ownership,
locking, narrow and wide accesses (R8, R9, R60, R101, R282, R471, R472).
-/
namespace Sys2Proof.Machine
open Fld

/-! ### Reads -/

/-- The 48-bit value behind a _LO register that copies its _HI when read (ESC_MAJ_LO, R282), none for any other. -/
def pairValue (d : Dev) (a : Nat) : Option Int :=
  let ch := (a - 0x300000) / 64
  if a = 0x100010 then some d.esc.maj
  else if 0x300000 ≤ a ∧ a < 0x300600 then
    match a % 64 with
    | 0x10 => some (d.fb ch).pos
    | 0x18 => some (d.fb ch).sample.count
    | 0x28 => some (d.fb ch).idx
    | 0x30 => some (d.fb ch).raw
    | _ => none
  else if 0x300800 ≤ a ∧ a < 0x300B00 ∧ a % 32 = 4 then some (tget 0 d.io.latPos ((a - 0x300800) / 32))
  else if 0x301800 ≤ a ∧ a < 0x301A00 ∧ a % 32 = 0x14 then some (d.pair ((a - 0x301800) / 32)).pos
  else if 0x400000 ≤ a ∧ a < 0x400300 ∧ a % 64 = 0x10 then some (d.stp ((a - 0x400000) / 64)).m
  else none

/-- Element words of a CAN receive FIFO's head and of its high-priority buffers (R379, R380). -/
def canWindow (d : Dev) (a : Nat) : Option Word :=
  let n := (a - 0x800000) / 0x8000
  let o := a % 0x8000
  if a < 0x800000 ∨ 0x810000 ≤ a then none
  else if 0x100 ≤ o ∧ o < 0x154 then
    some (match (d.can n).fifo with | e :: _ => elemWord e ((o - 0x100) / 4) | [] => 0)
  else if 0x200 ≤ o ∧ o < 0x400 ∧ (o - 0x200) % 0x80 < 84 then
    some (elemWord (tget {} (d.can n).hp ((o - 0x200) / 0x80)) ((o - 0x200) % 0x80 / 4))
  else none

/-- Mask of the fields of a register with one of some access codes. -/
def accMask (a : Nat) (p : Access → Bool) : Word :=
  match regDesc a with
  | none => 0
  | some r => (r.fields.filter (fun f => p f.acc)).foldl (fun m f => m ||| Fld.mask ⟨a, f.hi, f.lo⟩) 0

/-- A read of RC fields clears them; `ev`: bits that an event of the same cycle sets again (Table 0-4). -/
def readClear (d : Dev) (a : Nat) (ev : Word) : Dev :=
  let m := accMask a (fun c => decide (c = .rc))
  if m = 0 then d else d.setReg a ((d.reg a &&& ~~~m) ||| (ev &&& m))

/-- One read of a whole register: its value, and the device after the read's side effects. -/
def regRead (d : Dev) (a : Nat) (ev : Word) (at_ : Nat) : Nat × Dev :=
  match pairValue d a with
  | some v =>
    let u := sfield 48 v
    (u % 2 ^ 32, d.setReg (a + 4) (BitVec.ofNat 32 (u / 2 ^ 32)))
  | none =>
    match canWindow d a with
    | some w => (w.toNat, d)
    | none =>
      if a = 0x700008 then let d := timeNowRead d at_; ((d.reg a).toNat, d)
      else if 0x701000 ≤ a ∧ a < 0x702000 ∧ a = (ETH_TXTS_ID_ID ((a - 0x701000) / 0x400)).addr then
        txtsRead d ((a - 0x701000) / 0x400)
      else
        let v := (d.reg a &&& ~~~accMask a (fun c => decide (c = .wo))).toNat
        (v, readClear d a ev)

/-- Key of a register of a bus: BAR0 offsets lie behind 0x1000_0000; nothing else overlaps. -/
def busKey (bus : Bus) (a : Nat) : Option Nat :=
  match bus with
  | .bar0 => if a < 0x10000 then some (0x10000000 + a) else none
  | .bar2 | .felade => if a < 0x2000000 then some a else none
  | .bar4 => none

/-- A read of `size` bytes at `a` (R472): 1 or 2 bytes of the containing register, one register, or two in ascending order.
The value read is kept in `rd`. -/
def busRead (d : Dev) (bus : Bus) (a size : Nat) (ev : Word) (at_ : Nat) : Dev :=
  let one := fun (d : Dev) (x : Nat) =>
    if bus = .bar4 then bar4Read d x
    else match busKey bus x with
      | some k => regRead d k ev at_
      | none => (0, d)
  if size = 8 then
    let r := one d a
    let q := one r.2 (a + 4)
    { q.2 with rd := r.1 + 2 ^ 32 * q.1 }
  else
    let r := one d (a / 4 * 4)
    { r.2 with rd := r.1 / 2 ^ (8 * (a % 4)) % 2 ^ (8 * min size 4) }

/-! ### Writes -/

/-- May `bus` write into the block of `a` (R9, R101)? -/
def busMay (d : Dev) (bus : Bus) (a : Nat) : Bool :=
  match bus with
  | .bar4 => false
  | .bar0 => decide (0x10000000 ≤ a)
  | _ =>
    let host := decide (bus = .bar2)
    if 0x800000 ≤ a ∧ a < 0x810000 then canMay d ((a - 0x800000) / 0x8000) bus
    else if 0x701000 ≤ a ∧ a < 0x701800 then host == (d.f OWN_DELEG_ETH).testBit ((a - 0x701000) / 0x400)
    else !host

/-- The fields of a register act as their access codes say (R8): RW set, W1C cleared by 1, RWL set while unlocked or staged
while REBIND is open (R60). -/
def regPut (d : Dev) (a : Nat) (v : Word) : Dev :=
  let rw := accMask a (fun c => decide (c = .rw))
  let wc := accMask a (fun c => decide (c = .w1c))
  let wl := accMask a (fun c => decide (c = .rwl))
  let locked := d.b ESC_CFG_LOCK
  let set := if locked then rw else rw ||| wl
  let d := d.setReg a (((d.reg a &&& ~~~set) ||| (v &&& set)) &&& ~~~(v &&& wc))
  if locked && d.b ESC_CFG_REBIND && decide (wl ≠ 0) && decide (a / 0x100000 ≠ 1) then
    { d with esc := { d.esc with staged := (a, wl, v) :: d.esc.staged } }
  else d

/-- The bits of `v` that make up the byte lanes of a field, as a number. -/
def fieldOf (x : Fld) (v : Word) : Nat := v.toNat / 2 ^ x.lo % 2 ^ (x.hi - x.lo + 1)
def bitOf (x : Fld) (v : Word) : Bool := v.getLsbD x.lo

/-- The motion pads are latched (R445), and released with the field groups whose safe bits match (R449). -/
def padLatch (d : Dev) : Dev := (d.setB PAD_HOLD_LATCH true).setB PAD_HOLD_HELD true

def padRelease (d : Dev) : Dev :=
  let d := if d.b PAD_HOLD_HELD then
      (((d.setB PAD_HOLD_LATCH false).setB PAD_HOLD_HELD false).raise 0x9021 0xFFFF 1 0 0) else d
  forEach ((List.range 4).filter (fun g => (d.f PAD_HOLD_FIELD_HELD).testBit g)) (fun d g =>
    let held := d.field.level.toNat / 2 ^ (8 * g) % 256
    if d.f (FO_GRP_CFG_SAFE g) = held then foUpdate (fieldUnlatch d g) else d.raise 0x9021 0xFFFF 2 (g + 1) 0) d

/-- A write to a field output group's registers (R402, R403, R407). -/
def foWrite (d : Dev) (bus : Bus) (a : Nat) (v : Word) (at_ : Nat) : Dev :=
  let g := (a - 0x900040) / 16
  let may := foMay d g bus
  if a = FO_CMD_CMD.addr then
    let mask := word32 (fun k => foMay d (k / 8) bus)
    foSet d mask v
  else if a = FO_FAULT_FAULT.addr then foFaultClear d (v &&& word32 (fun k => foMay d (k / 8) bus))
  else if 0x900040 ≤ a ∧ a < 0x900080 ∧ a % 16 = 0 then
    let en := bitOf (FO_GRP_CFG_EN g) v
    let d := if bus = .felade then regPut d a ((v &&& ~~~(1 : Word)) ||| (d.reg a &&& 1)) else d
    if !may then d else if en then d.setB (FO_GRP_CFG_EN g) true else foDisable d g
  else if 0x900040 ≤ a ∧ a < 0x900080 ∧ a % 16 = 4 then
    if !may then d
    else
      let d := if bitOf (FO_GRP_WD_BADKEY g) v then d.setB (FO_GRP_WD_BADKEY g) false else d
      let d := if bitOf (FO_GRP_WD_REARM g) v then foRearm d g at_ else d
      foFeed d g (fieldOf (FO_GRP_WD_FEED g) v) at_
  else if bus = .felade then regPut d a v else d

/-- A write to a CAN controller's registers (R379 to R384, R394). -/
def canRegWrite (d : Dev) (a : Nat) (v : Word) : Dev :=
  let n := (a - 0x800000) / 0x8000
  let o := a % 0x8000
  let open_ := d.b (CAN_CTRL_INIT_ACK n)
  if o = 0 then
    let d := if open_ then regPut d a ((v &&& ~~~(CAN_CTRL_INIT n).mask) ||| (d.reg a &&& (CAN_CTRL_INIT n).mask)) else d
    if bitOf (CAN_CTRL_INIT n) v then (if d.b (CAN_CTRL_INIT n) then d else canInit d n)
    else if d.b (CAN_CTRL_INIT n) then canLeaveInit d n else d
  else if o = 0x40 then (if v.getLsbD 8 then canPop d n else d)
  else if o = 0x44 then canHpFree d n v.toNat
  else if o = 0x48 then canRequest d n v.toNat
  else if o = 0x4C then canCancel d n v.toNat
  else if 0x1000 ≤ o ∧ o < 0x2000 then canTxWrite d n ((o - 0x1000) / 0x80) (o % 0x80 / 4) v
  else if (o = 4 ∨ o = 8 ∨ 0x4000 ≤ o) ∧ !open_ then d
  else regPut d a v

/-- A write to the PWM block (R244, R250, R252). -/
def pwmRegWrite (d : Dev) (a : Nat) (v : Word) (at_ : Nat) : Dev :=
  if a < 0x200400 then
    let g := (a - 0x200000) / 64
    let o := a % 64
    if o = 8 then (if v.getLsbD 0 then pwmCommit d g at_ else d)
    else if o = 12 then regPut d a v
    else pwmSetDiff ((regPut d a v).setB (PWM_GRP_UPD_PENDING g) false) g
  else if 0x200800 ≤ a ∧ a < 0x200A00 ∧ a % 32 = 12 then
    let g := (a - 0x200800) / 32
    let d := regPut d a ((v &&& ~~~(1 : Word)) ||| (d.reg a &&& 1))
    let d := pwmRun d g (v.getLsbD 0)
    if v.getLsbD 3 then pwmTripClr d g else d
  else regPut d a v

/-- A write to the feedback, compare and step registers (R262, R274, R279). -/
def fbRegWrite (d : Dev) (a : Nat) (v : Word) (at_ : Nat) : Dev :=
  if 0x300600 ≤ a ∧ a < 0x300660 then
    let n := (a - 0x300600) / 4
    let d := regPut d a v
    if v.getLsbD 8 then fbRevalid d n else d
  else if 0x301000 ≤ a ∧ a < 0x301400 ∧ a = (CMP_TGT_HI_TGT_HI ((a - 0x301000) / 32)).addr then
    let u := (a - 0x301000) / 32
    cmpStage d u (fieldOf (CMP_TGT_HI_TGT_HI u) v) (bitOf (CMP_TGT_HI_ARM u) v)
  else if 0x301800 ≤ a ∧ a < 0x301A00 then
    let n := (a - 0x301800) / 32
    if a % 32 = 0x10 then (if v.getLsbD 0 then stepCommit d n at_ else d)
    else if a % 32 = 4 ∨ a % 32 = 8 ∨ a % 32 = 12 then (regPut d a v).setB (STEP_UPD_PENDING n) false
    else regPut d a v
  else regPut d a v

/-- One 32-bit write (R9): what each field's access code, its owner and its chapter let it do. The doorbell and response-head
registers of a session act by rows of their own. -/
def regWrite (d : Dev) (bus : Bus) (a : Nat) (v : Word) (at_ : Nat) : Dev :=
  match regDesc a with
  | none => d
  | some _ =>
    if 0x900000 ≤ a ∧ a < 0xA00000 then foWrite d bus a v at_
    else if !busMay d bus a then d
    else if 0x800000 ≤ a ∧ a < 0x810000 then canIrq d (canRegWrite d a v) ((a - 0x800000) / 0x8000)
    else match a / 0x100000 with
      | 1 =>
        let d := regPut d a v
        if a = 0x100000 then
          let d := if v.getLsbD 31 then escLock d else d
          if v.getLsbD 29 then escRebind d else d
        else d
      | 2 => pwmRegWrite d a v at_
      | 3 => fbRegWrite d a v at_
      | 11 =>
        if a = PAD_HOLD_LATCH.addr then
          let d := if v.getLsbD 0 then padLatch d else d
          if v.getLsbD 1 then padRelease d else d
        else regPut d a v
      | 256 => if a % 64 = 0x10 ∨ a % 64 = 0x1C then d else regPut d a v
      | _ => regPut d a v

/-- A write of `size` bytes (R472): narrower than a register or not aligned to one it has no effect; 8 bytes act as two. -/
def busWrite (d : Dev) (bus : Bus) (a size : Nat) (v : BitVec 64) (at_ : Nat) : Dev :=
  let one := fun (d : Dev) (x : Nat) (w : Word) =>
    match busKey bus x with | some k => regWrite d bus k w at_ | none => d
  if a % 4 ≠ 0 then d
  else if size = 4 then one d a (v.setWidth 32)
  else if size = 8 then one (one d a (v.setWidth 32)) (a + 4) ((v >>> 32).setWidth 32)
  else d

end Sys2Proof.Machine
end

