-- ==== Sys2Proof/Machine/LoadChecks.lean ====
section
/-!
DEFINITION. The parameters and references of an image that the loader checks at steps 7 and 8, and the drive-link conditions of
step 9 (R25, R100, R147, R162, R178, R204, R214, R243, R259, R275, R283 to R306, R376, R398, R401). The reading of a section's
bytes is open (log entry 8); what it gives is checked here against every range the spec states.
-/
namespace Sys2Proof.Machine
open Fld

/-- A register as the image sets it, its reset value where it does not. -/
def Image.reg (im : Image) (a : Nat) : Word := match im.regs.find? (fun e => decide (e.2.1 = a)) with | some e => e.2.2 | none => regReset a

def Image.f (im : Image) (x : Fld) : Nat := (im.reg x.addr).toNat / 2 ^ x.lo % 2 ^ (x.hi - x.lo + 1)

/-- A value that fails a check: section type, number of the parameter in `Config.paramId`, instance. -/
abbrev Finding := Nat × Nat × Nat

/-- The first of a list of conditions that does not hold, as a finding in a section. -/
def firstBad (type inst : Nat) (l : List (Nat × Bool)) : Option Finding :=
  (l.find? (fun e => !e.2)).map (fun e => (type, e.1, inst))

/-- Axis contexts, groups and stepper channels of an image. -/
def Image.axesOf (im : Image) : List (Nat × AxisCfg) := im.axes.filterMap (fun e => e.2.map (fun c => (e.1, c)))
def Image.groupsOf (im : Image) : List (Nat × GroupCfg) := im.groups.filterMap (fun e => e.2.map (fun c => (e.1, c)))
def Image.steppersOf (im : Image) : List (Nat × StepperCfg) := im.steppers.filterMap (fun e => e.2.map (fun c => (e.1, c)))

/-! ### Step 7: capacity (R25, Table 1-7) -/

/-- Row of Table 1-7 that an image exceeds, 0 none: what its tables can hold. -/
def capacityRow (im : Image) : Nat :=
  let gs := im.groupsOf
  let ls := im.laws.filterMap (·.2)
  let share := fun (t : Nat) =>
    let mine := ls.filter (fun l => decide (l.tile = t))
    decide ((mine.map (fun l => (l.bindings.map (·.dataLen)).sum)).sum ≤ 4096) && decide ((mine.map (fun l => l.code.length)).sum ≤ 2048)
  if im.axesOf.any (fun e => decide (96 ≤ e.1)) then 1
  else if gs.any (fun e => decide (12 < e.2.axes.length) || decide (12 < e.2.joints.length)) then 2
  else if gs.any (fun e => decide (12 ≤ e.1)) then 3
  else if gs.any (fun e => decide (13 < e.2.capsules.length)) then 4
  else if gs.any (fun e => decide (8192 < e.2.segCap)) then 5
  else if im.cams.any (fun e => e.2.isSome && (decide (16 ≤ e.1) || (match e.2 with | some c => decide (1024 < c.points.length) | none => false))) then 6
  else if im.convs.any (fun e => e.2.isSome && decide (4 ≤ e.1)) then 7
  else if gs.any (fun e => decide (64 < e.2.lookahead)) then 8
  else if 32 < (im.axesOf.filter (fun e => e.2.predCap)).length then 9
  else if ls.any (fun l => decide (16 ≤ l.tile)) then 12
  else if !(List.range 16).all share then 14
  else if im.steppersOf.any (fun e => decide (12 ≤ e.1)) then 18
  else if im.mods.any (fun e => e.2.present && (decide (64 ≤ e.1) || decide (12 ≤ e.1 % 16))) then 19
  else if im.sessions.any (fun e => decide (32 ≤ e.1)) then 22
  else 0

/-! ### Step 7: ranges -/

/-- Table 2-1, R32, R48, R59: the frames section (R32 as the loader checks it: log entry 8). -/
def framesFinding (im : Image) : Option Finding :=
  let per := im.f ESC_CFG_MINOR_PER
  let m := match im.f ESC_CFG_MAJ_DIV with | 1 => 2 | 2 => 4 | 3 => 8 | _ => 0
  let cut := im.f RMT_CFG_CUTOFF_US
  firstBad 1 0 [(0, decide (16000 ≤ per ∧ per ≤ 64000)), (1, decide (m ≠ 0)), (2, decide (2 ≤ im.f ESC_CFG_SAFE_DIV ∧ im.f ESC_CFG_SAFE_DIV ≤ 8)),
    (3, decide (4 ≤ im.f ESC_CFG_PLAN_DIV ∧ im.f ESC_CFG_PLAN_DIV ≤ 16)), (4, decide (10 ≤ cut ∧ cut ≤ 60 ∧ 2 * 800 * cut ≤ per * m)),
    (5, decide (1 ≤ im.f ESC_SRC_LOSS_LIMIT)), (6, !(im.f ESC_SRC_ALLOW).testBit 2 || decide (800000000 % (per * m) = 0))]

/-- Table 7-3: one axis context. -/
def axisFinding (n : Nat) (c : AxisCfg) : Option Finding :=
  let feedback := fun (k : Nat) => decide (k < 24) || decide (k = 0x40)
  let servo := decide (c.kind = .remote) || decide (c.kind = .local_)
  let ti := fun (t lo hi : Rat) => decide (t = 0) || decide (lo ≤ t ∧ t ≤ hi)
  firstBad 0xF n [(10, decide (0 ≤ c.kp ∧ c.kp ≤ 20000)), (11, decide (0 ≤ c.kvff ∧ c.kvff ≤ 3/2)), (12, decide (0 ≤ c.ktff ∧ c.ktff ≤ 3/2)),
    (13, !servo || decide (0 < c.vcmdMax)), (14, decide (0 ≤ c.kv)), (15, ti c.tiV (25/100000) 10), (16, decide (0 ≤ c.affInertia)),
    (17, !servo || decide (0 < c.tMax)), (18, !servo || decide (0 < c.kt)), (19, !servo || decide (0 < c.elecScale)),
    (20, decide (c.phases = 2 ∨ c.phases = 3)), (21, !servo || feedback c.fbMotor), (22, decide (c.fbLoad = 0xFF) || (feedback c.fbLoad && decide (c.fbLoad ≠ c.fbMotor))),
    (23, decide (0 < c.gearRatio)), (24, decide (c.cntNum ≠ 0 ∧ 1 ≤ c.cntDen)), (25, decide (c.lcntNum ≠ 0 ∧ 1 ≤ c.lcntDen)),
    (26, !servo || decide (0 < c.rS ∧ 0 < c.lD ∧ 0 < c.lQ ∧ 0 ≤ c.psi)), (27, decide (0 ≤ c.kpI)), (28, ti c.tiI (2/100000) 1),
    (29, !servo || decide (-c.iMax ≤ c.idRef ∧ c.idRef ≤ c.iMax)), (30, !servo || decide (c.iMax < c.iTrip)), (31, decide (1/2 ≤ c.modMax ∧ c.modMax ≤ 1)),
    (32, decide (0 ≤ c.feLimit ∧ 0 ≤ c.feWarn)), (33, decide (c.feTime ≤ 1000)), (34, decide (0 ≤ c.velTrip)), (35, decide (2 ≤ c.ageLimit ∧ c.ageLimit ≤ 7)),
    (36, decide (0 ≤ c.dualDev)), (37, c.group.isSome || decide (0 < c.axVmax ∧ 0 < c.axAcc ∧ 0 < c.axJerk)),
    (38, c.group.isSome || decide (c.axAcc ≤ c.axQacc ∧ c.axJerk ≤ c.axQjerk))]

/-- Table 5-3, R107, R112, R118, Table 6-1 and R133: one group and its joints. -/
def groupFinding (g : Nat) (c : GroupCfg) : Option Finding :=
  firstBad 0xF g [(40, decide (1 ≤ c.segCap)), (41, decide (c.startMode ≤ 1)), (42, c.joints.all (fun j => decide (1/10000 ≤ j.vband))),
    (43, c.joints.zipIdx.all (fun e => decide (e.1.kind ≤ 2) && (decide (e.1.kind ≠ 2) || decide (e.2 = 0)))),
    (44, c.joints.all (fun j => decide (j.posMin ≤ j.posMax)))]

/-- Table 12-3, R288, R291, R293: one stepper channel. -/
def stepperFinding (im : Image) (k : Nat) (c : StepperCfg) : Option Finding :=
  let pair := decide (im.f (STP_CFG_OUT k) = 1)
  let compat := decide (im.f (STP_CFG_COMPAT k) = 1)
  let sd := fun (i : Nat) => decide (i < 16) && decide (im.f (SD_CFG_GROUP i) = im.f (STP_CFG_BIND k))
  firstBad 0xF k [(50, decide (im.f (STP_CFG_RES_MAX k) = 0) || (decide (k < 4) && !pair)),
    (51, !compat || decide (im.f (STP_COMPAT_V_QUIET k) < im.f (STP_COMPAT_V_STRONG k))),
    (52, !compat || (!pair && sd c.sdA && sd c.sdB && decide (c.sdA ≠ c.sdB))),
    (53, decide (c.num ≠ 0 ∧ 1 ≤ c.den)), (54, decide (0 ≤ c.amp ∧ c.amp ≤ 60000 ∧ 0 ≤ c.ampHold ∧ c.ampHold ≤ c.amp)), (55, decide (1 ≤ c.holdFrames ∧ c.holdFrames ≤ 65535)),
    (56, decide (0 ≤ c.kff)), (57, !compat || decide (0 < c.iPeak)), (58, decide (c.drvRes ≤ 256) && (List.range 9).any (fun e => decide (c.drvRes = 2 ^ e))),
    (59, match c.drvEn with | some o => decide (o < 32) | none => true)]

/-- R243: a bridge group. R259: a feedback channel. R275: a compare unit. -/
def bridgeFinding (im : Image) (g : Nat) : Option Finding :=
  firstBad 6 g [(60, decide (im.f (PWM_GCTL_BOOT_PER g) = 0) || decide (im.f (PWM_GSHAPE_MINP g) ≤ im.f (PWM_GSHAPE_BOOT_LEN g))),
    (61, decide (im.f (PWM_GSHAPE_MINP g) ≤ 1600))]
def channelFinding (im : Image) (n : Nat) : Option Finding :=
  firstBad 6 n [(62, decide (im.f (FB_CFG_MODE n) ≤ 4) && (decide (im.f (FB_CFG_MODE n) ≠ 4) || decide (16 ≤ n)))]
def unitFinding (im : Image) (k : Nat) : Option Finding :=
  let c := im.f (CMP_CFG_CHAN k)
  let turn := im.f (FB_MOD_LO_MOD_LO c) + 2 ^ 32 * im.f (FB_MOD_HI_MOD_HI c)
  firstBad 6 k [(63, decide (im.f (CMP_CFG_MODE k) ≠ 2) || (decide (2 ≤ turn) && decide (im.f (CMP_CFG_DIR k) ≤ 1)))]

/-- Table 16-1: bit timing of a controller that Felade owns; the registers hold each value less 1 (Table 16-1, CANn_NBT). -/
def canFinding (im : Image) (n : Nat) : Option Finding :=
  if !im.canOn.testBit n || (im.f OWN_DELEG_CAN).testBit n then none
  else
    let quanta := fun (brp t1 t2 : Nat) => (brp + 1) * (3 + t1 + t2)
    firstBad 0xC n [(70, decide (1 ≤ im.f (CAN_NBT_NTSEG1 n))), (71, decide (1 ≤ im.f (CAN_NBT_NTSEG2 n))),
      (72, decide (80 ≤ quanta (im.f (CAN_NBT_NBRP n)) (im.f (CAN_NBT_NTSEG1 n)) (im.f (CAN_NBT_NTSEG2 n)))),
      (73, decide (10 ≤ quanta (im.f (CAN_DBT_DBRP n)) (im.f (CAN_DBT_DTSEG1 n)) (im.f (CAN_DBT_DTSEG2 n))))]

/-- R402: the watchdog time of an output group that Felade owns. -/
def watchdogFinding (im : Image) (g : Nat) : Option Finding :=
  firstBad 0xD g [(74, decide (im.f (FO_GRP_CFG_EN g) = 0) || (im.f OWN_DELEG_FOUT).testBit g || decide (1 ≤ im.f (FO_GRP_CFG_WD_T g)))]

/-- R202: a custom law's numbers. -/
def lawFinding (k : Nat) (l : CustomLaw) : Option Finding :=
  firstBad 9 k [(75, decide (k < 64)), (76, decide (1 ≤ l.declared ∧ l.declared ≤ 1048575)), (77, decide (l.bindings.length ≤ 4)),
    (78, l.bindings.all (fun x => decide (x.port < 128) && decide (x.init.length ≤ x.dataLen)))]

/-- Custom laws of an image. -/
def Image.lawsOf (im : Image) : List (Nat × CustomLaw) := im.laws.filterMap (fun e => e.2.map (fun l => (e.1, l)))

/-- Tables 6-5 and 6-6: a conveyor frame's source, sensor and verdict input; R147: a trigger binding's numbers. -/
def conveyorFinding (j : Nat) (c : ConvCfg) : Option Finding :=
  firstBad 8 j [(64, decide (c.srcKind = 0 ∧ c.srcIdx < 24) || decide (c.srcKind = 1 ∧ c.srcIdx < 8)),
    (65, decide (c.sensor < 24) || decide (c.sensor = 0xFF)), (66, decide (c.verdictSrc < 32) || decide (c.verdictSrc = 0xFF))]
def triggerFinding (t : TrigCfg) : Option Finding :=
  firstBad 8 t.unit [(67, decide (t.conv < 4)), (68, decide (t.kind ≤ 2)), (69, decide (t.lead ≤ 10000000)), (79, decide (t.mode ≤ 1))]

/-- Conveyor frames of an image. -/
def Image.convsOf (im : Image) : List (Nat × ConvCfg) := im.convs.filterMap (fun e => e.2.map (fun c => (e.1, c)))

/-- Step 7: the first finding of the ranges, in the order of the section types. -/
def rangeFinding (im : Image) : Option Finding :=
  [framesFinding im, (List.range 16).findSome? (bridgeFinding im), (List.range 24).findSome? (channelFinding im),
    (List.range 32).findSome? (unitFinding im), im.convsOf.findSome? (fun e => conveyorFinding e.1 e.2), im.trigs.findSome? triggerFinding,
    im.lawsOf.findSome? (fun e => lawFinding e.1 e.2), (List.range 2).findSome? (canFinding im), (List.range 4).findSome? (watchdogFinding im),
    im.axesOf.findSome? (fun e => axisFinding e.1 e.2), im.groupsOf.findSome? (fun e => groupFinding e.1 e.2),
    im.steppersOf.findSome? (fun e => stepperFinding im e.1 e.2)].findSome? id

/-! ### Step 8: bindings and references -/

/-- A field output that Felade can drive: its group is described by the image and not delegated (R178, R295, R401). -/
def outputUsable (im : Image) (o : Nat) : Bool :=
  decide (o < 32) && decide (im.f (FO_GRP_CFG_EN (o / 8)) = 1) && !(im.f OWN_DELEG_FOUT).testBit (o / 8)

/-- R178, R306: brake and module bindings of an axis context; its STO group where the active safety set assigns one. -/
def axisBinding (im : Image) (n : Nat) (c : AxisCfg) : Option Finding :=
  let fb := decide (c.fbMotor < 24)
  firstBad 3 n [(80, decide (c.brake = 0xFF) || (decide (c.brake = 0x40) && decide (c.kind = .remote)) || outputUsable im c.brake),
    (81, decide (c.kind ≠ .stepper) || (match c.home with
      | .none | .switch | .setHere => true
      | .index | .switchIndex | .stopFerr => fb
      | .absSet => fb && decide (im.f (FB_CFG_MODE c.fbMotor) = 4)
      | .stopCurrent => false)),
    (82, match c.group with | some g => (match tget none im.groups g with | some x => x.axes.contains n | none => false) | none => true)]

/-- R135: the payload selection of a group. -/
def groupBinding (im : Image) (g : Nat) (c : GroupCfg) : Option Finding :=
  let ok := fun (o : Option Nat) => match o with | some k => outputUsable im k | none => true
  firstBad 4 g [(83, ok c.paySel0), (84, ok c.paySel1)]

/-- R283, R295: the output of a stepper channel and its driver enable. -/
def stepperBinding (im : Image) (k : Nat) (c : StepperCfg) : Option Finding :=
  let pair := im.f (STP_CFG_OUT k)
  let bind_ := im.f (STP_CFG_BIND k)
  let twice := im.steppersOf.any (fun e => decide (e.1 ≠ k) && decide (im.f (STP_CFG_OUT e.1) = pair) && decide (im.f (STP_CFG_BIND e.1) = bind_))
    || (decide (pair = 0) && im.axesOf.any (fun e => decide (e.2.kind = .local_) && decide (e.2.bridge = bind_)))
  firstBad 7 k [(85, decide (pair = 1) || decide (im.f (PWM_GCFG_COUNT bind_) = 4)), (86, !twice),
    (87, match c.drvEn with | some o => outputUsable im o | none => true)]

/-- R147: a trigger binding's conveyor has a local source, and the image gives the compare unit that it owns no MODE, DIR or CHAN other
than the binding's (log entry 102). -/
def triggerBinding (im : Image) (t : TrigCfg) : Option Finding :=
  let c := ((tget none im.convs t.conv)).getD { srcKind := 1 }
  let as := fun (f : Fld) (v : Nat) => decide (im.f f = 0) || decide (im.f f = v)
  firstBad 8 t.unit [(88, decide (c.srcKind = 0) && as (CMP_CFG_MODE t.unit) t.mode && as (CMP_CFG_DIR t.unit) 0 && as (CMP_CFG_CHAN t.unit) c.srcIdx)]

/-- R398: a latch source on a field input needs that input's latch path. -/
def latchBinding (im : Image) (k : Nat) : Option Finding :=
  firstBad 6 (16 + k) [(89, decide (im.f (LAT_CFG_EN (16 + k)) = 0) || (im.f FI_CFG_LATCH_EN).testBit k)]

/-- Do two windows, start and length, share a word? -/
def meet (a b : Nat × Nat) : Bool := decide (a.1 < b.1 + b.2) && decide (b.1 < a.1 + a.2)

/-- R202: program and data windows lie in the custom regions and those of one tile do not overlap; each binding serves an axis context. -/
def lawBinding (im : Image) (k : Nat) (l : CustomLaw) : Option Finding :=
  let mine := im.lawsOf.filter (fun e => decide (e.2.tile = l.tile))
  let prog := (l.progBase, l.code.length)
  let data := fun (w : CustomLaw) => w.bindings.zipIdx.map (fun e => (e.2, (e.1.dataBase, e.1.dataLen)))
  firstBad 9 k [(91, decide (0x1800 ≤ l.progBase ∧ l.progBase + l.code.length ≤ 0x2000)),
    (92, l.bindings.all (fun x => decide (0x6000 ≤ x.dataBase ∧ x.dataBase + x.dataLen ≤ 0x7000))),
    (93, mine.all (fun e => decide (e.1 = k) || !meet prog (e.2.progBase, e.2.code.length))),
    (94, mine.all (fun e => (data e.2).all (fun y => (data l).all (fun x => (decide (e.1 = k) && decide (x.1 = y.1)) || !meet x.2 y.2)))),
    (95, l.bindings.all (fun x => (tget none im.axes x.axis).isSome))]

/-- Step 8: the first finding of the bindings, in the order of the section types. -/
def bindingFinding (im : Image) : Option Finding :=
  [im.axesOf.findSome? (fun e => axisBinding im e.1 e.2), im.groupsOf.findSome? (fun e => groupBinding im e.1 e.2),
    (List.range 8).findSome? (latchBinding im), im.steppersOf.findSome? (fun e => stepperBinding im e.1 e.2),
    im.trigs.findSome? (triggerBinding im), im.lawsOf.findSome? (fun e => lawBinding im e.1 e.2)].findSome? id

/-- The STO groups of an image agree with the active safety set: else the finding (R306). -/
def mappingFinding (flash : List Byte) (im : Image) : Option Finding :=
  if flash.isEmpty then none else (mappingDetail im (parseSet flash)).map (fun _ => (3, 90, 0))

/-! ### Step 9: the drive link (R214, R24) -/

/-- Slots that the image assigns on port `p`, and N′ of R214. -/
def portSlots (im : Image) (p : Nat) : List Nat := (List.range 12).filterMap (fun k =>
  let m := tget {} im.mods (p * 16 + k)
  if m.present then some m.slot else none)
def portN' (im : Image) (p : Nat) : Nat := (portSlots im p).foldl (fun n s => max n (s + 1)) (im.f (DL_CFG_NMOD p))

/-- Conditions 1 to 5 of R214 and the first part of condition 6; times in 0.25 ns. -/
def portOk (im : Image) (p : Nat) : Bool :=
  let cyc := fun (n : Nat) => 5 * n
  let per := cyc (im.f ESC_CFG_MINOR_PER)
  let sample := cyc (im.f (DL_SAMPLE_SAMPLE_OFS p))
  let up := cyc (im.f (DL_TIMING_UP_OFS p))
  let cmd := cyc (im.f (DL_TIMING_CMD_OFS p))
  let ring := cyc (im.f (DL_CFG_RING_MAX p))
  let prep := 16 * im.f (DL_CFG_T_PREP_MAX p)
  let n' := portN' im p
  decide (sample + 5 ≤ per) && (portSlots im p).all (fun s => decide (sample + 16 + ring + prep ≤ up + 1024 * s)) && decide (up + 1024 * n' ≤ cmd)
    && decide (cmd ≤ sample + 16000) && decide (cmd + 16 * (13 + 40 * im.f (DL_CFG_NMOD p)) + ring + 2000 ≤ per) && decide (up + 1024 * n' + 6000 ≤ cmd)

/-- Worst-case tile cycles of an event chain: its slot programs and 5 cycles of switch latency. -/
def chainCycles (im : Image) (l : List TSlot) : Nat :=
  5 + (l.map (fun s => match s.law with
    | some k => (match tget none im.laws k with | some w => w.declared | none => 0)
    | none => s.cycles)).sum

/-- End of uplink slot `s` of port `p`, in 0.25 ns from the minor boundary. -/
def uplinkEnd (im : Image) (p s : Nat) : Nat := 5 * im.f (DL_TIMING_UP_OFS p) + 1024 * (s + 1)

/-- The bound of R24 on one tile: its uplink chains, run one after another in the order of their triggers, end within 1,500 ns of the
end of the latest assigned uplink slot. -/
def chainsOk (im : Image) (tile : Nat) : Bool :=
  let ports := (List.range 4).filter (fun p => decide (im.f (DL_CFG_EN p) = 1))
  let last := (ports.flatMap (fun p => (portSlots im p).map (uplinkEnd im p))).foldl max 0
  let chains := (tget [] im.events tile).filterMap (fun e => match e.2 with
    | some x => (match x.trig with | .uplinkEnd p s => some (uplinkEnd im p s, chainCycles im x.chain) | _ => none)
    | none => none)
  let done := (sortBy (fun a b => decide (a.1 < b.1)) chains).foldl (fun t c => max t c.1 + 4 * c.2) 0
  decide (done ≤ last + 6000) || chains.isEmpty

/-- Step 9: engine and frame kind of the first failure of R214; a port that fails names no engine, which leaves the detail open. -/
def linkFinding (im : Image) : Option (Option Nat) :=
  if (List.range 4).any (fun p => decide (im.f (DL_CFG_EN p) = 1) && !portOk im p) then some none
  else ((List.range 16).find? (fun t => !chainsOk im t)).map some

end Sys2Proof.Machine
end

