-- ==== Sys2Proof/Machine/ImageOps.lean ====
section
/-!
DEFINITION. Configuration images: layout, keys, the load-time checks of Table 4-4, the staging buffer and the flash slots
(chapter 04).
-/
namespace Sys2Proof.Machine
open Fld

/-! ### Layout (R91, R92) -/

/-- An entry of the section table with its index (Table 4-2). -/
structure SecEntry where
  index : Nat := 0
  type : Nat := 0
  offset : Nat := 0
  length : Nat := 0
  crc : Nat := 0
deriving DecidableEq, Repr, Inhabited

def imgTotal (l : List Byte) : Nat := leAt l 8 4
def imgSerial (l : List Byte) : Nat := leAt l 12 4
def imgKeySlot (l : List Byte) : Nat := leAt l 28 1
def imgPub (l : List Byte) : List Byte := (l.drop 32).take 64

/-- The image hash (R91). -/
def imgHash (l : List Byte) : List Byte := sha256 (l.take (l.length - 64))

/-- The section table. -/
def imgTable (l : List Byte) : List SecEntry :=
  (List.range (leAt l 22 2)).map (fun i =>
    let o := 128 + 16 * i
    { index := i, type := leAt l o 2, offset := leAt l (o + 4) 4, length := leAt l (o + 8) 4, crc := leAt l (o + 12) 4 })

def SecEntry.bytes (l : List Byte) (e : SecEntry) : List Byte := (l.drop e.offset).take e.length

/-- Sections of a type, in the order of the table. -/
def imgSection (l : List Byte) (ty : Nat) : List (List Byte) := ((imgTable l).filter (fun e => decide (e.type = ty))).map (SecEntry.bytes l)

/-- The image as the loader reads it: header fields by Table 4-1, the rest by its sections. -/
def loadImage (l : List Byte) : Image :=
  { Config.decodeImage l with
    serial := imgSerial l, lineDev := leAt l 24 3 % 2 ^ 18, autostart := (leAt l 27 1).testBit 0, replay := (leAt l 27 1).testBit 1,
    keySlot := imgKeySlot l, hash := imgHash l }

/-- A failed check: step, status, section type, detail (R96, Table 4-9). -/
structure ImgFail where
  step : Nat := 0
  status : Nat := 0
  type : Nat := 0
  detail : Nat := 0
deriving DecidableEq, Repr, Inhabited

/-! ### Steps 1 to 6 -/

/-- Steps 1 to 3: header. -/
def checkHeader (l : List Byte) : Option ImgFail :=
  let fail := fun (step st detail : Nat) => some { step := step, status := st, detail := detail : ImgFail }
  if leAt l 0 4 ≠ 0x4746434B then fail 1 0x22 1
  else if leAt l 6 2 ≠ 128 then fail 1 0x22 2
  else if imgTotal l ≠ l.length then fail 1 0x22 3
  else if 16 * 2 ^ 20 < imgTotal l then fail 1 0x22 4
  else if leAt l 16 2 ≠ 0x9608 then fail 2 0x23 1
  else if 0xB1 < leAt l 18 1 then fail 2 0x23 2
  else if leAt l 4 2 / 256 ≠ 1 ∨ 3 < leAt l 4 2 % 256 then fail 3 0x30 1
  else if Config.dictVersion < leAt l 20 2 then fail 3 0x30 2
  else none

/-- Directives of the image's key section that provision `slot` with `digest` (R94). -/
def provisions (l : List Byte) (slot : Nat) (digest : List Byte) : Bool :=
  (loadImage l).keyDirs.any (fun e => decide (e.1 = slot) && decide (e.2 = some digest))

/-- Step 4: cause of a key failure, 0 none (R93, R94). While every slot is EMPTY the image must bring its own key. -/
def keyCause (d : Dev) (l : List Byte) : Nat :=
  let k := imgKeySlot l
  let digest := sha256 (imgPub l)
  if 4 ≤ k then 1
  else if d.f KEY_SLOTS_STATE = 0 then
    (if provisions l k digest then 0
     else if (loadImage l).keyDirs.any (fun e => decide (e.1 = k) && e.2.isSome) then 3 else 1)
  else if d.keyState k = 0 then 1
  else if d.keyState k ≠ 1 then 2
  else if tget [] d.img.keys k ≠ digest then 3
  else 0

/-- Section types the loader knows, and those required (Table 4-3). -/
def typeAllowed (ty : Nat) : Bool := decide (1 ≤ ty ∧ ty ≤ 0x10) || decide (0x8000 ≤ ty)
def typeRequired : List Nat := [1, 2, 3, 0xA, 0xF]

/-- Step 6: cause of the first failure of an entry, 0 none; header, table, signature and the sections before it may not be
overlapped. -/
def entryCause (l : List Byte) (before : List SecEntry) (e : SecEntry) : Nat :=
  let tableEnd := 128 + 16 * leAt l 22 2
  if e.offset % 16 ≠ 0 ∨ l.length < e.offset + e.length ∨ 64 ≤ e.index then 1
  else if e.offset < tableEnd ∨ l.length - 64 < e.offset + e.length
      ∨ before.any (fun b => decide (e.offset < b.offset + b.length) && decide (b.offset < e.offset + e.length)) then 2
  else if crc32c (e.bytes l) ≠ e.crc then 3
  else if typeRequired.contains e.type ∧ before.any (fun b => decide (b.type = e.type)) then 4
  else if !typeAllowed e.type then 5
  else 0

/-- Step 6 over the table, then the required sections. -/
def checkEntries (l : List Byte) (before : List SecEntry) : List SecEntry → Option ImgFail
  | [] =>
    match typeRequired.find? (fun t => !before.any (fun e => decide (e.type = t))) with
    | some t => some { step := 6, status := 0x22, type := t, detail := 0xFF + 256 * 4 }
    | none => none
  | e :: r =>
    let c := entryCause l before e
    if c = 0 then checkEntries l (before ++ [e]) r
    else some { step := 6, status := if c = 3 then 0x32 else 0x22, type := e.type, detail := e.index % 256 + 256 * c }

/-- Steps 1 to 6, which the selection from flash needs as well. -/
def checkFront (d : Dev) (l : List Byte) : Option ImgFail :=
  match checkHeader l with
  | some f => some f
  | none =>
    let c := keyCause d l
    if c ≠ 0 then some { step := 4, status := 0x31, detail := imgKeySlot l + 256 * c }
    else if !ecdsaVerify (imgPub l) (imgHash l) (l.drop (l.length - 64)) then some { step := 5, status := 0x31, detail := 0 }
    else checkEntries l [] (imgTable l)

/-! ### Step 7: capacity and ranges -/

/-- A finding as the report of its step (Table 4-9). -/
def Finding.report (step : Nat) (f : Finding) : ImgFail := { step := step, status := 0x22, type := f.1, detail := Config.paramId f.2.1 f.2.2 }

/-- Step 7: capacity (R25), then every range the spec states, then what the sections' own contents leave to find. -/
def checkRanges (im : Image) : Option ImgFail :=
  if capacityRow im ≠ 0 then some { step := 7, status := 0x22, type := 0, detail := 0xFF000000 + capacityRow im }
  else match rangeFinding im with
    | some f => some (Finding.report 7 f)
    | none => im.step7.map (fun e => { step := 7, status := 0x22, type := e.1, detail := e.2 })

/-! ### Step 8: references and delegation (R100) -/

/-- A configured latch source lies on an input of field group `g`: sources 16 to 23 are field inputs 0 to 7 (R271). -/
def groupLatches (im : Image) (g : Nat) : Bool := decide (g = 0) && (List.range 8).any (fun k => decide (im.f (LAT_CFG_EN (16 + k)) = 1))

/-- A port that Felade must own carries the commit log, a session transport or PTP: its number 1 to 4, 0 none. -/
def ownedPort (im : Image) : Nat :=
  let need := fun p => (decide (im.f RMT_LOG_CFG_EN = 1) && decide (im.f RMT_LOG_CFG_PORT = p)) || im.sesPorts.testBit p || im.ptpPorts.testBit p
  match [0, 1].find? (fun p => (im.f OWN_DELEG_ETH).testBit p && need p) with
  | some p => p + 1
  | none => 0

/-- Step 8: delegation, ports, bindings and references, the mapping of axes to STO groups. -/
def checkRefs (d : Dev) (im : Image) : Option ImgFail :=
  let deleg := (im.reg OWN_DELEG_CAN.addr).toNat
  if 2 ^ 12 ≤ deleg ∨ (List.range 4).any (fun g => (im.f OWN_DELEG_FIN).testBit g && groupLatches im g) then
    some { step := 8, status := 0x22, type := 0xE, detail := 0xFF010000 }
  else if ownedPort im ≠ 0 then some { step := 8, status := 0x22, type := 0xE, detail := 0xFF020000 + ownedPort im }
  else match bindingFinding im with
    | some f => some (Finding.report 8 f)
    | none => match mappingFinding d.bad.flash im with
      | some f => some (Finding.report 8 f)
      | none => im.step8.map (fun e => { step := 8, status := 0x22, type := e.1, detail := e.2 })

/-! ### Step 9: schedule admission (R40, R41) -/

/-- Length of a frame in CLK_TIME cycles: minor, major, planning, sealing window. -/
def kindCycles (im : Image) (kind : Nat) : Nat :=
  let per := im.f ESC_CFG_MINOR_PER
  let maj := per * (match im.f ESC_CFG_MAJ_DIV with | 1 => 2 | 2 => 4 | 3 => 8 | _ => 0)
  match kind with
  | 0 => per
  | 1 => maj
  | 2 => maj * im.f ESC_CFG_PLAN_DIV
  | _ => 800 * im.f RMT_CFG_CUTOFF_US

/-- Cycles of an engine per ten CLK_TIME cycles of 1.25 ns: 1 GHz, 1.2 GHz, 1.6 GHz. -/
def engineRate (e : Nat) : Rat := if e < 16 then 25/2 else if e = 16 then 15 else 20

/-- Sum of the worst-case counts of an engine in a frame; custom laws count at their declared counts. -/
def schedSum (im : Image) (e kind : Nat) : Nat :=
  ((im.sched.filter (fun p => decide (p.1 = e) && decide (p.2.1 = kind))).map (fun p =>
    match p.2.2.2 with
    | some k => p.2.2.1 * (match tget none im.laws k with | some l => l.declared | none => 0)
    | none => p.2.2.1)).sum

/-- Engines and the frames they are admitted against (Table 2-3), in the order of their codes. -/
def engines : List (Nat × Nat) := (List.range 16).flatMap (fun e => [(e, 0), (e, 1)]) ++ [(16, 2), (17, 2), (18, 3)]

/-- The first engine and frame whose sum exceeds 85 %, with the share in 0.1 %. -/
def schedFail (im : Image) : Option (Nat × Nat × Nat) :=
  (engines.find? (fun e => decide (engineRate e.1 * kindCycles im e.2 * 85 < (schedSum im e.1 e.2 * 1000 : Nat)))).map (fun e =>
    let c := engineRate e.1 * kindCycles im e.2 / 10
    (e.1, e.2, if c = 0 then 1000 else ((schedSum im e.1 e.2 * 1000 : Nat) / c).floor.toNat))

/-- Step 9: the schedule (R41), then the drive-link ports and the bound of R24 (R214). -/
def checkSched (im : Image) : Option ImgFail :=
  match schedFail im with
  | some e => some { step := 9, status := 0x22, type := 2, detail := e.1 + 256 * e.2.1 }
  | none => (linkFinding im).map (fun e => { step := 9, status := 0x22, type := 5, detail := match e with | some t => t | none => Config.paramId 100 0 })

/-! ### Step 10: custom laws (R204) -/

def isBranch (w : Word) : Bool := decide (0x30 ≤ twOp w ∧ twOp w ≤ 0x34)
def isEnd (w : Word) : Bool := decide (twOp w = 0x37)
def isLoop (w : Word) : Bool := decide (twOp w = 0x35)
/-- Branch target or LOOP end, an address of the program memory. -/
def twTarget (w : Word) : Nat := twLow w % 8192
/-- Instructions that may not stand in a delay slot or at the end of a loop body (rule 3). -/
def isControl (w : Word) : Bool := isBranch w || isEnd w || isLoop w || decide (twOp w = 0x36) || decide (twOp w = 0x07)

/-- The lowest rule of R204 that a law breaks, 0 none. -/
def lawCheck (im : Image) (k : Nat) (l : CustomLaw) : Nat :=
  let n := l.code.length
  let at_ := fun i => l.code.getD i 0
  let idx := List.range n
  let rel := fun (w : Word) => twTarget w - l.progBase
  let inWin := fun (w : Word) => decide (l.progBase ≤ twTarget w) && decide (twTarget w < l.progBase + n)
  let ends := fun i => decide (i < n) && (isBranch (at_ i) || isEnd (at_ i))
  let loops := idx.filter (fun i => isLoop (at_ i))
  let inner := fun i => decide (twDst (at_ i) = 1)
  if n = 0 ∨ !l.code.all tDefined then 1
  else if !l.code.all (fun w => !(isBranch w || isLoop w) || inWin w) || !(ends (n - 1) || (decide (2 ≤ n) && ends (n - 2)) || (decide (3 ≤ n) && ends (n - 3))) then 2
  else if idx.any (fun i => ends i && (isControl (at_ (i + 1)) || isControl (at_ (i + 2))))
      || loops.any (fun i => isControl (at_ (rel (at_ i))) || isControl (at_ (rel (at_ i) - 1))) then 3
  else if loops.any (fun i => decide (rel (at_ i) ≤ i)
      || loops.any (fun j => decide (i < j) && decide (j ≤ rel (at_ i)) && !(!inner i && inner j && decide (rel (at_ j) < rel (at_ i))))) then 4
  else if l.code.any (fun w => (decide (twOp w = 0x29) && decide (twDst w % 2 ≠ l.event.toNat)) || decide (twOp w = 0x27)) then 5
  else if l.code.any (fun w => decide (twOp w = 0x36) && decide (twLow w ≠ 0)) then 6
  else if im.lateLaws.contains k then 7
  else 0

def checkLaws (im : Image) : Option ImgFail :=
  im.laws.findSome? (fun e => match e.2 with
    | some l => let r := lawCheck im e.1 l
                if r = 0 then none else some { step := 10, status := 0x22, type := 9, detail := e.1 + 256 * r }
    | none => none)

/-! ### The checks in order (R96) -/

/-- Steps 7 to 10, which depend on the sections' contents. -/
def checkBack (d : Dev) (im : Image) : Option ImgFail :=
  match checkRanges im with
  | some f => some f
  | none => match checkRefs d im with
    | some f => some f
    | none => match checkSched im with
      | some f => some f
      | none => checkLaws im

/-- Steps 1 to 10. -/
def checkImage (d : Dev) (l : List Byte) : Option ImgFail :=
  match checkFront d l with
  | some f => some f
  | none => checkBack d (loadImage l)

/-- An image is refused: SCHED_REFUSED at step 9, IMAGE_REFUSED always. -/
def imageRefused (d : Dev) (im : Image) (f : ImgFail) : Dev :=
  let d := if f.step = 9 then
      match schedFail im with | some e => d.raiseDev 0x1002 e.1 e.2.1 e.2.2 | none => d
    else d
  d.raiseDev 0x0101 f.step f.type f.detail

/-! ### Change classes (R98, Table 4-7) -/

/-- Entries of a parameters section: identifier and the 16 bytes. -/
def paramEntries (l : List Byte) : List (List Byte) := (List.range (l.length / 16)).map (fun i => (l.drop (16 * i)).take 16)

/-- Identifiers of parameters that two parameters sections do not give alike. -/
def paramDiff (a b : List (List Byte)) : List Nat :=
  let x := a.flatMap paramEntries
  let y := b.flatMap paramEntries
  ((x.filter (fun e => !y.contains e)) ++ (y.filter (fun e => !x.contains e))).map (fun e => leAt e 0 4)

/-- Section types other than notes in which two images differ. -/
def sectionDiff (a b : List Byte) : List Nat := ((List.range 16).map (· + 1)).filter (fun t => decide (imgSection a t ≠ imgSection b t))

/-- Change class of an image against the running one; with none running, the time base starts anew (log entry 40). -/
def changeClass (d : Dev) (l : List Byte) : Nat :=
  match d.img.run with
  | none => 3
  | some r =>
    if imgHash l = r.hash then 0
    else
      let diff := sectionDiff d.img.runBytes l
      if diff.contains 1 then 3
      else if diff.all (fun t => decide (0xA ≤ t ∧ t ≤ 0xF))
          && (paramDiff (imgSection d.img.runBytes 0xF) (imgSection l 0xF)).all Config.liveParam then 1
      else 2

/-- Condition of the class on the present states: 0 holds, 1 a group is not DISABLED, 2 an axis is energised. -/
def classCondition (d : Dev) (cls : Nat) : Nat :=
  if cls < 2 then 0
  else if d.groupList.any (fun g => decide ((d.group g).st ≠ .disabled)) then 1
  else if d.axisList.any (fun n => (d.axis n).live || (d.axis n).outputsOn) then 2
  else 0

/-! ### Staging and flash (R97) -/

def Dev.setImg (d : Dev) (i : Img) : Dev := { d with img := i }

/-- May session `ses` use the staging buffer: it owns it, or the buffer is free. -/
def stagingFree (d : Dev) (ses : Nat) : Bool := match d.img.owner with | none => true | some k => decide (k = ses)

/-- Status of a DATA part (R97). -/
def dataCheck (d : Dev) (ses ofs total : Nat) (data : List Byte) : Nat × Nat :=
  if !stagingFree d ses then (0x21, 3)
  else if data.isEmpty ∨ 212 < data.length ∨ 16 * 2 ^ 20 < total then (0x22, 0)
  else if ofs = 0 then (if data.length ≤ total then (0, 0) else (0x22, 0))
  else if d.img.owner ≠ some ses then (0x21, 3)
  else if ofs ≠ d.img.bytes.length ∨ total ≠ d.img.total ∨ total < ofs + data.length then (0x22, 0)
  else (0, 0)

/-- A DATA part joins the buffer; the one with offset 0 opens it anew. -/
def dataTake (d : Dev) (ses ofs total : Nat) (data : List Byte) : Dev :=
  if ofs = 0 then
    d.setImg { d.img with owner := some ses, total := total, bytes := data, validating := false, validated := false }
  else d.setImg { d.img with bytes := d.img.bytes ++ data, validating := false, validated := false }

/-- The staging buffer is released. -/
def stagingDrop (d : Dev) : Dev :=
  d.setImg { d.img with owner := none, total := 0, bytes := [], validating := false, validated := false }

/-- Status of VALIDATE, ACTIVATE, STORE and ABORT by owner and TOTAL. -/
def stagedCheck (d : Dev) (ses total : Nat) : Nat × Nat :=
  if d.img.owner ≠ some ses then (0x21, 3) else if total ≠ d.img.total then (0x22, 0) else (0, 0)

/-- VALIDATE: the checks start in spare cycles. -/
def validateStart (d : Dev) : Dev := d.setImg { d.img with validating := true, validated := false }

/-- Result of a VALIDATE: steps 1 to 10 on the staged bytes. -/
def validateResult (d : Dev) : Dev :=
  if !d.img.validating then d
  else
    let l := d.img.bytes
    match checkImage d l with
    | some f => imageRefused (d.setImg { d.img with validating := false }) (loadImage l) f
    | none =>
      (d.setImg { d.img with validating := false, validated := true }).raiseDev 0x0100 (imgSerial l) (leAt (imgHash l) 0 4) (changeClass d l)

/-- Does a flash slot hold an image that passes steps 1 to 6? -/
def slotValid (d : Dev) (l : List Byte) : Bool := !l.isEmpty && (checkFront d l).isNone

/-- The flash image that CONFIG-WAIT selects: highest SERIAL among the valid ones, slot 0 where they are equal. -/
def flashPick (d : Dev) : Option (List Byte) :=
  match slotValid d d.img.flash0, slotValid d d.img.flash1 with
  | true, true => some (if imgSerial d.img.flash0 < imgSerial d.img.flash1 then d.img.flash1 else d.img.flash0)
  | true, false => some d.img.flash0
  | false, true => some d.img.flash1
  | false, false => none

/-- Slot that a STORE writes: the one with the lower SERIAL, an invalid one lowest. -/
def storeSlot (d : Dev) : Nat :=
  match slotValid d d.img.flash0, slotValid d d.img.flash1 with
  | false, _ => 0
  | true, false => 1
  | true, true => if imgSerial d.img.flash0 < imgSerial d.img.flash1 then 0 else 1

/-- Status of STORE. -/
def storeCheck (d : Dev) : Nat × Nat :=
  let other := if storeSlot d = 0 then d.img.flash1 else d.img.flash0
  if !d.img.validated then (0x21, 1)
  else if slotValid d other ∧ imgSerial d.img.bytes ≤ imgSerial other then (0x22, 0x10)
  else (1, 0)

def putFlash (d : Dev) (slot : Nat) (l : List Byte) : Dev :=
  d.setImg (if slot = 0 then { d.img with flash0 := l } else { d.img with flash1 := l })

/-- STORE begins: until the write is verified the slot holds no valid image. -/
def storeStart (d : Dev) : Dev :=
  let k := storeSlot d
  let d := putFlash d k []
  d.setImg { d.img with storing := some k, storeBytes := d.img.bytes }

/-- The write has been read back and verified. -/
def imageStored (d : Dev) : Dev :=
  match d.img.storing with
  | none => d
  | some k =>
    let l := d.img.storeBytes
    let d := putFlash (d.emit (.flashWrite k l)) k l
    (d.setImg { d.img with storing := none, storeBytes := [] }).raiseDev 0x0103 (imgSerial l) k 0

/-! ### Keys (R95) -/

/-- One key directive as the loader carries it out. -/
def keyDirective (signer : Nat) (d : Dev) (e : Nat × Option (List Byte)) : Dev :=
  let k := e.1
  if 4 ≤ k then d
  else match e.2 with
    | some digest =>
      if d.keyState k ≠ 0 then d
      else
        let d := d.setF KEY_SLOTS_STATE (d.f KEY_SLOTS_STATE + 4 ^ k)
        (d.setImg { d.img with keys := tset [] d.img.keys k digest }).raiseDev 0x0104 k 1 signer
    | none =>
      if d.keyState k ≠ 1 ∨ k = signer then d
      else (d.setF KEY_SLOTS_STATE (d.f KEY_SLOTS_STATE + 2 * 4 ^ k)).raiseDev 0x0104 k 2 signer

/-- The image is accepted: its directives are carried out before it takes effect. -/
def keyDirectives (d : Dev) (im : Image) : Dev := forEach im.keyDirs (keyDirective im.keySlot) d

end Sys2Proof.Machine
end

