-- ==== Sys2Proof/Machine/SessionOps.lean ====
section
/-!
DEFINITION. Host sessions: requests and responses, transport checks, the three transports, opening and closing (chapter 03).
-/
namespace Sys2Proof.Machine
open Fld

/-! ### Fields of a request (R65, Table 3-2) -/

def Request.ver (r : Request) : Nat := leAt r.raw 0 2
def Request.flags (r : Request) : Nat := leAt r.raw 2 2
def Request.link (r : Request) : Bool := r.flags.testBit 0
def Request.ses (r : Request) : Nat := leAt r.raw 4 1
def Request.len (r : Request) : Nat := leAt r.raw 6 2
def Request.seq (r : Request) : Nat := leAt r.raw 8 4
def Request.cmd (r : Request) : Nat := leAt r.raw 12 2
def Request.policy (r : Request) : Nat := leAt r.raw 14 1
def Request.effect (r : Request) : Nat := leAt r.raw 16 6
def Request.crc (r : Request) : Nat := leAt r.raw 28 4
def Request.pay (r : Request) : List Byte := r.raw.drop 32
def Request.hello (r : Request) : Bool := decide (r.cmd = 0x0101)

/-- A request of version 3.2 with SEQ and EFFECT, its CRC in place. -/
def mkRequest (ses seq cmd effect : Nat) (pay : List Byte) : Request :=
  let h := le 2 0x0302 ++ le 2 0 ++ le 1 ses ++ [0] ++ le 2 pay.length ++ le 4 seq ++ le 2 cmd ++ [0, 0] ++ le 6 effect ++ le 6 0
  { raw := h ++ le 4 (crc32c (h ++ pay)) ++ pay }

/-! ### Device state and assignment of session numbers (R61, R87 to R89) -/

/-- HOST_STATUS.DEV_STATE: 1 BOOT, 2 SELFTEST, 3 SAFE-TALK, 4 CONFIG-WAIT, 5 READY, 6 RUN, 7 FAULT, 8 ARMS-IDLE, 9 STANDBY. -/
def Dev.state (d : Dev) : Nat := d.f HOST_STATUS_DEV_STATE

/-- The numbers Felade reserves for itself: 0 on PCIe and 31 on SPI (R88). -/
def reservedSes : Tab SesCfg := [(0, { transport := 0 }), (31, { transport := 2 })]

/-- Assignment in force: the running image's, in CONFIG-WAIT the newest verified flash image's, in SAFE-TALK the retained one. -/
def sesTable (d : Dev) : Tab SesCfg :=
  let or := fun (t : Tab SesCfg) => if t.any (fun e => decide (e.2.transport < 3)) then t else reservedSes
  if d.state = 3 then or d.pwr.keys
  else if d.state = 4 then or (match flashPick d with | some l => (loadImage l).sessions | none => [])
  else match d.img.run with | some i => i.sessions | none => []

def Dev.sesCfg (d : Dev) (n : Nat) : SesCfg := tget {} (sesTable d) n

/-- Weight of a session; a number assigned to no transport carries weight 0 (R61). -/
def SesCfg.share (c : SesCfg) : Nat := if c.transport < 3 then c.weight else 0

/-- Share g_s of a session (R80). -/
def shareOf (d : Dev) (s : Nat) : Nat :=
  let sum := ((sesTable d).map (fun e => e.2.share)).sum
  if sum = 0 then 0 else 64 * (d.sesCfg s).share / sum

def sesOpen (d : Dev) (s : Nat) : Bool := decide (s < 32) && d.b (SES_STATE_OPEN s)
/-- Negotiated version, 0 while closed. -/
def sesVersion (d : Dev) (s : Nat) : Nat := if s < 32 then d.f (SES_STATE_VERSION s) else 0

/-- Key of an identifier that the assignment holds for a session (R73, R74). -/
def sesKey (d : Dev) (s keyId : Nat) : Option (List Byte) :=
  match (d.sesCfg s).keys.find? (fun e => decide (e.1 = keyId)) with | some e => some e.2 | none => none

/-- Transport as Table 3-11 codes it. -/
def Via.code : Via → Nat
  | .pcie => 0 | .eth _ _ => 1 | .spi => 2

/-! ### Responses (R64, R66) -/

/-- Header and payload of a response; in a 2.x session bytes 16 to 27 are 0. -/
def mkResponse (d : Dev) (flags : Nat) (r : Request) (status detail effect cut : Nat) (pay : List Byte) : List Byte :=
  let v := sesVersion d r.ses
  let h := le 2 (if v = 0 then 0x0200 else v) ++ le 2 flags ++ le 1 r.ses ++ [0] ++ le 2 pay.length ++ le 4 r.seq ++ le 2 r.cmd ++ le 1 status
    ++ [0] ++ (if v / 256 = 2 then le 12 0 else le 6 effect ++ le 2 detail ++ le 4 cut)
  h ++ le 4 (crc32c (h ++ pay)) ++ pay

/-- A stored response sent once more: FLAGS.DUPLICATE set (R69). -/
def asDuplicate (l : List Byte) : List Byte :=
  let h := l.take 2 ++ le 2 (leAt l 2 2 ||| 2) ++ (l.drop 4).take 24
  h ++ le 4 (crc32c (h ++ l.drop 32)) ++ l.drop 32

/-- MAC of a datagram: device nonce, host nonce, header and payload (R73). For `session.hello` the device nonce is 0. -/
def ethTag (d : Dev) (r : Request) (l : List Byte) : List Byte :=
  let x := d.session r.ses
  if r.hello then
    match sesKey d r.ses (leAt r.pay 5 1) with
    | some k => hmac256 k (le 8 0 ++ padTo 8 ((r.pay.drop 8).take 8) ++ l)
    | none => le 32 (Config.keylessTag l)
  else
    match (if sesOpen d r.ses then sesKey d r.ses x.keyId else none) with
    | some k => hmac256 k (padTo 8 x.devNonce ++ padTo 8 x.hostNonce ++ l)
    | none => le 32 (Config.keylessTag l)

/-- SPI_IRQ_N is low while any SPI session has a response waiting (R76). -/
def spiIrq (d : Dev) (was : Bool) : Dev :=
  let now := d.ses.any (fun e => !e.2.spiRsp.isEmpty)
  if now = was then d else d.emit (.pin "SPI_IRQ_N" (!now))

/-- Responses at the head of a session's order that wait for no older one. -/
def readyRsp : List (Nat × Option (List Byte)) → List (List Byte) × List (Nat × Option (List Byte))
  | (_, some b) :: r => let x := readyRsp r; (b :: x.1, x.2)
  | l => ([], l)

/-- A response is written to the next slot of a PCIe ring, or waits in the SPI ring. -/
def putResponse (d : Dev) (s : Nat) (spi : Bool) (l : List Byte) : Dev :=
  if spi then
    let was := d.ses.any (fun e => !e.2.spiRsp.isEmpty)
    spiIrq (d.setSession s { d.session s with spiRsp := (d.session s).spiRsp ++ [l] }) was
  else
    let t := d.f (SES_RSP_TAIL_TAIL s)
    let d := d.emit (.response s .pcie ((d.session s).rspBase + 256 * (t % 64)) (padTo 256 l))
    d.setF (SES_RSP_TAIL_TAIL s) ((t + 1) % 65536)

/-- An answer to the request with token `tok` on ring `s`: PCIe and SPI answers leave in the order of the requests. -/
def reply (d : Dev) (s : Nat) (r : Request) (l : List Byte) : Dev :=
  let x := d.session s
  match r.via with
  | .eth _ a =>
    let d := d.setSession s { x with order := x.order.filter (fun e => decide (e.1 ≠ r.tok)) }
    d.emit (.response s r.via a (l ++ ethTag d r l))
  | via =>
    let q := readyRsp (x.order.map (fun e => if e.1 = r.tok then (e.1, some l) else e))
    let d := d.setSession s { x with order := q.2 }
    let d := forEach q.1 (fun d b => putResponse d s (decide (via = .spi)) b) d
    if q.1.isEmpty || decide (via = .spi) || decide (32 ≤ s) || !d.b (SES_CTRL_IRQ_EN s) then d else d.emit (.msix s)

/-- The answer of a request that passed the transport checks: sent, and kept for duplicates. A held command has been answered
already, a lost action is never answered. -/
def answerReq (d : Dev) (r : Request) (flags status detail effect cut : Nat) (pay : List Byte) : Dev :=
  if r.held || r.lost || r.replay then d
  else
    let l := mkResponse d flags r status detail effect cut (pay.take 224)
    let x := d.session r.ses
    let d := d.setSession r.ses { x with cache := ((r.seq, r.crc, l) :: x.cache.filter (fun e => decide (e.1 ≠ r.seq))).take 64 }
    reply d r.ses r l

/-! ### Opening and closing (R77, Table 3-8) -/

/-- Held commands and incomplete chains of a session are discarded; answers the number of held commands. The members of a chain
are answered STATE, detail 5 (R82, R86). -/
def dropSession (d : Dev) (s : Nat) : Nat × Dev :=
  let mine := fun (h : Held) => h.reqs.any (fun r => decide (r.ses = s))
  let n := ((d.rmt.pending.filter mine).map (fun h => h.reqs.length)).sum
  let d := { d with rmt := { d.rmt with pending := d.rmt.pending.filter (fun h => !mine h) } }
  let d := d.setF RMT_STATUS_PENDING (d.f RMT_STATUS_PENDING - n)
  let w := (d.session s).wait
  let d := d.setSession s { d.session s with wait := [] }
  (n, forEach w (fun d r => answerReq d r 0 0x21 5 0 0 []) d)

/-- The staging buffers a session owns are released when it closes (R97, R324). -/
def dropBuffers (d : Dev) (s : Nat) : Dev :=
  let d := if d.img.owner = some s then stagingDrop d else d
  if d.bad.owner = some s then { d with bad := { d.bad with owner := none, total := 0, bytes := [] } } else d

/-- The session becomes CLOSED; what is said about it is the caller's. -/
def shutSession (d : Dev) (s : Nat) : Nat × Dev :=
  let r := dropSession d s
  let d := dropBuffers r.2 s
  let d := (d.setB (SES_STATE_OPEN s) false).setF (SES_STATE_VERSION s) 0
  (r.1, d.setSession s { d.session s with seq := 0, cache := [], devNonce := [], hostNonce := [] })

/-- Close a session with a reason: 0 close, 1 hello, 2 image, 3 SAFE-TALK. -/
def closeSession (d : Dev) (s reason : Nat) : Dev :=
  if !sesOpen d s then d
  else let r := shutSession d s; r.2.raise 0xA001 s s reason r.1

def closeAll (d : Dev) (reason : Nat) : Dev := forEach (List.range 32) (fun d s => closeSession d s reason) d

/-- Version chosen for a range: the highest in both, 0 none (R77, Table 3-7). -/
def chooseVersion (lo hi : Nat) : Nat :=
  (([0x0302, 0x0301, 0x0300, 0x0202, 0x0201, 0x0200] : List Nat).find? (fun v => decide (lo ≤ v ∧ v ≤ hi))).getD 0

/-- Device nonce that the next opening of a session draws (Table 3-6). -/
def nextNonce (d : Dev) (s : Nat) : List Byte :=
  if (d.sesCfg s).transport = 1 then le 8 (Config.deviceNonce s (d.session s).hellos) else le 8 0

/-- Host nonces accepted under one key: the last 16 are kept (R74). -/
def keepNonce (key nonce : List Byte) (l : List (List Byte × List Byte)) : List (List Byte × List Byte) :=
  (key, nonce) :: ((l.filter (fun e => decide (e.1 = key))).take 15 ++ l.filter (fun e => decide (e.1 ≠ key)))

/-- `session.hello` takes effect: the session is OPEN under the chosen version. -/
def openSession (d : Dev) (r : Request) (version : Nat) : Dev :=
  let s := r.ses
  let was := sesOpen d s
  let kept := (d.session s).cache.filter (fun e => decide (e.1 = r.seq))
  let nonce := nextNonce d s
  let d := if was then
      let q := shutSession d s
      q.2.raise 0xA001 s s 1 q.1
    else d.raise 0xA000 s s version r.via.code
  let key := leAt r.pay 5 1
  let host := (r.pay.drop 8).take 8
  let d := match r.via, sesKey d s key with
    | .eth _ _, some k => { d with rmt := { d.rmt with nonces := keepNonce k host d.rmt.nonces } }
    | _, _ => d
  let d := (d.setB (SES_STATE_OPEN s) true).setF (SES_STATE_VERSION s) version
  d.setSession s { d.session s with
    seq := r.seq, policy := leAt r.pay 4 1, keyId := key, hostNonce := host, devNonce := nonce, cache := kept,
    hellos := (d.session s).hellos + 1, lastCommit := max (d.session s).lastCommit d.esc.maj }

/-! ### Transport checks (R68, R69, Table 3-4) -/

/-- What the transport checks find. -/
inductive Verdict where
  | pass
  | fail (status detail : Nat)
  | dup (l : List Byte)
deriving DecidableEq, Repr

/-- A missing member of a chain that still waits (R69, R82). -/
def missingMember (d : Dev) (r : Request) : Bool :=
  let w := (d.session r.ses).wait
  !w.any (fun x => decide (x.seq = r.seq))
    && (w.any (fun x => decide (x.seq + 1 = r.seq) && x.link) || (r.link && w.any (fun x => decide (r.seq + 1 = x.seq))))

/-- Check 4: tag, key and host nonce of a datagram (R73, R74). -/
def authOk (d : Dev) (r : Request) (tag : List Byte) : Bool :=
  if r.hello then
    match sesKey d r.ses (leAt r.pay 5 1) with
    | none => false
    | some k =>
      decide (hmac256 k (le 8 0 ++ padTo 8 ((r.pay.drop 8).take 8) ++ r.raw) = tag)
        && !((d.rmt.nonces.filter (fun e => decide (e.1 = k))).take 16).any (fun e => decide (e.2 = (r.pay.drop 8).take 8))
  else
    let x := d.session r.ses
    match (if sesOpen d r.ses then sesKey d r.ses x.keyId else none) with
    | none => false
    | some k => decide (hmac256 k (padTo 8 x.devNonce ++ padTo 8 x.hostNonce ++ r.raw) = tag)

/-- The checks in order. `ring` is the session whose ring brought the request, `fits`: LENGTH fits slot or datagram. -/
def transportCheck (d : Dev) (ring : Nat) (r : Request) (fits : Bool) (tag : List Byte) : Verdict :=
  let x := d.session r.ses
  let v := sesVersion d r.ses
  if 224 < r.len || !fits then .fail 0x32 1
  else if crc32c (r.raw.take 28 ++ r.pay) ≠ r.crc then .fail 0x32 2
  else if 32 ≤ r.ses || decide (r.ses ≠ ring) || decide ((d.sesCfg r.ses).transport ≠ r.via.code) then .fail 0x21 3
  else if decide (r.via.code = 1) && !authOk d r tag then .fail 0x31 0
  else if (if r.hello then decide (r.ver < 0x0200 ∨ 0x0302 < r.ver) else sesOpen d r.ses && decide (r.ver ≠ v)) then .fail 0x30 0
  else if !r.hello && !sesOpen d r.ses then .fail 0x21 3
  else match (if sesOpen d r.ses then x.cache.find? (fun e => decide (e.1 = r.seq) && decide (e.2.1 = r.crc)) else none) with
    | some e => .dup e.2.2
    | none => if r.hello || decide (x.seq < r.seq) || missingMember d r then .pass else .fail 0x21 4

/-! ### Chains (R82) -/

/-- Insert by SEQ. -/
def waitIns (r : Request) : List Request → List Request
  | [] => [r]
  | x :: l => if r.seq < x.seq then r :: x :: l else x :: waitIns r l

/-- Where the run that begins at the head ends: members with LINK in consecutive SEQ and one without; none while a member is
missing. -/
def runEnd : List Request → Option (List Request × List Request)
  | [] => none
  | x :: l =>
    if !x.link then some ([x], l)
    else match l with
      | [] => none
      | y :: l' =>
        if y.seq = x.seq + 1 then
          match runEnd (y :: l') with
          | some q => some (x :: q.1, q.2)
          | none => none
        else none

/-- Members that may still belong to the chain at the head: up to and with the first without LINK, and all behind a gap. -/
def blockEnd : List Request → List Request × List Request
  | [] => ([], [])
  | x :: l =>
    if !x.link then ([x], l) else let q := blockEnd l; (x :: q.1, q.2)

/-- Complete chains leave the members waiting; `fuel` bounds the number of blocks. -/
def settleWait : Nat → List Request → List (List Request) × List Request
  | 0, l => ([], l)
  | _ + 1, [] => ([], [])
  | n + 1, x :: l =>
    match runEnd (x :: l) with
    | some q => let z := settleWait n q.2; (q.1 :: z.1, z.2)
    | none => let b := blockEnd (x :: l); let z := settleWait n b.2; (z.1, b.1 ++ z.2)

/-- A request joins the frame inputs, stamped, or waits as the member of a chain; the completing member stamps the chain. -/
def submit (d : Dev) (r : Request) : Dev :=
  if r.ver ≠ 0x0302 ∨ r.hello then { d with rmt := { d.rmt with reqs := d.rmt.reqs ++ [[r]] } }
  else
    let x := d.session r.ses
    let w := waitIns r x.wait
    let q := settleWait (w.length + 1) w
    let d := d.setSession r.ses { x with wait := q.2 }
    { d with rmt := { d.rmt with reqs := d.rmt.reqs ++ q.1.map (fun u => u.map (fun y => { y with stamp := r.stamp, arr := y.arr })) } }

/-- The members waiting, chain by chain. -/
def waitBlocks : Nat → List Request → List (List Request)
  | 0, _ => []
  | _ + 1, [] => []
  | n + 1, y :: l => let b := blockEnd (y :: l); b.1 :: waitBlocks n b.2

/-- Chains of which a member is still missing at the cutoff of the eighth major frame after the first arrival are answered STATE,
detail 5. -/
def chainTimeout (d : Dev) (s : Nat) : Dev :=
  let x := d.session s
  let bs := waitBlocks (x.wait.length + 1) x.wait
  let old := fun (b : List Request) => b.any (fun r => decide (r.arr + 8 ≤ d.esc.maj))
  let d := d.setSession s { x with wait := (bs.filter (fun b => !old b)).flatten }
  forEach (bs.filter old).flatten (fun d r => answerReq d r 0 0x21 5 0 (d.esc.maj % 2 ^ 32) []) d

/-! ### Taking requests -/

/-- Until CONFIG-WAIT every request is answered BUSY, detail 3 (R87). -/
def notReady (d : Dev) : Bool := decide (d.state = 1) || (decide (d.state = 2) && d.pwr.selftest.isNone)

def readyPayload (d : Dev) : List Byte := le 1 d.state ++ [0] ++ le 2 (d.f HOST_READY_EST_EST_MS)

/-- A failed transport check: counted, answered at once, not stamped. -/
def failCheck (d : Dev) (ring : Nat) (r : Request) (status detail : Nat) : Dev :=
  let d := if ring < 32 then d.count (SES_XFAIL_FAILS ring) else d
  reply d ring r (mkResponse d 0 r status detail 0 0 [])

/-- A request taken from ring `ring` or from a datagram, `raw` being header and payload: it has a token, and is answered at once or
submitted. -/
def takeRequest (d : Dev) (ring : Nat) (via : Via) (raw : List Byte) (fits : Bool) (tag : List Byte) (at_ : Nat) : Dev :=
  let x := d.session ring
  let r : Request := { raw := raw, via := via, stamp := at_, arr := d.esc.maj, tok := x.nextTok }
  let full := decide (64 ≤ x.order.length)
  let d := d.setSession ring { x with nextTok := x.nextTok + 1, order := x.order ++ [(x.nextTok, none)] }
  if notReady d then reply d ring r (mkResponse d 0 r 0x10 3 0 0 (readyPayload d))
  else match transportCheck d ring r fits tag with
    | .fail st detail => failCheck d ring r st detail
    | .dup l => reply d ring r (asDuplicate l)
    | .pass =>
      if full && decide (via.code = 1) then reply d ring r (mkResponse d 0 r 0x10 4 0 0 [])
      else
        let y := d.session ring
        submit (d.setSession ring { y with seq := if r.hello then y.seq else max y.seq r.seq }) r

/-! ### PCIe (R70, R71) -/

/-- Requests the device takes now: those of the host, as far as response slots are free. -/
def ringTake (d : Dev) (s : Nat) : Nat :=
  let avail := (d.f (SES_REQ_TAIL_TAIL s) + 65536 - d.f (SES_REQ_HEAD_HEAD s)) % 65536
  let unread := (d.f (SES_RSP_TAIL_TAIL s) + 65536 - d.f (SES_RSP_HEAD_HEAD s)) % 65536
  min avail (64 - (unread + (d.session s).order.length))

/-- One request slot of ring `s`: the bases are copied with a `session.hello`. -/
def ringOne (d : Dev) (s : Nat) (slot : List Byte) (at_ : Nat) : Dev :=
  let slot := (padTo 256 slot).take 256
  let d := d.setF (SES_REQ_HEAD_HEAD s) ((d.f (SES_REQ_HEAD_HEAD s) + 1) % 65536)
  let d := if leAt slot 12 2 = 0x0101 then
      d.setSession s { d.session s with
        reqBase := d.f (SES_REQ_BASE_HI_ADDR_HI s) * 2 ^ 32 + d.f (SES_REQ_BASE_LO_ADDR_LO s) * 4096,
        rspBase := d.f (SES_RSP_BASE_HI_ADDR_HI s) * 2 ^ 32 + d.f (SES_RSP_BASE_LO_ADDR_LO s) * 4096 }
    else d
  takeRequest d s .pcie (slot.take (32 + min 224 (leAt slot 6 2))) true [] at_

/-- Doorbell: answers none where the write is refused (R71). -/
def doorbell (d : Dev) (s tail : Nat) : Option Dev :=
  if 64 < (tail + 65536 - d.f (SES_REQ_HEAD_HEAD s)) % 65536 then none else some (d.setF (SES_REQ_TAIL_TAIL s) tail)

def doorbellRefused (d : Dev) (s tail : Nat) : Dev := (d.setB (SES_XFAIL_RING_ERR s) true).raise 0xA021 s s tail (d.f (SES_REQ_HEAD_HEAD s))

/-! ### Ethernet (R73 to R75, R87) -/

/-- May a session datagram come in on this port: Felade owns it and the image enables the transport there. -/
def sesPort (d : Dev) (port : Nat) : Bool :=
  let en := fun (i : Image) => i.sesPorts.testBit port
  let deleg := decide (port < 2) && (d.f OWN_DELEG_ETH).testBit port
  !deleg && (match d.img.run with
    | some i => en i
    | none => if d.state = 4 then (match flashPick d with | some l => en (loadImage l) | none => false) else true)

/-- A failing datagram beyond the 16 that a port answers in a major frame is dropped and counted. -/
def ethFailing (d : Dev) (port s : Nat) : Bool × Dev :=
  let x := tget (0, 0, 0) d.rmt.fails port
  if !d.running then (true, d)
  else if x.1 < 16 then (true, { d with rmt := { d.rmt with fails := tset (0, 0, 0) d.rmt.fails port (x.1 + 1, x.2) } })
  else
    let d := if s < 32 then d.count (SES_XFAIL_FAILS s) else d
    (false, { d with rmt := { d.rmt with fails := tset (0, 0, 0) d.rmt.fails port (x.1, x.2.1 + 1, if x.2.1 = 0 then s else x.2.2) } })

/-- A datagram to the session port. -/
def ethRequest (d : Dev) (port addr : Nat) (l : List Byte) (at_ : Nat) : Dev :=
  if !sesPort d port then d
  else
    let n := leAt l 6 2
    let fits := decide (32 + n + 32 ≤ l.length)
    let raw := l.take (32 + (if fits then n else 0))
    let tag := (l.drop (32 + n)).take 32
    let s := leAt l 4 1
    let r : Request := { raw := raw, via := .eth port addr, stamp := at_, arr := d.esc.maj }
    if notReady d then
      if r.hello then d.emit (.response s r.via addr (mkResponse d 0 r 0x10 3 0 0 (readyPayload d))) else d
    else match transportCheck d s r fits tag with
      | .fail _ _ =>
        let q := ethFailing d port s
        if q.1 then takeRequest q.2 s r.via raw fits tag at_ else q.2
      | _ => takeRequest d s r.via raw fits tag at_

/-- AUTH_FAIL of the ended major frame, one record for each port (R75). -/
def ethFailsEnd (d : Dev) : Dev :=
  let d := forEach d.rmt.fails (fun d e => if 0 < e.2.2.1 then d.raise 0xA020 e.2.2.2 (e.1 + 1 : Nat) e.2.2.2 e.2.2.1 else d) d
  { d with rmt := { d.rmt with fails := [] } }

/-! ### SPI (R76) -/

/-- Bytes of a write request; a session with 64 unanswered requests discards it. -/
def spiWrite (d : Dev) (l : List Byte) (at_ : Nat) : Dev :=
  let s := leAt l 4 1
  let x := d.session s
  if 64 ≤ x.order.length then d.setSession s { x with spiDiscard := true }
  else takeRequest d s .spi (l.take (32 + min 224 (leAt l 6 2))) (decide (l.length = 32 + leAt l 6 2)) [] at_

/-- Read response of session `s`: the slot is freed once all of it has been clocked out. -/
def spiRead (d : Dev) (s clocked : Nat) : Dev :=
  let x := d.session s
  match x.spiRsp with
  | [] => d.emit (.spi ((le 32 0).take clocked))
  | l :: r =>
    let d := d.emit (.spi (l.take clocked))
    if l.length ≤ clocked then spiIrq (d.setSession s { x with spiRsp := r }) true else d

/-- Read status: device state, readiness, response and discard masks; the discard mask clears. -/
def spiStatus (d : Dev) : Dev :=
  let mask := fun (p : Ses → Bool) => ((List.range 32).map (fun s => if p (d.session s) then 2 ^ s else 0)).sum
  let d' := d.emit (.spi (le 1 d.state ++ [0] ++ le 2 (d.f HOST_READY_EST_EST_MS) ++ le 4 (mask (fun x => !x.spiRsp.isEmpty))
    ++ le 4 (mask (fun x => x.spiDiscard))))
  forEach (List.range 32) (fun d s => d.setSession s { d.session s with spiDiscard := false }) d'

/-! ### Liveness (R78, R79) -/

/-- The session's liveness timeout has expired. -/
def liveExpired (d : Dev) (s : Nat) : Bool :=
  let live := (d.sesCfg s).live
  sesOpen d s && decide (0 < live) && decide ((d.session s).lastCommit + d.framesOfMs live ≤ d.esc.maj)

/-- Expiry: the session closes, its lost actions go into the next batch. -/
def liveLost (d : Dev) (s : Nat) : Dev :=
  if !liveExpired d s || !d.running then d
  else
    let arms := (d.sesCfg s).lost
    let r := shutSession d s
    let d := r.2.raise 0xA002 s s arms r.1
    { d with rmt := { d.rmt with lost := d.rmt.lost ++ ((List.range 12).filter (fun g => arms.testBit g)).map (fun g => (s, g)) } }

end Sys2Proof.Machine
end

