-- ==== Sys2Proof/Machine/StateOps.lean ====
section
/-!
DEFINITION. Device states, FAULT, core voltage, temperature, clocks, resets and SAFE-TALK (chapter 19; R415, R424).
-/
namespace Sys2Proof.Machine
open Fld

def Dev.setPwr (d : Dev) (p : Pwr) : Dev := { d with pwr := p }

/-! ### Device states (R435, Tables 19-3, 19-4) -/

/-- DEV_STATE changes; MSI-X vector 32 signals it (R72). -/
def setState (d : Dev) (st : Nat) : Dev := if d.state = st then d else (d.setF HOST_STATUS_DEV_STATE st).emit (.msix 32)

/-- A change of state within a time base, with PWR_STATE. -/
def pwrState (d : Dev) (st : Nat) : Dev := if d.state = st then d else (setState d st).raise 0x9000 0xFFFF d.state st d.pwr.gated

/-- A group or a free axis is enabled. -/
def anyEnabled (d : Dev) : Bool :=
  d.groupList.any (fun g => decide ((d.group g).st ≠ .disabled))
    || d.axisList.any (fun n => (d.acfg n).group.isNone && decide ((d.axis n).st ≠ .disabled))

/-- READY and RUN follow the enables. -/
def runReady (d : Dev) : Dev := if d.state = 5 ∨ d.state = 6 then pwrState d (if anyEnabled d then 6 else 5) else d

/-- Causes of FAULT: a Badger channel in FAULT, power, temperature. -/
def byBadger (d : Dev) : Bool := decide (d.f (SAFE_CH_STATUS_STATE 0) = 3) || decide (d.f (SAFE_CH_STATUS_STATE 1) = 3)
def faultCause (d : Dev) : Bool := byBadger d || d.pwr.byPower || d.pwr.byHeat

/-- FAULT is entered with the SS1 request for every STO group, and left once every cause has ended. -/
def faultCheck (d : Dev) : Dev :=
  if faultCause d then
    if d.state = 5 ∨ d.state = 6 ∨ d.state = 8 then
      let d := pwrState d 7
      { d with bad := { d.bad with ss1Req := d.bad.ss1Req ||| 0x1FF } }
    else d
  else if d.state = 7 then pwrState d 5 else d

/-- Domains of a set switched off or on (R429). -/
def domainsOff (d : Dev) (mask : Nat) : Dev := d.setF PWR_DOMAINS_ON (d.f PWR_DOMAINS_ON &&& (0x3FFF ^^^ mask))
def domainsOn (d : Dev) (mask : Nat) : Dev := d.setF PWR_DOMAINS_ON (d.f PWR_DOMAINS_ON ||| mask)
/-- Domains of a gating mask: clusters and Lynx. -/
def gateDomains (mask : Nat) : Nat := mask % 32 * 8

/-- UNGATE: at the first major boundary at least 5 ms after the request the gated programs run again (R445). -/
def ungateNow (d : Dev) (at_ : Nat) : Dev :=
  match d.pwr.ungate with
  | none => d
  | some t =>
    if at_ < t + 4000000 then d
    else
      let d := domainsOn d (gateDomains d.pwr.gated)
      let d := d.setPwr { d.pwr with gated := 0, ungate := none }
      if d.state = 8 then pwrState d (if anyEnabled d then 6 else 5) else d.raise 0x9000 0xFFFF d.state d.state 0

/-! ### Core voltage (R432 to R434) -/

/-- VCORE_MIN: the fused minimum, 650 to 700 mV, plus 10 mV. -/
def vcoreMin : Nat := max 650 (min 700 Config.vcoreFuse) + 10

/-- Why `power.vcore` is refused: status and detail, OK where it is not. -/
def vcoreCheck (d : Dev) (mv : Nat) : Nat × Nat :=
  if mv < vcoreMin ∨ 850 < mv ∨ mv % 5 ≠ 0 then (0x22, 0) else if d.b VCORE_STATUS_BUSY then (0x21, 1) else (1, 0)

/-- The next step towards the target: at most 10 mV. -/
def vcoreNext (conf target : Nat) : Nat := if conf < target then min target (conf + 10) else max target (conf - 10)

/-- The change ends. -/
def vcoreEnd (d : Dev) : Dev :=
  let d := (d.setB VCORE_STATUS_BUSY false).setF VCORE_STATUS_TARGET 0
  d.setPwr { d.pwr with vstep := none, rewriting := false }

/-- The next step is written over PMBus, or the target has been reached. -/
def vcoreGo (d : Dev) : Dev :=
  let c := d.f VCORE_STATUS_CONFIRMED
  let t := d.f VCORE_STATUS_TARGET
  if c = t then (vcoreEnd d).raiseDev 0x9001 t c d.pwr.vsteps
  else
    let v := vcoreNext c t
    (d.setPwr { d.pwr with vstep := some v }).emit (.pmbus v)

/-- `power.vcore` takes effect. -/
def vcoreStart (d : Dev) (mv : Nat) : Dev :=
  let d := (d.setF VCORE_STATUS_TARGET mv).setB VCORE_STATUS_BUSY true
  vcoreGo (d.setPwr { d.pwr with vsteps := 0, rewriting := false })

/-- A step is confirmed: acknowledged, POWER_GOOD for 100 µs. -/
def vcoreStep (d : Dev) : Dev :=
  match d.pwr.vstep with
  | none => d
  | some v =>
    let d := (d.setF VCORE_STATUS_CONFIRMED v).setB VCORE_STATUS_PG true
    if d.pwr.rewriting then vcoreEnd d
    else vcoreGo (d.setPwr { d.pwr with vstep := none, vsteps := d.pwr.vsteps + 1 })

/-- A step timed out: 1 no acknowledgement, 2 no POWER_GOOD. -/
def vcoreTimeout (d : Dev) (cause : Nat) : Dev :=
  match d.pwr.vstep with
  | none => d
  | some v =>
    let d := (d.setB PWR_FLAGS_VCORE_TIMEOUT true).raiseDev 0x9002 (d.f VCORE_STATUS_TARGET) v cause
    if d.pwr.rewriting then
      let d := vcoreEnd d
      faultCheck (d.setPwr { d.pwr with byPower := true })
    else
      let c := d.f VCORE_STATUS_CONFIRMED
      (d.setPwr { d.pwr with vstep := some c, rewriting := true }).emit (.pmbus c)

/-- POWER_GOOD deasserted for more than 10 µs; a cause of FAULT outside a step. -/
def powerGoodLost (d : Dev) : Dev :=
  let d := d.setB VCORE_STATUS_PG false
  if d.pwr.vstep.isSome then d
  else
    let d := (d.setB PWR_FLAGS_PG_LOST true).raiseDev 0x9003 (d.f VCORE_STATUS_CONFIRMED) 0 0
    faultCheck (d.setPwr { d.pwr with byPower := true })

/-- POWER_GOOD is back: the power cause ends. -/
def powerGoodReturn (d : Dev) : Dev :=
  let d := d.setB VCORE_STATUS_PG true
  faultCheck (d.setPwr { d.pwr with byPower := false })

/-! ### Temperature (R435) -/

def thermLevel (t : Int) : Nat := if 1150 ≤ t then 2 else if 1050 ≤ t then 1 else 0

/-- A sensor measures `t`, 0.1 °C. -/
def thermal (d : Dev) (sensor : Nat) (t : Int) : Dev :=
  let old := thermLevel (tget 0 d.pwr.temps sensor)
  let temps := tset 0 d.pwr.temps sensor t
  let new_ := thermLevel t
  let d := d.setPwr { d.pwr with temps := temps, byHeat := temps.any (fun e => decide (1150 ≤ e.2)) }
  let top := match temps.map (·.2) with | [] => 0 | x :: r => r.foldl max x
  let peak := max top (ufield 16 (d.f TEMP_MAX_PEAK))
  let d := (d.setS TEMP_MAX_NOW top).setS TEMP_MAX_PEAK peak
  let d := if new_ = 0 then d else d.setB PWR_FLAGS_THERMAL_WARN true
  let d := if new_ = 2 then d.setB PWR_FLAGS_THERMAL_FAULT true else d
  let d := if old = new_ then d else d.raiseDev 0x9004 sensor t new_
  faultCheck d

/-! ### Clocks (R431, Table 19-2) -/

/-- Loss of CLK_TIME: every PWM channel is forced off, compare and step pins with them (R253, R278). -/
def clkTimeLoss (d : Dev) : Dev := pinsForceOff (pwmForceOff (d.setB PWM_FORCE_CLK_LOSS true))

/-- What the device does on the loss of the clock of row `k`. -/
def clockRow (d : Dev) (k at_ : Nat) : Dev :=
  let d := d.setPwr { d.pwr with clocks := d.pwr.clocks ||| 2 ^ k }
  match k with
  | 2 => fatalStop d 6 k at_
  | 3 => fatalStop d 6 k at_
  | 4 => fatalStop d 6 k at_
  | 5 => fatalStop d 6 k at_
  | 6 => (clkTimeLoss d).raiseDev 0x9005 k 0 0
  | 7 => (clkTimeLoss d).raiseDev 0x9005 k 0 0
  | 10 => (if d.timeState = 2 then toHoldover d at_ else d).raiseDev 0x9005 k 0 0
  | 11 => { d with esc := { d.esc with linksCut := true } }.raiseDev 0x9005 k 0 0
  | 12 => (forEach (List.range 2) canCut d).raiseDev 0x9005 k 0 0
  | 13 => (d.setB OWL_STATUS_TRACE false).raiseDev 0x9005 k 0 0
  | _ => d.raiseDev 0x9005 k 0 0

/-- A clock is lost; with CLK_REF every derived clock, which is one fatal cause; the Badgers' own clocks act in their dice (R303). -/
def clockLost (k at_ : Nat) (b : Blk) : Blk :=
  if k = 14 then badgerFault 0 5 { b with dev := clockRow b.dev k at_ }
  else if k = 15 then badgerFault 1 5 { b with dev := clockRow b.dev k at_ }
  else if k = 0 then
    let d := forEach [6, 7, 8, 9, 10, 11, 12, 13, 2] (fun d j => clockRow d j at_) (clockRow b.dev 0 at_)
    { b with dev := d.setPwr { d.pwr with clocks := d.pwr.clocks ||| 0x3C } }
  else { b with dev := clockRow b.dev k at_ }

/-! ### Resets (R415, R433, R436, R450, R466) -/

/-- The registers that a reset leaves: fuses and, in a warm reset, RS fields (Table 0-4); after DEEP those of PD_AON (R452). -/
def keptRegs (l : Tab Word) (rs aon : Bool) : Tab Word :=
  l.foldl (fun acc (e : Nat × Word) =>
    let a := e.1
    if a = KEY_SLOTS_STATE.addr then rset acc a e.2
    else if aon && (decide (a = PAD_HOLD_LATCH.addr) || decide (a = WAKE_SRC_SRC.addr) || decide (a = AON_TIMER_SECONDS.addr)) then rset acc a e.2
    else if rs then
      let m := accMask a (fun c => decide (c = .rs))
      if m = 0 then acc else rset acc a ((regReset a &&& ~~~m) ||| (e.2 &&& m))
    else acc) []

/-- The motion and field dice after a reset: what survives is the flash and the fuses, the modules outside, what has left the device,
and, but for OFF, the retention banks. -/
def freshDev (d : Dev) (off dramLost rs aon : Bool) : Dev :=
  let regs := (keptRegs d.regs rs aon)
  { regs := regs, out := d.out, fresh := d.fresh, mods := d.mods,
    esc := { tbCount := if off then 0 else d.esc.tbCount },
    rmt := if off then {} else { ring := d.rmt.ring, ringPos := d.rmt.ringPos, nonces := d.rmt.nonces },
    ses := d.ses.filterMap (fun e => if e.2.hellos = 0 then none else some (e.1, { hellos := e.2.hellos })),
    img := { flash0 := d.img.flash0, flash1 := d.img.flash1, keys := d.img.keys },
    rec_ := if off then {} else if dramLost then { d.rec_ with dump := [], dumpHeld := false } else d.rec_,
    bad := { flash := d.bad.flash },
    pwr := { temps := d.pwr.temps, minSec := d.pwr.minSec, testMode := d.pwr.testMode, cause := d.pwr.cause,
             keys := if off then [] else d.pwr.keys, imgHash := if off then [] else d.pwr.imgHash } }

/-- Level of the power-up self-test: POST_LEVEL of the newest flash image that passes steps 1 to 6, full where there is none; after
DEEP POST_LEVEL_DEEP (R438, R448). -/
def postLevel (d : Dev) (deep : Bool) : Nat :=
  match flashPick d with
  | some l => if deep then (loadImage l).postDeep else (loadImage l).postLevel
  | none => if deep then 0 else 1

/-- BOOT after a reset with a cause; the recorder starts and says why (Table 18-3). -/
def bootAfter (d : Dev) (cause prev idx : Nat) (dramLost : Bool) (corrupt : List Nat) : Dev :=
  let lvl := postLevel d (decide (cause = 5))
  let d := d.setPwr { d.pwr with cause := cause }
  let d := (recorderStart (setState d 1) dramLost corrupt).raiseDev 0x0000 cause prev idx
  ((d.setF POST_RESULT_LEVEL lvl).setF HOST_READY_EST_EST_MS (if lvl = 1 then 830 else 290)).setB PWM_FORCE_TEST d.pwr.testMode

/-- Pins as they are sampled at the release of RESET_N (R466). -/
def samplePins (d : Dev) (cellId : Nat) (testMode : Bool) : Dev :=
  (d.setF CL_CFG_CELL_ID cellId).setPwr { d.pwr with testMode := testMode }

/-- POWER_ON: rails valid and RESET_N released after OFF. -/
def powerOn (d : Dev) (cellId : Nat) (testMode : Bool) : Dev :=
  let x := samplePins { freshDev d true true false false with ses := [] } cellId testMode
  bootAfter x 1 0 0 true []

/-- Assertion of RESET_N ends the time base and releases the sampled pins' hold; at its release the device boots. -/
def resetN (d : Dev) (low : Bool) (cellId : Nat) (testMode : Bool) : Dev :=
  if low then
    let d := timebaseEnd d
    d.setPwr { d.pwr with held := true }
  else if !d.pwr.held then d
  else
    let deep := decide (d.pwr.rail = .deep)
    let x := samplePins (freshDev d false deep false false) cellId testMode
    bootAfter x 2 d.state d.rec_.idx deep []

/-- VDD_CORE below 0.62 V: a reset with cause 1; CELL_ID and TEST_MODE stay as sampled. -/
def brownOut (d : Dev) : Dev :=
  let id := d.f CL_CFG_CELL_ID
  let p := timebaseEnd d
  let deep := decide (d.pwr.rail = .deep)
  bootAfter ((freshDev p false deep false false).setF CL_CFG_CELL_ID id) 1 d.state p.rec_.idx deep []

/-- SAFE-TALK: the STO request line is asserted, the CAN controllers are in INIT, sessions close (R89, R299, R390). -/
def enterSafeTalk (d : Dev) (open_ : List (Nat × Nat)) : Dev :=
  let d := setState { d with bad := { d.bad with line := true } } 3
  let d := forEach (List.range 2) canInit d
  forEach open_ (fun d e => d.raise 0xA001 e.1 e.1 3 e.2) d

/-- The warm reset into SAFE-TALK (R424): output forcing and the field die's safe bits stay. -/
def warmReset (d : Dev) : Dev :=
  let prev := d.state
  let id := d.f CL_CFG_CELL_ID
  let open_ := ((List.range 32).filter (sesOpen d)).map (fun s => (s, (dropSession d s).1))
  let d := fieldAllSafe d
  let field := d.field
  let fo := d.regs.filter (fun e => decide (0x900000 ≤ e.1) && decide (e.1 < 0xA00000))
  let p := timebaseEnd d
  let x := freshDev p false false true false
  let x := { x with regs := fo.foldl (fun (r : Tab Word) (e : Nat × Word) => rset r e.1 e.2) x.regs, io := { x.io with field := field } }
  let x := x.setF CL_CFG_CELL_ID id
  let x := (recorderStart (setState (x.setPwr { x.pwr with cause := 3 }) 3) false []).raiseDev 0x0000 3 prev p.rec_.idx
  enterSafeTalk (x.setB PWM_FORCE_TEST d.pwr.testMode) open_

/-- The dump as a warm reset finds it: written complete or not, or kept (R424 to R426). -/
def fatalEnd (d : Dev) (complete : Bool) : Dev :=
  match d.rec_.fatal with
  | none => d
  | some (cause, detail, _) =>
    if d.rec_.dumpHeld then dumpHeldRecord (warmReset d)
    else
      let done := complete && d.rec_.dumping
      let d := warmReset (putDump d cause detail done.toNat d.pwr.hash)
      dumpHeldRecord (d.raiseDev 0x0011 (leAt d.rec_.dump 8 4 / 1024 : Nat) done.toNat cause)

/-! ### Boot (R437, R440) -/

/-- A Felade slot as the boot ROM finds it: build number, security version, build hash. -/
abbrev FSlot := Option (Nat × Nat × List Byte)

/-- The slot the boot ROM loads: higher build of those that verify with a sufficient security version, slot 0 where equal. -/
def pickSlot (minSec : Nat) (s0 s1 : FSlot) : Option (Nat × Nat × Nat × List Byte) :=
  let ok := fun (s : FSlot) => match s with | some x => decide (minSec ≤ x.2.1) | none => false
  match s0, s1 with
  | some a, some b =>
    if ok s0 && (!ok s1 || decide (b.1 ≤ a.1)) then some (0, a) else if ok s1 then some (1, b) else none
  | some a, none => if ok s0 then some (0, a) else none
  | none, some b => if ok s1 then some (1, b) else none
  | none, none => none

/-- BOOT_IMAGE: Felade is loaded, or the boot ROM stays in SAFE-TALK. `fuse`: the release's notes raise the fused minimum. -/
def bootImage (d : Dev) (s0 s1 : FSlot) (fuse : Bool) : Dev :=
  if d.state ≠ 1 then d
  else match pickSlot d.pwr.minSec s0 s1 with
    | none => dumpHeldRecord (enterSafeTalk (d.raiseDev 0x9020 0xFF d.pwr.minSec 2) [])
    | some (k, build, sec, hash) =>
      let d := d.raiseDev 0x9020 k sec 1
      let d := d.setPwr { d.pwr with slot := k, build := build, hash := hash, secVer := sec, minSec := if fuse then max sec d.pwr.minSec else d.pwr.minSec }
      let full := decide (d.f POST_RESULT_LEVEL = 1)
      dumpHeldRecord ((setState d 2).setF HOST_READY_EST_EST_MS (if full then 780 else 240))

/-- The power-up self-test ends: passed, or failed at a test with a detail. -/
def postDone (d : Dev) (failed : Option (Nat × Nat)) : Dev :=
  if d.state ≠ 2 ∨ d.pwr.selftest.isSome then d
  else match failed with
    | none => setState (d.setF HOST_READY_EST_EST_MS 0) 4
    | some (n, detail) =>
      let d := d.setF POST_RESULT_FAIL (d.f POST_RESULT_FAIL ||| 2 ^ n)
      enterSafeTalk (d.raiseDev 0x9011 n detail 1) []

/-! ### Online tests (R441) -/

/-- ECC_ERROR: an uncorrectable error on an access or in a scrub. -/
def eccFatal (d : Dev) (mem at_ : Nat) : Dev := fatalStop d 3 mem at_

def spotCheck (d : Dev) (good : Bool) (tile at_ : Nat) : Dev :=
  if good then d.setPwr { d.pwr with spots := d.pwr.spots + 1 } else fatalStop d 2 tile at_

/-- A scrub read: `err` none no error, some true corrected, some false uncorrectable; `pass`: the pass over the memory ends. -/
def scrub (d : Dev) (mem addr : Nat) (err : Option Bool) (pass : Bool) (at_ : Nat) : Dev :=
  let d := if pass then d.setPwr { d.pwr with scrubs := d.pwr.scrubs + 1 } else d
  match err with
  | none => d
  | some true =>
    let d := d.setPwr { d.pwr with corrected := d.pwr.corrected + 1 }
    d.raise 0x9012 0xFFFF mem (addr % 2 ^ 32) d.pwr.corrected
  | some false => eccFatal d mem at_

/-- PWM_READBACK: a pad differs from its expected level; the group trips (R252). -/
def pwmReadback (d : Dev) (g ch : Nat) (level : Bool) : Dev :=
  let d := d.setPwr { d.pwr with readback := d.pwr.readback + 1 }
  let d := pwmSafe ((d.setB (PWM_GCTL_TRIPPED g) true).setPwm g { d.pwm g with live := false }) g
  d.raise 0x9013 g g ch level.toNat

/-! ### Queries (Table 19-11) -/

def cellStatus (d : Dev) : List Byte :=
  let serial := match d.img.run with | some i => i.serial | none => 0
  let flags := d.running.toNat + 2 * d.pwr.restart.isSome.toNat
    + (if d.state = 7 then 4 * (byBadger d).toNat + 8 * d.pwr.byPower.toNat + 16 * d.pwr.byHeat.toNat else 0)
  le 1 d.state ++ le 1 d.pwr.cause ++ le 1 (d.f WAKE_SRC_SRC) ++ le 1 flags ++ le 4 serial ++ padTo 8 (d.pwr.hash.take 8)
    ++ le 2 (d.f VCORE_STATUS_CONFIRMED) ++ le 2 (d.f TEMP_MAX_NOW) ++ le 4 (d.reg POST_RESULT_FAIL.addr).toNat ++ le 2 (d.f PWR_DOMAINS_ON)
    ++ le 6 (if d.running then d.esc.maj else 0)

def onlineCounters (d : Dev) : List Byte := le 4 d.pwr.spots ++ le 4 d.pwr.scrubs ++ le 4 d.pwr.corrected ++ le 4 d.pwr.readback

def testResult (d : Dev) : List Byte :=
  le 4 (d.reg POST_RESULT_FAIL.addr).toNat ++ le 4 d.pwr.stResult ++ le 2 d.pwr.stTest ++ le 2 d.pwr.stDetail

end Sys2Proof.Machine
end

