-- ==== Sys2Proof/Machine/Activate.lean ====
section
/-!
DEFINITION. An image takes effect: change classes, ownership, tiles; flash activation; low-power states, full self-test and Felade warm
restart (R94 to R102, R442 to R449).
-/
namespace Sys2Proof.Machine
open Fld

/-! ### Ownership (R100 to R102) -/

/-- A field output group goes to its safe state (R102, R403). -/
def groupSafe (d : Dev) (g : Nat) : Dev := if d.b (FO_GRP_CFG_EN g) then foExpire d g 3 else d

/-- Queues of a port are flushed. -/
def portFlush (d : Dev) (n : Nat) : Dev := d.setEth n { d.ethp n with rx := [], safe := 0, txts := [], heads := [] }

/-- Blocks whose owner changes go to their idle state; OWNER_CHANGE. -/
def ownershipChange (d : Dev) (new_ : Nat) : Dev :=
  let old := (d.reg OWN_DELEG_CAN.addr).toNat
  if old = new_ then d
  else
    let moved := fun k => old.testBit k != new_.testBit k
    let d := forEach ((List.range 2).filter moved) canInit d
    let d := forEach ((List.range 4).filter (fun g => moved (6 + g))) groupSafe d
    let d := forEach ((List.range 2).filter (fun n => moved (10 + n))) portFlush d
    let d := (d.setReg OWN_DELEG_CAN.addr (BitVec.ofNat 32 new_)).setF OWN_EPOCH_CHANGES (d.f OWN_EPOCH_CHANGES + 1)
    d.raiseDev 0x0105 old new_ 0

/-! ### What an image sets -/

/-- A register takes the value of an image in the fields software may set; CAN_CTRL.INIT is left to R102 and R390. -/
def imageReg (d : Dev) (a : Nat) (v : Word) : Dev :=
  let m := accMask a (fun c => decide (c = .rw) || decide (c = .rwl))
  let m := if a = (CAN_CTRL_INIT 0).addr ∨ a = (CAN_CTRL_INIT 1).addr then m &&& ~~~(CAN_CTRL_INIT 0).mask else m
  d.setReg a ((d.reg a &&& ~~~m) ||| (v &&& m))

/-- Registers of the old image return to their reset values and those of the new one take its values, in the section types that the
class may change. -/
def imageRegs (d : Dev) (old : Option Image) (im : Image) (may : Nat → Bool) : Dev :=
  let own := fun (a : Nat) => decide (a = OWN_DELEG_CAN.addr)
  let gone := match old with | some o => o.regs.filter (fun e => may e.1 && !own e.2.1) | none => []
  let d := forEach gone (fun d e => imageReg d e.2.1 (regReset e.2.1)) d
  forEach (im.regs.filter (fun e => may e.1 && !own e.2.1)) (fun d e => imageReg d e.2.1 e.2.2) d

/-- MODE, DIR and CHAN of a compare unit. -/
def unitSet (d : Dev) (u mode dir chan : Nat) : Dev := ((d.setF (CMP_CFG_MODE u) mode).setF (CMP_CFG_DIR u) dir).setF (CMP_CFG_CHAN u) chan

/-- R147: a trigger binding sets MODE, DIR and CHAN of the unit that it owns; a unit given up has what the image gives it. -/
def trigRegs (d : Dev) (old : Option Image) (im : Image) : Dev :=
  let d := forEach (old.getD {}).trigs (fun d t => unitSet d t.unit (im.f (CMP_CFG_MODE t.unit)) (im.f (CMP_CFG_DIR t.unit)) (im.f (CMP_CFG_CHAN t.unit))) d
  forEach im.trigs (fun d t => unitSet d t.unit t.mode 0 ((tget none im.convs t.conv).getD {}).srcIdx) d

/-- Identity of the running image in the registers (R103). -/
def imageIdent (d : Dev) (im : Image) : Dev :=
  let d := forEach (List.range 8) (fun d k => d.setF (IMG_HASH_HASH k) (leAt im.hash (4 * k) 4)) d
  (d.setF IMG_INFO_SERIAL im.serial).setF LINE_DEV_NUMBER im.lineDev

/-- Tile `n` with the slot programs and custom laws of an image (R188, R202, R203). -/
def loadTile (im : Image) (n : Nat) : Tile :=
  let ls := im.laws.filterMap (fun e => match e.2 with | some l => if l.tile = n then some l else none | none => none)
  let prog := ls.foldl (fun p l => tfill 0 p l.progBase l.code) ([] : Tab Word)
  let data := ls.foldl (fun x l => l.bindings.foldl (fun y bd => tfill 0 y bd.dataBase bd.init) x) ([] : Tab DWord)
  { prog := prog, data := data, mainList := tget [] im.mainLists n, events := tget [] im.events n }

/-- CLAWk_BIND and CLAWk_DECL show the custom laws of an image (R207). -/
def clawRegs (d : Dev) (im : Image) : Dev :=
  forEach (List.range 64) (fun d k =>
    let l := (tget none im.laws k).getD {}
    let n := if (tget none im.laws k).isSome then l.bindings.length else 0
    let d := if n = 0 then ((d.setF (CLAW_BIND_TILE k) 0).setB (CLAW_BIND_CTX k) false).setB (CLAW_BIND_STAGE k) false
      else ((d.setF (CLAW_BIND_TILE k) l.tile).setB (CLAW_BIND_CTX k) l.event).setB (CLAW_BIND_STAGE k) l.current
    (d.setF (CLAW_BIND_BINDINGS k) n).setF (CLAW_DECL_DECLARED k) (if n = 0 then 0 else l.declared)) d

def loadTiles (im : Image) (b : Blk) : Blk :=
  (List.range 16).foldl (fun b n => b.setTile n (loadTile im n)) { b with dev := clawRegs (tilesStopped b.dev (fun _ => true)) im }

/-- Axes, groups, conveyors and module positions whose configuration differs start anew. -/
def bindingsReset (d : Dev) (old : Option Image) (im : Image) : Dev :=
  let o : Image := old.getD {}
  let d := forEach ((List.range 96).filter (fun n => decide (tget none o.axes n ≠ tget none im.axes n))) (fun d n => d.setAxis n {}) d
  let d := forEach ((List.range 12).filter (fun g => decide (tget none o.groups g ≠ tget none im.groups g))) (fun d g => d.setGroup g {}) d
  let d := forEach ((List.range 16).filter (fun j => decide (tget none o.convs j ≠ tget none im.convs j))) (fun d j => d.setCv j {}) d
  let d := forEach ((List.range 64).filter (fun k => decide (tget {} o.mods k ≠ tget {} im.mods k))) (fun d k =>
    let p := k / 16
    let j := k % 16
    (dlState (if (d.posn p j).joined then dlJoined d p j false else d) p j 0).setPosn p j {}) d
  { d with trig := [], lynx := {} }

/-- Feedback channels that the image enables (R259). -/
def channelsOn (d : Dev) (was : List Nat) (at_ : Nat) : Dev :=
  forEach ((List.range 24).filter (fun n => decide (d.f (FB_CFG_MODE n) ≠ 0) && !was.contains n)) (fun d n => fbEnable d n at_) d

/-- Sessions stay open where the new image gives their number to the same transport (R63). -/
def sessionsKept (d : Dev) (before : Tab SesCfg) (im : Image) : Dev :=
  forEach (List.range 32) (fun d s =>
    if (tget {} im.sessions s).transport = (tget {} before s).transport then d else closeSession d s 2) d

/-- Held commands are discarded: their number. -/
def heldDiscard (d : Dev) : Nat × Dev :=
  ((d.rmt.pending.map (fun h => h.reqs.length)).sum, { d with rmt := { d.rmt with pending := [] } }.setF RMT_STATUS_PENDING 0)

/-- Levels of Felade-owned field groups are held for a reason (Table 17-2), over `keep` groups. -/
def holdOwned (d : Dev) (keep : Nat → Bool) (cause at_ : Nat) : Dev :=
  let gs := (List.range 4).filter (fun g => d.b (FO_GRP_CFG_EN g) && keep g)
  if gs.isEmpty then d else foHold d gs cause at_

/-! ### Activation (R95, R98) -/

/-- The image `l`, which has passed its checks, takes effect at `at_`. -/
def activateImage (b : Blk) (l : List Byte) (at_ : Nat) : Blk :=
  let im := loadImage l
  let d := b.dev
  let cls := changeClass d l
  if cls = 0 then { b with dev := stagingDrop d }
  else
    let old := d.img.run
    let before := sesTable d
    let d := keyDirectives d im
    let h := if 2 ≤ cls then heldDiscard d else (0, d)
    let d := h.2
    let deleg := (im.reg OWN_DELEG_CAN.addr).toNat
    let fresh := decide (cls = 3)
    let was := (List.range 24).filter (fun n => decide (d.f (FB_CFG_MODE n) ≠ 0))
    -- class 3: the old time base ends, the device passes through CONFIG-WAIT
    let d := if fresh && d.running then
        let same := fun g => decide ((d.f OWN_DELEG_FOUT).testBit g = deleg.testBit (6 + g))
        setState (holdOwned (timebaseEnd d) same 4 at_) 4
      else d
    let d := ownershipChange d deleg
    let d := imageRegs d old im (fun ty => decide (2 ≤ cls) || (decide (0xA ≤ ty) && decide (ty ≤ 0xF)))
    let d := if 2 ≤ cls then bindingsReset (trigRegs d old im) old im else d
    let d := sessionsKept d before im
    let d := imageIdent (d.setImg { d.img with run := some im, runBytes := l }) im
    let d := d.setPwr { d.pwr with keys := im.sessions, imgHash := im.hash }
    let d := if d.bad.flash.isEmpty then d else lynxCheck (parseSet d.bad.flash) d
    let d := owlConfigure (channelsOn d was at_) old (some im)
    let d := if old.isNone then fieldStart d else d
    let d := if fresh then escLock (clStart d at_) else d
    let d := d.raiseDev 0x0102 im.serial (leAt im.hash 0 4) h.1
    let d := if fresh then setState d 5 else d
    let b := { b with dev := stagingDrop d }
    if 2 ≤ cls then loadTiles im b else b

/-- ACTIVATE_FLASH and AUTOSTART in CONFIG-WAIT: the flash image chosen, checked to step 10, takes effect (R96, R97). -/
def activateFlash (b : Blk) (at_ : Nat) : Blk :=
  match flashPick b.dev with
  | none => b
  | some l =>
    match checkImage b.dev l with
    | some f => { b with dev := imageRefused b.dev (loadImage l) f }
    | none => activateImage b l at_

/-- AUTOSTART: on entering CONFIG-WAIT the selected image with that flag is activated without the host. -/
def autostart (b : Blk) (at_ : Nat) : Blk :=
  if b.dev.state ≠ 4 then b
  else match flashPick b.dev with
    | some l => if (loadImage l).autostart then activateFlash b at_ else b
    | none => b

/-- The image staged or in flash that an ACTIVATE names. -/
def activateBytes (d : Dev) (flash : Bool) : Option (List Byte) :=
  if flash then flashPick d else if d.img.owner.isSome then some d.img.bytes else none

/-! ### Low-power states (R445 to R448) -/

/-- Tile clusters that host a slot of axis `n`. -/
def clustersOf (d : Dev) (n : Nat) : List Nat :=
  match d.img.run with
  | none => []
  | some im => (List.range 4).filter (fun c => (List.range 4).any (fun k =>
      let t := 4 * c + k
      (tget [] im.mainLists t).any (fun e => e.2.any (fun s => decide (s.axis = n)))
        || (tget [] im.events t).any (fun e => match e.2 with | some x => x.chain.any (fun s => decide (s.axis = n)) | none => false)))

/-- The gated engines that an enable of an axis needs (R445). -/
def axisGated (d : Dev) (n : Nat) : Bool := (clustersOf d n).any (fun c => d.pwr.gated.testBit c)
def armGated (d : Dev) (g : Nat) : Bool := (d.gcfg g).axes.any (axisGated d) || (decide (g < 8) && d.pwr.gated.testBit 4)

/-- Why `power.state` is refused: status and detail (R444, R445). -/
def powerCheck (d : Dev) (p : PReq) : Nat × Nat :=
  match p.target with
  | 0 => if d.state = 9 ∨ d.state = 8 ∨ d.pwr.gated ≠ 0 then (1, 0) else (0, 0)
  | 1 =>
    if 32 ≤ p.mask then (0x22, 0)
    else if d.state ≠ 5 ∧ d.state ≠ 6 then (0x21, 1)
    else if d.axisList.any (fun n => decide ((d.axis n).st ≠ .disabled) && (clustersOf d n).any (fun c => p.mask.testBit c)) then (0x21, 2)
    else if p.mask.testBit 4 ∧ d.groupList.any (fun g => decide (g < 8) && decide ((d.group g).st ≠ .disabled)) then (0x21, 2)
    else (0, 0)
  | 2 => if d.state = 5 then (0, 0) else (0x21, 1)
  | 3 => if d.state = 5 then (0, 0) else (0x21, 1)
  | 4 => if anyGroupIn d [.moving, .homing, .stopping] then (0x21, 2) else if d.state < 5 ∨ 8 < d.state then (0x21, 1) else (1, 0)
  | _ => (0x22, 0)

/-- ARMS-IDLE: the named domains are gated at the boundary. -/
def armsIdle (d : Dev) (mask : Nat) : Dev :=
  let d := tilesStopped (domainsOff d (gateDomains mask)) (fun n => mask.testBit (n / 4))
  pwrState (d.setPwr { d.pwr with gated := mask, ungate := none }) 8

/-- Blocks whose registers lie in a domain that STANDBY switches off. -/
def standbyOff (a : Nat) : Bool := [1, 2, 3, 4, 5, 6, 12, 13].contains (a / 0x100000)

/-- Entry to STANDBY or DEEP: pads inactive and latched, field groups at their safe bits, domains off, the time base ends. -/
def lowPower (b : Blk) (deep : Bool) (timer : Nat) : Blk :=
  let d := timebaseEnd b.dev
  let d := fieldAllSafe d
  let d := (padLatch d).setF PAD_HOLD_FIELD_HELD 15
  let d := d.setF AON_TIMER_SECONDS timer
  let d := { d with
    regs := d.regs.filter (fun e => !standbyOff e.1), esc := { tbCount := d.esc.tbCount },
    rmt := { ring := d.rmt.ring, ringPos := d.rmt.ringPos, nonces := d.rmt.nonces },
    grp := [], conv := [], masters := [], trig := [], lynx := {}, issue := [], ax := [], dl := [],
    io := { can := d.io.can, field := d.io.field }, net := { d.net with cl := {} } }
  let id := b.dev.f CL_CFG_CELL_ID
  let d := d.setF CL_CFG_CELL_ID id
  let d := domainsOff d (if deep then 0x7FE else 0x6FC)
  let d := d.setPwr { d.pwr with gated := 0, ungate := none, rail := if deep then .deep else .on }
  let d := if deep then d.emit (.pin "RAIL_OFF_N" false) else setState d 9
  { b with dev := d, tiles := [] }

/-- A `power.state` acts; while a core-voltage change runs it waits for the end (R434). -/
def powerAct (b : Blk) (p : PReq) (at_ : Nat) : Blk :=
  let d := b.dev
  if d.b VCORE_STATUS_BUSY then { b with dev := d.setPwr { d.pwr with waiting := some p } }
  else match p.target with
    | 0 =>
      if d.state = 9 then
        let d := d.setF WAKE_SRC_SRC (d.f WAKE_SRC_SRC ||| 16)
        { b with dev := (domainsOn (setState d 4) 0x6FC).raise 0x9000 0xFFFF 9 4 (d.f WAKE_SRC_SRC) }
      else if d.pwr.gated ≠ 0 ∨ d.state = 8 then { b with dev := d.setPwr { d.pwr with ungate := some at_ } } else b
    | 1 => { b with dev := armsIdle d p.mask }
    | 2 => lowPower b false p.timer
    | 3 => lowPower b true p.timer
    | 4 =>
      let d := (d.setPwr { d.pwr with restart := some at_ }).setB PWR_FLAGS_RESTARTING true
      let d := holdOwned d (fun g => !foDelegated d g) 2 at_
      { b with dev := d.raise 0x9030 0xFFFF 1 (leAt d.pwr.hash 0 4) 0 }
    | _ => b

/-- A waiting `power.state` starts when the core-voltage change has ended, where it is still allowed. -/
def powerResume (b : Blk) (at_ : Nat) : Blk :=
  match b.dev.pwr.waiting with
  | none => b
  | some p =>
    if b.dev.b VCORE_STATUS_BUSY then b
    else
      let b := { b with dev := b.dev.setPwr { b.dev.pwr with waiting := none } }
      if (powerCheck b.dev p).1 < 2 then powerAct b p at_ else b

/-- A wake source fires (Table 19-9): 0 WAKE_N, 1 AON timer, 2 field input, 3 Ethernet wake frame, 4 `power.state` RUN. -/
def wake (b : Blk) (src : Nat) : Blk :=
  let d := b.dev
  if !(d.f WAKE_EN_EN).testBit src ∨ (src = 2 ∧ d.f WAKE_FI_MASK_MASK = 0) then b
  else if d.pwr.rail = .deep then
    if 3 ≤ src then b
    else
      let d := d.setF WAKE_SRC_SRC (d.f WAKE_SRC_SRC ||| 2 ^ src)
      let id := d.f CL_CFG_CELL_ID
      let x := (freshDev d false true true true).setF CL_CFG_CELL_ID id
      { b with dev := (bootAfter x 5 9 d.rec_.idx true []).emit (.pin "RAIL_OFF_N" true) }
  else if d.state = 9 then
    let d := d.setF WAKE_SRC_SRC (d.f WAKE_SRC_SRC ||| 2 ^ src)
    { b with dev := (domainsOn (setState d 4) 0x6FC).raise 0x9000 0xFFFF 9 4 (d.f WAKE_SRC_SRC) }
  else b

/-- After a wake from STANDBY Felade checks the image held in DRAM against the retained hash and steps 7 to 10, and activates it. -/
def standbyResume (b : Blk) (at_ : Nat) : Blk :=
  let d := b.dev
  let l := d.img.runBytes
  if d.state ≠ 4 ∨ d.running ∨ d.esc.starting ∨ l.isEmpty then b
  else if imgHash l ≠ d.pwr.imgHash then b
  else match checkBack b.dev (loadImage l) with
    | some f => { b with dev := imageRefused d (loadImage l) f }
    | none => activateImage { b with dev := d.setImg { d.img with run := none } } l at_

/-! ### Full self-test (R442) -/

/-- Why `cell.selftest` FORM 1 is refused. -/
def selftestCheck (d : Dev) : Nat × Nat :=
  if d.groupList.any (fun g => decide ((d.group g).st ≠ .disabled)) || d.axisList.any (fun n => (d.axis n).live || (d.axis n).outputsOn) then
    (0x21, 2)
  else if d.state = 5 ∨ d.state = 4 then (1, 0) else (0x21, 1)

/-- FORM 1 starts. -/
def selftestStart (d : Dev) (at_ : Nat) : Dev :=
  let d' := d.setPwr { d.pwr with selftest := some d.state, stAt := at_, stBack := false }
  if d.state = 4 then setState d' 2
  else
    let d' := forEach (List.range 16) (fun d j => d.setCv j { d.cv j with queue := [] }) d'
    let d' := { d' with lynx := { d'.lynx with next := none } }
    setState (holdOwned d' (fun g => !foDelegated d' g) 3 at_) 2

/-- Back to READY at a major boundary, with SELFTEST_DONE (R442). -/
def selftestBack (d : Dev) (at_ : Nat) : Dev :=
  match d.pwr.selftest with
  | none => d
  | some st =>
    let ms := (at_ - d.pwr.stAt) / 800000
    let d := d.setPwr { d.pwr with selftest := none, stBack := false, stResult := 0, stTest := 0, stDetail := 0 }
    let d := if st = 4 then d else foRelease d at_
    (setState d st).raiseDev 0x9010 1 0 ms

/-- A full self-test ends: passed, or failed at a test. -/
def selftestDone (b : Blk) (failed : Option (Nat × Nat)) (at_ : Nat) : Blk :=
  let d := b.dev
  match d.pwr.selftest with
  | none => b
  | some st =>
    match failed with
    | some (n, detail) =>
      let d := d.raiseDev 0x9011 n detail 2
      let x := warmReset d
      { b with dev := (x.setPwr { x.pwr with stResult := 2 ^ n, stTest := n, stDetail := detail }).setF POST_RESULT_FAIL (2 ^ n), tiles := [] }
    | none =>
      if st = 4 then { b with dev := selftestBack d at_ }
      else
        let b := { b with dev := d.setPwr { d.pwr with stBack := true } }
        match d.img.run with | some im => loadTiles im b | none => b

/-! ### Felade warm restart (R444) -/

/-- Every enabled group and axis ends with the time base. -/
def allOff (d : Dev) : Dev :=
  let d := forEach d.groupList (fun d g => if (d.group g).st = .disabled then d else groupOff (discardAll d g) g) d
  forEach d.axisList (fun d n => axTorqueOff (if (d.axis n).st = .disabled then d else axDeenergise d n) n) d

/-- The new Felade checks the running image; it resumes service, or the device passes through CONFIG-WAIT. -/
def feladeRestart (b : Blk) (slot build : Nat) (hash : List Byte) (at_ : Nat) : Blk :=
  let d := b.dev
  match d.pwr.restart with
  | none => b
  | some t =>
    let ms := (at_ - t) / 800000
    let part := leAt hash 0 4
    let prev := d.state
    let d := (d.setPwr { d.pwr with restart := none, slot := slot, build := build, hash := hash, cause := 4 }).setB PWR_FLAGS_RESTARTING false
    let d := d.raiseDev 0x0000 4 prev d.rec_.idx
    match checkImage d d.img.runBytes with
    | none => { b with dev := (foRelease d at_).raiseDev 0x9030 0 part ms }
    | some f =>
      let before := sesTable d
      let d := imageRefused d (loadImage d.img.runBytes) f
      let d := setState (timebaseEnd (allOff d)) 4
      let d := owlConfigure (ownershipChange (d.setImg { d.img with run := none, runBytes := [] }) 0) none none
      let d := imageIdent d { lineDev := 0, hash := [] }
      let d := sessionsKept d before { sessions := sesTable d }
      { b with dev := clawRegs ((foRelease d at_).raiseDev 0x9030 2 part ms) {}, tiles := [] }

end Sys2Proof.Machine
end

