-- ==== Sys2Proof/Machine/PeerOps.lean ====
section
/-!
DEFINITION. Peer records of the cell link: capsule sets, track sets, masters, and the exchange of joined starts (R121, R124 to R126,
R141, R149, R371). The spec names the classes; the layout of their data is the model's (log entry 41).
-/
namespace Sys2Proof.Machine

/-! ### What a member sends -/

/-- Classes of Table 15-3: 1 capsule set (index: arm). -/
def sendCapsules (d : Dev) (g : Nat) : Dev :=
  let c := d.gcfg g
  let ks := (knotPoses d g).map (armCapsules d g)
  let last := (ks.getLastD []).take 17
  let prev := ((ks.dropLast).getLastD last).take 17
  let ahead : Rat := d.P + c.ovrFrames
  let moves := (last.zip prev).map (fun e => ((max (e.1.p.sub e.2.p).len (e.1.q.sub e.2.q).len : Nat) : Rat) * ahead)
  let grow := moves.foldl max 0
  let cap := fun (k : LCap) => sle 8 k.p.x ++ sle 8 k.p.y ++ sle 8 k.p.z ++ sle 8 k.q.x ++ sle 8 k.q.y ++ sle 8 k.q.z ++ sle 8 k.r.floor
  clQueue d 1 g (le 1 c.armPrio ++ le 1 last.length ++ le 2 0 ++ le 8 grow.ceil.toNat ++ le 8 c.brakeGrow.ceil.toNat ++ last.flatMap cap)

/-- Class 2, track set (index: source): the tracks of a source as this device committed them. -/
def sendTracks (d : Dev) (src : Nat) : Dev :=
  let l := (d.lynx.tracks.filter (fun t => decide (t.source = src) && decide (t.conn < 256))).take 20
  let item := fun (t : Track) => sle 8 t.x ++ sle 8 t.y ++ sle 8 t.vx ++ sle 8 t.vy ++ sle 8 t.radius ++ sle 8 t.height
  clQueue d 2 src (le 1 l.length ++ le 3 0 ++ l.flatMap item)

/-- Class 3, conveyor master: count, counts a second in 2^-16; class 4, gearing master: position and speed of an axis. -/
def sendMasters (d : Dev) : Dev :=
  match d.img.run with
  | none => d
  | some im =>
    let rec_ := fun (ok : Bool) (p v : Rat) => le 1 ok.toNat ++ le 7 0 ++ sle 8 p.floor ++ sle 8 (v * 65536).floor
    let d := forEach im.sendConv (fun y e =>
      let c := tget none im.convs e.2
      match c with
      | some c =>
        let s := (y.fb c.srcIdx).sample
        clQueue y 3 e.1 (rec_ (y.b (Fld.FB_STAT_VALID c.srcIdx)) s.count (if y.sMinor = 0 then 0 else (s.speed : Rat) / 4096 / y.sMinor))
      | none => y) d
    forEach im.sendGear (fun y e => let m := masterAt y 0 e.2; clQueue y 4 e.1 (rec_ true m.1 m.2)) d

/-- Records of a major frame, from a member: masters; with a planning frame, capsule sets. -/
def sendPeers (d : Dev) : Dev :=
  if d.clState < 3 then d
  else
    let d := sendMasters d
    if d.esc.maj % max 1 d.P = 0 then forEach (armList d) sendCapsules d else d

/-! ### Joined starts (Table 5-6) -/

/-- Kinds of class 5: 0 START_REQ, 1 READY, 2 REFUSE, 3 GO, 4 ABORT. -/
def sendStart (d : Dev) (kind s who : Nat) (pairs : List (Nat × Nat)) : Dev :=
  clQueue d 5 kind (le 6 s ++ le 1 who ++ le 1 pairs.length ++ pairs.flatMap (fun e => le 1 e.1 ++ le 1 e.2))

/-- `cell.start_together` takes effect in frame E: local groups are held; where members take part, START_REQ goes out. -/
def startTogether (d : Dev) (s : Nat) (names : List Nat × List (Nat × Nat)) : Dev :=
  let own := d.cellId
  if names.2.isEmpty then holdGroups d s own true names.1
  else
    let d := holdGroups d s own false names.1
    let d := { d with issue := d.issue ++ [{ from_ := d.esc.maj, s := s, groups := names.1, members := (names.2.map (·.1)).eraseDups }] }
    sendStart d 0 s own names.2

/-- START_REQ committed by a member: its groups are checked and held, and READY or REFUSE goes back. -/
def startReq (d : Dev) (issuer s : Nat) (groups : List Nat) : Dev :=
  if groups.all (fun g => (d.grpCfg g).isSome && startReady d g) then sendStart (holdGroups d s issuer false groups) 1 s issuer []
  else sendStart d 2 s issuer []

/-- READY or REFUSE committed by the issuer. -/
def startReply (d : Dev) (member s : Nat) (ready : Bool) : Dev :=
  { d with issue := d.issue.map (fun i =>
      if i.s = s ∧ i.members.contains member then
        if ready then { i with ready := i.ready ++ [member] } else { i with refused := i.refused ++ [member] }
      else i) }

/-- The replies of a start are due: four major frames after E. GO where every member replied READY, else ABORT. -/
def startDecide (d : Dev) (i : Issue) : Dev :=
  let own := d.cellId
  if i.members.all (fun m => i.ready.contains m && !i.refused.contains m) then startGo (sendStart d 3 i.s own []) i.s own
  else startAbort (sendStart d 4 i.s own []) i.s own

/-- START_DECISION for every start whose replies are due. -/
def startDecision (d : Dev) : Dev :=
  let due := fun (i : Issue) => decide (i.from_ + 4 ≤ d.esc.maj)
  let l := d.issue.filter due
  forEach l startDecide { d with issue := d.issue.filter (fun i => !due i) }

/-! ### What a member commits -/

/-- A master's record: valid, position, speed. -/
def masterTake (d : Dev) (k : Nat) (p : List Byte) : Dev :=
  let m : Master := { valid := (p.getD 0 0).getLsbD 0, pos := sleAt p 8 8, vel := (sleAt p 16 8 : Rat) / 65536 }
  { d with masters := tset {} d.masters k m }

/-- A PEER record as committed in a batch: `l` starts with the class. -/
def peerCommit (d : Dev) (cell sent : Nat) (l : List Byte) : Dev :=
  let cls := leAt l 0 1
  let idx := leAt l 1 1
  let p := l.drop 4
  match cls with
  | 1 =>
    let n := leAt p 1 1
    let cap := fun i => let o := 20 + 56 * i
      ({ p0 := [sleAt p o 8, sleAt p (o + 8) 8, sleAt p (o + 16) 8], p1 := [sleAt p (o + 24) 8, sleAt p (o + 32) 8, sleAt p (o + 40) 8],
         radius := sleAt p (o + 48) 8 } : Capsule)
    lynxMembers d cell [{ arm := idx, capsules := (List.range n).map cap, grow := leAt p 4 8, prio := leAt p 0 1, brakeGrow := leAt p 12 8 }]
  | 2 =>
    let item := fun i => let o := 4 + 48 * i
      ({ source := idx, conn := 256 + cell, x := sleAt p o 8, y := sleAt p (o + 8) 8, vx := sleAt p (o + 16) 8, vy := sleAt p (o + 24) 8,
         radius := sleAt p (o + 32) 8, height := sleAt p (o + 40) 8, frame := sent + 2 } : Track)
    match d.img.run with
    | some im => if im.sources.any (fun e => decide (e.1 = idx)) then lynxTracks d idx (256 + cell) ((List.range (leAt p 0 1)).map item) else d
    | none => d
  | 3 => if idx < 8 then masterTake d (8 + idx) p else d
  | 4 => if idx < 8 then masterTake d idx p else d
  | 5 =>
    let s := leAt p 0 6
    match idx with
    | 0 =>
      let pairs := (List.range (leAt p 7 1)).map (fun i => (leAt p (8 + 2 * i) 1, leAt p (9 + 2 * i) 1))
      let mine := (pairs.filter (fun e => decide (e.1 = d.cellId))).map (·.2)
      if mine.isEmpty then d else startReq d cell s mine
    | 1 => if leAt p 6 1 = d.cellId then startReply d cell s true else d
    | 2 => if leAt p 6 1 = d.cellId then startReply d cell s false else d
    | 3 => startGo d s cell
    | 4 => startAbort d s cell
    | _ => d
  | _ => d

/-- A safe frame or track as committed (R149, R319): Lynx takes its tracks, which a member passes on to the others. -/
def safeCommit (d : Dev) (conn frame : Nat) (pdu : List Byte) : Dev :=
  let x := lynxSafe d conn frame pdu
  if x.lynx.tracks = d.lynx.tracks ∨ x.clState < 3 ∨ x.bad.flash.isEmpty then x
  else match connOf (parseSet x.bad.flash) conn with
    | some c => sendTracks x ((parseSet x.bad.flash).nat 0x24 c .source 0xFF)
    | none => x

end Sys2Proof.Machine
end

