-- ==== Sys2Proof/Machine/CmdOps.lean ====
section
/-!
DEFINITION. The mailbox commands (Table 3-10): what full validation answers, and what each does when it takes effect. A payload byte
beyond those sent reads as 0, and a byte beyond the command's layout must be 0 (R65; log entry 43).
-/
namespace Sys2Proof.Machine
open Fld

/-! ### Answers -/

def ansOk (p : List Byte := []) : Ans := { payload := p }
def ansAcc (p : List Byte := []) : Ans := { status := 1, payload := p }
def ansRange (detail : Nat := 0) : Ans := { status := 0x22, detail := detail }
def ansState (detail : Nat) : Ans := { status := 0x21, detail := detail }
/-- An answer from a status; STATE carries `detail`. -/
def ansOf (status detail : Nat) (p : List Byte := []) : Ans :=
  { status := status, detail := if status = 0x21 then detail else 0, payload := p }
/-- A status and detail as a check gives them. -/
def ansPair (q : Nat × Nat) (p : List Byte := []) : Ans := { status := q.1, detail := q.2, payload := if q.1 < 2 then p else [] }
/-- OK or ACCEPTED: the command takes effect. -/
def Ans.good (a : Ans) : Bool := decide (a.status < 2)

/-- Bytes from `n` on are all 0. -/
def endsAt (p : List Byte) (n : Nat) : Bool := (p.drop n).all (· == 0)

/-! ### session.* (R77, R78, Table 3-6) -/

def checkHello (d : Dev) (r : Request) (e : Nat) : Ans :=
  let p := r.pay
  let s := r.ses
  let v := chooseVersion (leAt p 0 2) (leAt p 2 2)
  if r.effect ≠ 0 ∨ !(decide (leAt p 4 1 = 1) || decide (leAt p 4 1 = 2)) ∨ !zeroAt p 6 2 ∨ !endsAt p 16 then ansRange
  else if r.via.code ≠ 1 ∧ !(zeroAt p 5 1 && zeroAt p 8 8) then ansRange
  else if v = 0 then { status := 0x30 }
  else
    let live := (d.sesCfg s).live
    let img := match d.img.run with | some i => i.hash | none => []
    ansOk (le 2 v ++ le 2 0x0200 ++ le 2 0x0302 ++ le 1 (shareOf d s) ++ le 1 0 ++ padTo 8 (nextNonce d s) ++ le 6 e ++ le 2 live
      ++ (padTo 8 d.pwr.hash).take 8 ++ (padTo 8 img).take 8)

def checkSession (d : Dev) (r : Request) (e : Nat) : Ans :=
  match r.cmd with
  | 0x0101 => checkHello d r e
  | 0x0102 => if endsAt r.pay 0 then ansOk else ansRange
  | _ => if endsAt r.pay 0 then ansOk (le 6 e) else ansRange

def actSession (d : Dev) (r : Request) : Dev :=
  match r.cmd with
  | 0x0101 => openSession d r (chooseVersion (leAt r.pay 0 2) (leAt r.pay 2 2))
  | 0x0102 => closeSession d r.ses 0
  | _ => d

/-! ### cell.* -/

/-- The image an ACTIVATE names fulfils its class's condition (Table 4-7). -/
def checkActivate (d : Dev) (r : Request) (flash : Bool) : Ans :=
  match activateBytes d flash with
  | none => ansState 1
  | some l =>
    if d.running ∧ r.effect = 0 then ansRange
    else
      let cls := changeClass d l
      match classCondition d cls with
      | 0 => ansOk
      | 1 => ansState 2
      | 2 => ansState 2
      | _ => ansState 1

def checkLoad (d : Dev) (r : Request) : Ans :=
  let p := r.pay
  let s := r.ses
  let total := leAt p 4 4
  if !zeroAt p 9 3 ∨ (leAt p 8 1 ≠ 1 ∧ !endsAt p 12) then ansRange
  else match leAt p 8 1 with
    | 1 => ansPair (dataCheck d s (leAt p 0 4) total (p.drop 12))
    | 2 =>
      let q := stagedCheck d s total
      if q.1 ≠ 0 then ansPair q else if d.img.bytes.length = d.img.total then ansAcc else ansRange
    | 3 =>
      let q := stagedCheck d s total
      if q.1 ≠ 0 then ansPair q else if !d.img.validated then ansState 1 else checkActivate d r false
    | 4 =>
      let q := stagedCheck d s total
      if q.1 ≠ 0 then ansPair q else ansPair (storeCheck d)
    | 5 => ansPair (stagedCheck d s total)
    | 6 => checkActivate d r true
    | _ => ansRange

def checkCell (d w : Dev) (r : Request) (e : Nat) : Ans :=
  let p := r.pay
  match r.cmd with
  | 0x0201 => if endsAt p 0 then ansOk (cellStatus w) else ansRange
  | 0x0202 => checkLoad d r
  | 0x0203 =>
    if r.effect ≠ 0 ∧ r.effect ≠ e then ansRange
    else
      let q := startCheck d e p
      ansOf q.1 2 (if q.1 = 0x22 then le 6 q.2 else [])
  | _ =>
    if 1 < leAt p 0 1 ∨ !endsAt p 1 then ansRange
    else if leAt p 0 1 = 0 then ansOk (onlineCounters w)
    else ansPair (selftestCheck d)

def actLoad (b : Blk) (r : Request) (at_ : Nat) : Blk :=
  let d := b.dev
  let p := r.pay
  match leAt p 8 1 with
  | 1 => { b with dev := dataTake d r.ses (leAt p 0 4) (leAt p 4 4) (p.drop 12) }
  | 2 => { b with dev := validateStart d }
  | 3 => match activateBytes d false with | some l => activateImage b l at_ | none => b
  | 4 => { b with dev := storeStart d }
  | 5 => { b with dev := stagingDrop d }
  | 6 => activateFlash b at_
  | _ => b

def actCell (b : Blk) (r : Request) (at_ : Nat) : Blk :=
  match r.cmd with
  | 0x0202 => actLoad b r at_
  | 0x0203 => { b with dev := startTogether b.dev (leAt r.pay 0 6) (startNames b.dev r.pay) }
  | 0x0204 => if leAt r.pay 0 1 = 1 then { b with dev := selftestStart b.dev at_ } else b
  | _ => b

/-! ### arm.* (R129) -/

def checkArm (d w : Dev) (r : Request) : Ans :=
  let p := r.pay
  let g := leAt p 0 1
  if !known d g then ansRange
  else match r.cmd with
    | 0x0301 =>
      if !endsAt p 1 then ansRange
      else if d.state = 7 ∨ armGated d g then ansState 1
      else ansOf (armEnableCheck d g) 2
    | 0x0302 => if endsAt p 1 then ansOf (stopAnswer d g) 0 else ansRange
    | 0x0303 => if endsAt p 1 then ansOf (stopAnswer d g) 0 else ansRange
    | 0x0304 =>
      if !zeroAt p 1 1 ∨ !endsAt p 4 then ansRange
      else let s := armHomeCheck d g (leAt p 2 2); if s = 0 then ansAcc else ansOf s 2
    | 0x0305 => if !zeroAt p 1 1 ∨ !endsAt p 4 ∨ 20000 < leAt p 2 2 then ansRange else ansOk
    | _ => if endsAt p 1 then ansOk (armStatus w g) else ansRange

def actArm (d : Dev) (r : Request) : Dev :=
  let g := leAt r.pay 0 1
  match r.cmd with
  | 0x0301 => armEnable d g
  | 0x0302 => armDisable d g
  | 0x0303 => armStop d g 1
  | 0x0304 => homeBegin d g (leAt r.pay 2 2)
  | 0x0305 => d.setGroup g { d.group g with override_ := leAt r.pay 2 2 }
  | _ => d

/-! ### axis.* (R184) -/

def checkAxis (d w : Dev) (r : Request) : Ans :=
  let p := r.pay
  let n := leAt p 0 1
  if (d.axCfg n).isNone then ansRange
  else match r.cmd with
    | 0x0401 =>
      if !endsAt p 1 then ansRange
      else if axFreeCheck d n ≠ 0 then ansOf (axFreeCheck d n) 2
      else if d.state = 7 ∨ axisGated d n then ansState 1
      else ansOf (axEnableCheck d n) 2
    | 0x0402 =>
      if !endsAt p 1 then ansRange
      else let s := axFreeCheck d n; if s ≠ 0 then ansOf s 2 else if (axDisable d n).2 then ansAcc else ansOk
    | 0x0403 => if endsAt p 12 then ansOf (axLawCheck d n (leAt p 1 1) (leAt p 2 1) (leAt p 3 1) (sleAt p 4 8)) 2 else ansRange
    | 0x0404 =>
      if !zeroAt p 1 1 ∨ !endsAt p 4 then ansRange
      else let s := axCalCheck d n (leAt p 2 2); if s = 0 then ansAcc else ansOf s 2
    | _ => if !zeroAt p 1 3 ∨ !endsAt p 8 then ansRange else ansOk (axStatus w n (leAt p 4 4)).1

def actAxis (d : Dev) (r : Request) : Dev :=
  let p := r.pay
  let n := leAt p 0 1
  match r.cmd with
  | 0x0401 => axEnergise d n
  | 0x0402 => (axDisable d n).1
  | 0x0403 => axLaw d n (leAt p 1 1) (leAt p 2 1) (leAt p 3 1) (sleAt p 4 8)
  | 0x0404 => calStart d n (leAt p 2 2)
  | _ => (axStatus d n (leAt p 4 4)).2

/-! ### seg.* (Table 5-2) -/

/-- Types of a request's entries that a 2.x session may not send (Table 3-7). -/
def newTypes (p : List Byte) : Bool :=
  (List.range (min 3 (leAt p 1 1))).any (fun i => decide (4 + 64 * i < p.length) && [2, 3, 4, 8].contains (leAt p (4 + 64 * i) 1))

/-- Credits that a request draws (R81). -/
def creditsOf (d : Dev) (r : Request) : Nat :=
  if r.cmd = 0x0501 then match appendEntries d r.pay with | some l => (l.map Entry.size).sum | none => 0 else 0

def checkAppend (d : Dev) (r : Request) : Ans :=
  let g := leAt r.pay 0 1
  if r.ver / 256 = 2 ∧ newTypes r.pay then { status := 0x23 }
  else match appendEntries d r.pay with
    | none => ansRange
    | some l =>
      if !appendState d g l then ansState 2
      else if d.rmt.credits < (l.map Entry.size).sum then { status := 0x10, detail := 2 }
      else if !appendRoom d g l then { status := 0x11, detail := 1 }
      else ansOk

def checkSeg (d w : Dev) (r : Request) : Ans :=
  let g := leAt r.pay 0 1
  match r.cmd with
  | 0x0501 => checkAppend d r
  | 0x0502 => if known d g && endsAt r.pay 1 then (if (d.group g).st = .moving then ansAcc else ansOk) else ansRange
  | _ => if known d g && endsAt r.pay 1 then ansOk (segStatus w g) else ansRange

def actSeg (d : Dev) (r : Request) : Dev :=
  let g := leAt r.pay 0 1
  match r.cmd with
  | 0x0501 => match appendEntries d r.pay with | some l => segAppend d g l | none => d
  | 0x0502 => segFlush d g
  | _ => d

/-! ### io.* (R281, R393, R406) -/

/-- A compare unit that the image configures. -/
def cmpConfigured (d : Dev) (u : Nat) : Bool :=
  match d.img.run with
  | some im => decide (u < 32) && decide (d.f (CMP_CFG_CHAN u) < 24) && im.regs.any (fun e => decide (e.2.1 = (CMP_CFG_CHAN u).addr))
  | none => false

def checkCompare (d : Dev) (p : List Byte) : Ans :=
  let u := leAt p 0 1
  let ch := d.f (CMP_CFG_CHAN u)
  let t := sleAt p 2 6
  if 1 < leAt p 1 1 ∨ !endsAt p 8 ∨ !cmpConfigured d u then ansRange
  else if d.f (CMP_CFG_MODE u) = 2 ∧ !(decide (0 ≤ t) && decide (t < fbMod d ch) && decide (2 ≤ fbMod d ch) && decide (d.f (CMP_CFG_DIR u) ≤ 1)) then ansRange
  else if cmpOwned d u || !d.b (FB_STAT_VALID ch) then ansState 2
  else if leAt p 1 1 = 1 then ansAcc else ansOk

def checkIo (d w : Dev) (r : Request) : Ans :=
  let p := r.pay
  let t := leAt p 0 1
  match r.cmd with
  | 0x0601 =>
    if t = 0 then
      if !zeroAt p 1 1 ∨ !endsAt p 10 then ansRange
      else match fieldWriteCheck d (BitVec.ofNat 32 (leAt p 2 4)) with | 0 => ansOk | 1 => ansRange | _ => ansState 2
    else if t = 0x10 ∨ t = 0x11 then
      let n := t - 0x10
      if 1 < leAt p 3 1 ∨ !canWriteOk d n (leAt p 1 1) (leAt p 2 1) then ansRange
      else if !endsAt p (4 + dlcLen true (leAt p 2 1)) then ansRange else ansOk
    else ansRange
  | 0x0602 =>
    if t = 1 then (if endsAt p 1 then ansOk (fieldRead w) else ansRange)
    else if t = 0x10 ∨ t = 0x11 then
      if 64 ≤ leAt p 1 1 ∨ !endsAt p 2 ∨ canDelegated d (t - 0x10) then ansRange else ansOk (canRead w (t - 0x10) (leAt p 1 1)).1
    else ansRange
  | _ => checkCompare d p

def actIo (d : Dev) (r : Request) (at_ : Nat) : Dev :=
  let p := r.pay
  let t := leAt p 0 1
  match r.cmd with
  | 0x0601 =>
    if t = 0 then fieldWrite d (BitVec.ofNat 32 (leAt p 2 4)) (BitVec.ofNat 32 (leAt p 6 4)) at_
    else canWrite d (t - 0x10) (leAt p 1 1) (leAt p 2 1) (p.drop 4) (decide (leAt p 3 1 = 1))
  | 0x0602 => if t = 1 then d else (canRead d (t - 0x10) (leAt p 1 1)).2
  | _ => cmpStageTarget d (leAt p 0 1) (sleAt p 2 6) (decide (leAt p 1 1 = 1))

/-! ### time.* (R355, R372) -/

def checkTime (d w : Dev) (r : Request) : Ans :=
  match r.cmd with
  | 0x0701 => if endsAt r.pay 0 then ansOk (timeStatus w) else ansRange
  | _ => if !endsAt r.pay 8 then ansRange else if permitOk d then ansAcc else ansState 2

def actTime (d : Dev) (r : Request) : Dev := if r.cmd = 0x0702 then permitStep d (leAt r.pay 0 8) else d

/-! ### record.*, dump.*, test.result (R416, R417, R427) -/

def ansBytes : Option (List Byte) → Ans
  | some l => ansOk l
  | none => ansRange

def checkRecord (d : Dev) (r : Request) : Ans :=
  match r.cmd with
  | 0x0801 => if recReadOk r.pay && endsAt r.pay 12 then ansOk (recRead d r.pay) else ansRange
  | _ => if endsAt r.pay 6 then ansBytes (commitRead d r.pay) else ansRange

def checkTest (d w : Dev) (r : Request) : Ans :=
  match r.cmd with
  | 0x0B01 => if endsAt r.pay 0 then ansOk (testResult w) else ansRange
  | 0x0B02 => if endsAt r.pay 6 then ansBytes (dumpRead d r.pay) else ansRange
  | _ => if endsAt r.pay 0 then ansOk else ansRange

/-! ### safety.* (R322 to R326) -/

/-- Parts of a set follow R97. -/
def putCheck (d : Dev) (ses : Nat) (p : List Byte) : Nat × Nat :=
  let data := p.drop 12
  let ofs := leAt p 0 4
  let total := leAt p 4 4
  let x := d.bad
  if x.owner.isSome ∧ x.owner ≠ some ses then (0x21, 3)
  else match leAt p 8 1 with
    | 1 =>
      if data.isEmpty ∨ 212 < data.length ∨ 65536 < total then (0x22, 0)
      else if ofs = 0 then (if data.length ≤ total then (0, 0) else (0x22, 0))
      else if x.owner.isNone then (0x21, 3)
      else if ofs ≠ x.bytes.length ∨ total ≠ x.total ∨ total < ofs + data.length then (0x22, 0)
      else (0, 0)
    | 5 => if x.owner.isNone then (0x21, 3) else if total ≠ x.total ∨ !endsAt p 12 then (0x22, 0) else (0, 0)
    | _ => (0x22, 0)

def putTake (d : Dev) (ses : Nat) (p : List Byte) : Dev :=
  if leAt p 8 1 = 5 then { d with bad := { d.bad with owner := none, total := 0, bytes := [] } }
  else if leAt p 0 4 = 0 then { d with bad := { d.bad with owner := some ses, total := leAt p 4 4, bytes := p.drop 12 } }
  else { d with bad := { d.bad with bytes := d.bad.bytes ++ p.drop 12 } }

def checkSafety (b : Blk) (w : Dev) (r : Request) : Ans :=
  let p := r.pay
  match r.cmd with
  | 0x0901 => if endsAt p 0 then ansOk (safetyStatus w) else ansRange
  | 0x0902 => if zeroAt p 9 3 then ansPair (putCheck b.dev r.ses p) else ansRange
  | _ =>
    if !endsAt p 4 then ansRange
    else match commitCheck b (leAt p 0 4) with
      | some f => { status := f.status, detail := f.detail }
      | none => ansAcc

def actSafety (b : Blk) (r : Request) : Blk :=
  match r.cmd with
  | 0x0902 => { b with dev := putTake b.dev r.ses r.pay }
  | 0x0903 => commitSet b
  | _ => b

/-! ### power.* (R432, R444, R445) -/

def powerReq (p : List Byte) : PReq := { target := leAt p 0 1, mask := leAt p 1 1, timer := leAt p 4 4 }

def checkPower (d : Dev) (r : Request) : Ans :=
  let p := r.pay
  match r.cmd with
  | 0x0A01 => if 32 ≤ leAt p 1 1 ∨ !zeroAt p 2 2 ∨ !endsAt p 8 then ansRange else ansPair (powerCheck d (powerReq p))
  | _ => if !endsAt p 2 then ansRange else ansPair (vcoreCheck d (leAt p 0 2)) (le 2 (d.f VCORE_STATUS_CONFIRMED) ++ le 2 vcoreMin)

def actPower (b : Blk) (r : Request) (at_ : Nat) : Blk :=
  match r.cmd with
  | 0x0A01 => powerAct b (powerReq r.pay) at_
  | _ => { b with dev := vcoreStart b.dev (leAt r.pay 0 2) }

/-! ### Every command -/

/-- Command codes of Table 3-10. -/
def knownCmd (c : Nat) : Bool :=
  let lim := ([(1, 3), (2, 4), (3, 6), (4, 5), (5, 3), (6, 3), (7, 2), (8, 2), (9, 3), (10, 2), (11, 3)] : List (Nat × Nat))
  lim.any (fun e => decide (c / 256 = e.1) && decide (1 ≤ c % 256) && decide (c % 256 ≤ e.2))

/-- Queries: what they answer from is the state at the start of frame E − 1 (R85). -/
def isQuery (c : Nat) : Bool := [0x0103, 0x0201, 0x0306, 0x0405, 0x0503, 0x0602, 0x0701, 0x0801, 0x0802, 0x0901, 0x0B01, 0x0B02].contains c

/-- Commands accepted in CONFIG-WAIT (Table 3-10), in SAFE-TALK (R89), in STANDBY (R446). -/
def waitCmds : List Nat := [0x0101, 0x0102, 0x0103, 0x0201, 0x0202, 0x0204, 0x0801, 0x0802, 0x0B01, 0x0B02, 0x0B03]
def safeCmds : List Nat := [0x0101, 0x0102, 0x0201, 0x0801, 0x0B02]
def standbyCmds : List Nat := [0x0101, 0x0102, 0x0103, 0x0201, 0x0801, 0x0A01]

/-- Is the command accepted in the present device state? Its refusal otherwise; while fatal handling runs no command is taken
(DESIGN CHOICE, log entry 68). -/
def stateCheck (d : Dev) (c : Nat) : Option Ans :=
  if notReady d ∨ d.pwr.rail ≠ .on ∨ d.pwr.restart.isSome ∨ d.rec_.fatal.isSome then some { status := 0x10, detail := 3 }
  else if d.pwr.selftest.isSome ∧ c ≠ 0x0201 ∧ c ≠ 0x0B01 then some { status := 0x10, detail := 3 }
  else if d.state = 3 ∧ !safeCmds.contains c then some (ansState 0x10)
  else if d.state = 4 ∧ !waitCmds.contains c then some (ansState 1)
  else if d.state = 9 ∧ !standbyCmds.contains c then some (ansState 1)
  else none

/-- Full validation of request `r`, to take effect in frame `e`, against the block `b`; queries answer from `w`. -/
def cmdCheck (b : Blk) (w : Dev) (r : Request) (e : Nat) : Ans :=
  let d := b.dev
  match r.cmd / 256 with
  | 1 => checkSession d r e
  | 2 => checkCell d w r e
  | 3 => checkArm d w r
  | 4 => checkAxis d w r
  | 5 => checkSeg d w r
  | 6 => checkIo d w r
  | 7 => checkTime d w r
  | 8 => checkRecord d r
  | 9 => checkSafety b w r
  | 10 => checkPower d r
  | _ => checkTest d w r

/-- A command takes effect at `at_`. -/
def cmdAct (b : Blk) (r : Request) (at_ : Nat) : Blk :=
  let d := b.dev
  match r.cmd / 256 with
  | 1 => { b with dev := actSession d r }
  | 2 => actCell b r at_
  | 3 => { b with dev := actArm d r }
  | 4 => { b with dev := actAxis d r }
  | 5 => { b with dev := actSeg d r }
  | 6 => { b with dev := actIo d r at_ }
  | 7 => { b with dev := actTime d r }
  | 9 => actSafety b r
  | 10 => actPower b r at_
  | _ => if r.cmd = 0x0B03 then { b with dev := dumpClear d r.ses } else b

/-- Records that a refusal raises besides its answer: SAFETY_SET_REFUSED (R323), IMAGE_REFUSED with step 11 (R98). -/
def refusal (b : Blk) (r : Request) (d : Dev) : Dev :=
  if r.cmd = 0x0903 then
    match commitCheck b (leAt r.pay 0 4) with
    | some f => d.raise 0x5041 0xFFFF f.step f.info f.chan
    | none => d
  else if r.cmd = 0x0202 ∧ (leAt r.pay 8 1 = 3 ∨ leAt r.pay 8 1 = 6) then
    match activateBytes b.dev (decide (leAt r.pay 8 1 = 6)) with
    | some l =>
      let cls := changeClass b.dev l
      let k := classCondition b.dev cls
      if k = 0 ∨ (leAt r.pay 8 1 = 3 ∧ (!b.dev.img.validated ∨ b.dev.img.owner ≠ some r.ses)) then d
      else imageRefused d (loadImage l) { step := 11, detail := cls + 256 * k }
    | none => d
  else d

/-- Segment credits drawn by an admitted request (R81). -/
def drawCredits (d : Dev) (r : Request) : Dev := { d with rmt := { d.rmt with credits := d.rmt.credits - creditsOf d r } }

/-- What queries see: in a time base the snapshot of the present frame's start, else the present state. -/
def Blk.view (b : Blk) : Dev := if b.dev.running then b.was else b.dev

/-- The answer `a` of command `c` of session `s`, which takes effect in frame `f`: kept in `Dev.ans`; in a time base the session has
committed a request (R78). -/
def Dev.settle (d : Dev) (s c f : Nat) (a : Ans) : Dev :=
  let x := d.session s
  let d := if d.running && c ≠ 0x0102 then d.setSession s { x with lastCommit := max x.lastCommit f } else d
  { d with ans := (s, { a with effect := if a.good then f else 0 }) }

/-- Frame in which a command taken as a row of its own takes effect: the present one, 0 outside a time base. -/
def Dev.now (d : Dev) : Nat := if d.running then d.esc.maj else 0

/-- Request `r`, taken as a row of its own, as it takes effect in the present frame: validation, the command's effect, its answer
in `Dev.ans`. -/
def runReq (r : Request) (b : Blk) : Blk :=
  let d := b.dev
  let f := d.now
  let a := match stateCheck d r.cmd with | some a => a | none => cmdCheck b b.view r f
  let b' := if a.good then cmdAct { b with dev := drawCredits d r } r d.esc.majAt
            else if (stateCheck d r.cmd).isSome then b else { b with dev := refusal b r d }
  { b' with dev := b'.dev.settle r.ses r.cmd f a }

/-- A mailbox command as a row of its own: command `cmd` of session `ses` on the session's transport, its next sequence number,
EFFECT the present frame. -/
def rowRequest (d : Dev) (ses cmd : Nat) (pay : List Byte) : Request :=
  let via : Via := match (d.sesCfg ses).transport with | 1 => .eth 0 0 | 2 => .spi | _ => .pcie
  { mkRequest ses ((d.session ses).seq + 1) cmd d.now pay with via := via }

def runRow (ses cmd : Nat) (pay : List Byte) (b : Blk) : Blk := runReq (rowRequest b.dev ses cmd pay) b

end Sys2Proof.Machine
end

