-- ==== Sys2Proof/Machine/SealOps.lean ====
section
/-!
DEFINITION. Remontoire: triage, budgets and full validation of a batch, the pending store, the commit log, release of a batch, and
requests outside a time base (R45 to R56, R80 to R86).
-/
namespace Sys2Proof.Machine
open Fld

/-! ### Triage (R45, R49, R65, Table 3-7) -/

/-- Triage of one request by its header; none where it goes on. -/
def triageOne (d : Dev) (r : Request) : Option Ans :=
  let v2 := decide (r.ver / 256 = 2)
  if r.flags / 2 ≠ 0 ∨ !zeroAt r.raw 5 1 ∨ !zeroAt r.raw 15 1 ∨ !zeroAt r.raw 22 6 ∨ (v2 ∧ !zeroAt r.raw 14 14) then some ansRange
  else if r.link ∧ r.ver ≠ 0x0302 then some ansRange
  else if 2 < r.policy ∨ (r.ver = 0x0300 ∧ r.policy = 2) then some ansRange
  else if !knownCmd r.cmd ∨ (v2 ∧ [3, 9, 10].contains (r.cmd / 256)) then some { status := 0x23 }
  else stateCheck d r.cmd

/-- The members of a unit all get their own answer, those without one STATE, detail 5; none where no member has one (R82). -/
def spread (l : List (Option Ans)) : Option (List Ans) :=
  if l.all (·.isNone) then none else some (l.map (fun a => a.getD (ansState 5)))

def triage (d : Dev) (u : List Request) : Option (List Ans) :=
  let r0 := u.headD {}
  if 1 < u.length ∧ (16 < u.length ∨ u.any (fun r => decide (r.effect ≠ r0.effect) || decide (r.policy ≠ r0.policy))) then
    some (u.map (fun _ => ansRange))
  else spread (u.map (triageOne d))

/-- Outcome of Table 2-6 for E = `n` + 1. -/
inductive Timing where
  | run (late : Bool)
  | hold (f : Nat)
  | refuse (status : Nat)
deriving DecidableEq, Repr, Inhabited

def timing (d : Dev) (r : Request) (n : Nat) : Timing :=
  let f := r.effect
  let pol := if r.policy = 0 then (d.session r.ses).policy else r.policy
  if f = 0 ∨ f = n + 1 then .run false
  else if n + 65536 < f then .refuse 0x22
  else if n + 1 < f then .hold f
  else if pol = 1 then .refuse 0x20 else .run true

/-! ### Budget (R80, R82, R83) -/

/-- A unit of requests that stands as one: a single request or a chain; taken from the store; late; to be held for a frame. -/
structure Item where
  reqs : List Request := []
  held : Bool := false
  late : Bool := false
  fut : Option Nat := none
deriving DecidableEq, Repr, Inhabited

def Item.ses (x : Item) : Nat := (x.reqs.headD {}).ses
def Item.seq (x : Item) : Nat := (x.reqs.headD {}).seq

/-- Order of R51 within host requests, held commands first where the shares are given out. -/
def itemBefore (heldFirst : Bool) (x y : Item) : Bool :=
  lexLt [x.ses, if heldFirst && !x.held then 1 else 0, x.seq] [y.ses, if heldFirst && !y.held then 1 else 0, y.seq]

/-- First pass: shares. Answers the items admitted and left over, and commands admitted. -/
def sharePass (d : Dev) : List Item → Tab Nat → List Item × List Item × Nat
  | [], _ => ([], [], 0)
  | x :: l, used =>
    let k := x.reqs.length
    let u := tget 0 used x.ses
    if u + k ≤ shareOf d x.ses then
      let q := sharePass d l (tset 0 used x.ses (u + k))
      (x :: q.1, q.2.1, q.2.2 + k)
    else
      let q := sharePass d l used
      (q.1, x :: q.2.1, q.2.2)

/-- Second pass: the pool. Answers the items admitted and shed. -/
def poolPass : List Item → Nat → List Item × List Item
  | [], _ => ([], [])
  | x :: l, pool =>
    let k := x.reqs.length
    if k ≤ pool then let q := poolPass l (pool - k); (x :: q.1, q.2) else let q := poolPass l pool; (q.1, x :: q.2)

/-- Both passes over the items of a batch: admitted in the order of R51, and shed. -/
def budget (d : Dev) (l : List Item) : List Item × List Item :=
  let a := sharePass d (sortBy (itemBefore true) l) []
  let p := poolPass a.2.1 (64 - a.2.2)
  (sortBy (itemBefore false) (a.1 ++ p.1), p.2)

/-! ### Full validation (R82, R85) -/

/-- What sealing takes into account of the batch before a request: commands on groups, axes, segments, outputs, staging and starts as
if they had acted. -/
def project (b : Blk) (r : Request) (at_ : Nat) : Blk :=
  let b := { b with dev := drawCredits b.dev r }
  let c := r.cmd
  let op := leAt r.pay 8 1
  if [3, 4, 5, 6, 7].contains (c / 256) ∨ c = 0x0203 ∨ c = 0x0902 ∨ c = 0x0A02 ∨ (c = 0x0202 ∧ op ≠ 3 ∧ op ≠ 6) then cmdAct b r at_ else b

/-- Validation of a unit, member by member; where one fails it carries its own status and none is applied. -/
def runUnit (act : Blk → Request → Blk) (w : Dev) (e : Nat) : Blk → List Request → List Ans × Option Blk
  | b, [] => ([], some b)
  | b, r :: l =>
    let a := cmdCheck b w r e
    if a.good then
      let q := runUnit act w e (act b r) l
      match q.2 with
      | some b' => (a :: q.1, some b')
      | none => (ansState 5 :: q.1, none)
    else (a :: l.map (fun _ => ansState 5), none)

/-- Records of the member that failed. -/
def unitRefusal (b : Blk) (l : List (Request × Ans)) (d : Dev) : Dev :=
  forEach (l.filter (fun e => !e.2.good && !(e.2.status = 0x21 && e.2.detail = 5))) (fun d e => refusal b e.1 d) d

/-! ### Answers of a batch -/

/-- Answers of a unit: EFFECT where it is applied, CUT the frame of the cutoff. -/
def answerAll (d : Dev) (u : List Request) (l : List Ans) (flags : Nat) (e cut : Nat) : Dev :=
  forEach (u.zip l) (fun d x => answerReq d x.1 (if x.2.good then flags else 0) x.2.status x.2.detail (if x.2.good then e else 0) cut x.2.payload) d

/-- HELD_REFUSED (R83, R85). -/
def heldRefused (d : Dev) (r : Request) (status : Nat) : Dev := d.raise 0xA011 r.ses r.ses r.seq status

/-! ### Sealing -/

/-- The sealing task at work: the device, the projected block, the batch so far. -/
structure Sealing where
  dev : Dev := {}
  proj : Blk := {}
  out : List Admitted := []
deriving Inhabited

/-- Commands in the pending store. -/
def heldCount (l : List Held) : Nat := (l.map (fun h => h.reqs.length)).sum

/-- Triage and R49 for one unit: items that go on, or its answer. -/
def sealTriage (n : Nat) (s : Dev × List Item) (u : List Request) : Dev × List Item :=
  let d := s.1
  let cut := n % 2 ^ 32
  match triage d u with
  | some l => (answerAll d u l 0 0 cut, s.2)
  | none => match timing d (u.headD {}) n with
    | .refuse st => (answerAll d u (u.map (fun _ => { status := st })) 0 0 cut, s.2)
    | .run late => (d, s.2 ++ [{ reqs := u, late := late }])
    | .hold f =>
      let holds := ((s.2.filter (fun x => x.fut.isSome)).map (fun x => x.reqs.length)).sum
      if 512 < heldCount d.rmt.pending + holds + u.length then
        (answerAll (d.setB RMT_FLAGS_PEND_FULL true) u (u.map (fun _ => { status := 0x11, detail := 2 })) 0 0 cut, s.2)
      else (d, s.2 ++ [{ reqs := u, fut := some f }])

/-- Lost stops of the sessions up to `s`, ahead of their other requests (R79). -/
def lostUpTo (s : Nat) (x : Sealing) : Sealing :=
  let now := x.dev.rmt.lost.filter (fun e => decide (e.1 ≤ s))
  let reqs := now.map (fun e => ({ req := { mkRequest e.1 0 0x0303 0 (le 1 e.2) with lost := true }, status := 1 } : Admitted))
  { x with dev := { x.dev with rmt := { x.dev.rmt with lost := x.dev.rmt.lost.filter (fun e => decide (s < e.1)) } }, out := x.out ++ reqs }

/-- An admitted item: held for its frame, or validated and answered. -/
def sealItem (w : Dev) (n at_ : Nat) (x : Sealing) (it : Item) : Sealing :=
  let x := lostUpTo it.ses x
  let d := x.dev
  let cut := n % 2 ^ 32
  match it.fut with
  | some f =>
    let k := heldCount (d.rmt.pending.filter (fun h => decide (h.frame = f)))
    if 32 < k + it.reqs.length then { x with dev := answerAll d it.reqs (it.reqs.map (fun _ => { status := 0x11, detail := 3 })) 0 0 cut }
    else
      let d := { d with rmt := { d.rmt with pending := d.rmt.pending ++ [{ frame := f, reqs := it.reqs.map (fun r => { r with held := true }) }] } }
      { x with dev := answerAll d it.reqs (it.reqs.map (fun _ => ansAcc)) 4 f cut }
  | none =>
    let q := runUnit (fun b r => project b r at_) w (n + 1) x.proj it.reqs
    let l := it.reqs.zip q.1
    match q.2 with
    | some p =>
      let d := answerAll d it.reqs q.1 (if it.late then 1 else 0) (n + 1) cut
      { x with dev := { d with rmt := { d.rmt with credits := p.dev.rmt.credits } }, proj := p,
               out := x.out ++ l.map (fun e => { req := e.1, status := e.2.status }) }
    | none =>
      let d := unitRefusal x.proj l d
      if it.held then { x with dev := forEach l (fun d e => heldRefused d e.1 e.2.status) d }
      else { x with dev := answerAll d it.reqs q.1 0 0 cut }

/-- Items that found share and pool spent (R80): BUSY, BUDGET_SHED; held commands HELD_REFUSED. -/
def sealShed (d : Dev) (l : List Item) (n : Nat) : Dev :=
  let fresh := l.filter (fun x => !x.held)
  let d := forEach l (fun d x =>
    if x.held then forEach x.reqs (fun d r => heldRefused d r 0x10) d
    else answerAll d x.reqs (x.reqs.map (fun _ => { status := 0x10, detail := 1 })) 0 0 (n % 2 ^ 32)) d
  forEach ((fresh.map Item.ses).eraseDups) (fun d s =>
    d.raise 0xA010 s s ((fresh.filter (fun x => decide (x.ses = s))).map (fun x => x.reqs.length)).sum 1) d

/-! ### The commit log (R52 to R55, Tables 2-9, 2-10) -/

/-- Place of a frame input within a batch (Table 2-8). -/
def inputKey (x : Stamped) : List Int :=
  match x.input with
  | .demand ch .. => [1, ch]
  | .peer cell order _ _ => [2, cell, order]
  | .latch src _ t _ => [3, t, src]
  | .snapshot _ _ => [4]
  | .can ctl order _ => [5, ctl, order]
  | .safe port conn seq _ _ => [6, port, conn, seq]

/-- Log entry of a frame input. -/
def inputEntry (x : Stamped) : LogEntry :=
  match x.input with
  | .demand ch v a b => { cls := 0x0A, source := ch, body := le 1 ch ++ le 1 v ++ le 2 a ++ le 2 b }
  | .peer cell _ _ l => { cls := 9, source := cell, body := le 1 cell ++ l }
  | .latch src p t lv => { cls := 6, source := src, body := le 1 src ++ le 1 lv.toNat ++ sle 6 p ++ le 8 t }
  | .snapshot s v => { cls := 5, body := le 4 s.toNat ++ le 4 v.toNat }
  | .can ctl _ e =>
    { cls := 7, source := ctl,
      body := le 1 ctl ++ le 1 (e.frame.xtd.toNat + 2 * e.frame.rtr.toNat + 4 * e.frame.esi.toNat + 8 * e.frame.fdf.toNat + 16 * e.frame.brs.toNat)
        ++ le 1 e.frame.dlc ++ le 1 e.filter ++ le 4 e.frame.ident ++ le 2 e.ofs ++ le 6 e.maj ++ e.frame.data }
  | .safe port _ _ _ l => { cls := 8, source := port, body := le 1 (port + 1) ++ l }

/-- Entries of the ring that its 2 MiB hold, newest first. -/
def ringFit : List LogEntry → Nat → List LogEntry
  | [], _ => []
  | e :: l, room => let k := (logBytes e).length; if k ≤ room then e :: ringFit l (room - k) else []

/-- Entries join the retention ring (R55). -/
def ringLog (d : Dev) (l : List LogEntry) : Dev :=
  { d with rmt := { d.rmt with ring := ringFit (l.reverse ++ d.rmt.ring) (2 ^ 21),
                               ringPos := (d.rmt.ringPos + (l.map (fun e => (logBytes e).length)).sum) % 2 ^ 32 } }

/-- Entries of a datagram, at most 1,452 bytes of them: taken, left. -/
def packOne : List (Nat × LogEntry) → Nat → List (Nat × LogEntry) × List (Nat × LogEntry)
  | [], _ => ([], [])
  | e :: l, room => let k := (logBytes e.2).length; if k ≤ room then let q := packOne l (room - k); (e :: q.1, q.2) else ([], e :: l)

def packAll : Nat → List (Nat × LogEntry) → List (List (Nat × LogEntry))
  | 0, _ => []
  | _ + 1, [] => []
  | n + 1, l => let q := packOne l 1452; if q.1.isEmpty then packAll n (l.drop 1) else q.1 :: packAll n q.2

/-- One datagram (Table 2-10). -/
def logDatagram (d : Dev) (l : List (Nat × LogEntry)) : Dev :=
  let dev := match d.img.run with | some i => i.lineDev | none => 0
  let body := le 2 1 ++ le 3 dev ++ le 1 d.rmt.gapBefore.toNat ++ le 4 d.rmt.dgram ++ le 6 ((l.headD (0, {})).1) ++ l.flatMap (fun e => logBytes e.2)
  let d := d.emit (.logDatagram (d.f RMT_LOG_CFG_PORT) (body ++ le 4 (crc32c body)))
  { d with rmt := { d.rmt with dgram := (d.rmt.dgram + 1) % 2 ^ 32, gapBefore := false } }

/-- The log is sent as far as the port takes it, `room` datagrams; the rest is dropped, counted and reported (R54). -/
def sendLog (d : Dev) (l : List (Nat × LogEntry)) (room : Nat) : Dev :=
  if !d.b RMT_LOG_CFG_EN then d
  else
    let l := match d.rmt.gap with
      | some g => if room = 0 then l else (g.1, { cls := 0x0F, minor := 0xFF, body := le 6 g.1 ++ le 6 g.2.1 }) :: l
      | none => l
    let d := if room = 0 then d else { d with rmt := { d.rmt with gap := none } }
    let ds := packAll (l.length + 1) l
    let d := forEach (ds.take room) logDatagram d
    let lost := (ds.drop room).flatten
    match lost with
    | [] => d
    | e :: _ =>
      let k := lost.length
      let last := (lost.getLastD e).1
      let d := (d.count RMT_LOG_GAP_GAPS k).setB RMT_FLAGS_LOG_GAP true
      let g := match d.rmt.gap with | some g => (g.1, last, g.2.2 + k) | none => (e.1, last, k)
      { d with rmt := { d.rmt with gapBefore := true, gap := some g } }.raise 0x1020 0xFFFF (e.1 % 2 ^ 32) (last % 2 ^ 32) k

/-- The log of a sealing: samples taken since the previous one, the frame start of the batch's frame, the batch's frame inputs. -/
def logBatch (d : Dev) (inputs : List Stamped) (reqs : List Request) (n room : Nat) : Dev :=
  let ins := inputs.map inputEntry ++ reqs.map (fun r => ({ cls := 2, source := r.ses, body := r.raw } : LogEntry))
  let ins := ins.zipIdx.map (fun e => { e.1 with minor := 0xFF, order := e.2 + 1 })
  let start : LogEntry := { cls := 1, minor := 0xFF, body := le 6 (n + 1) ++ le 2 ins.length }
  let l := d.rmt.samples.map (fun e => (n, e)) ++ ((start :: ins).map (fun e => (n + 1, e)))
  let d := ringLog { d with rmt := { d.rmt with samples := [] } } (l.map (·.2))
  sendLog d l room

/-! ### Cutoff (R48, R50) -/

/-- Safe copies that still wait in the ring of P3 or P4. -/
def safeWaiting (l : List Stamped) (n : Nat) : Nat :=
  (l.filter (fun x => match x.input with | .safe p .. => decide (p = n) | _ => false)).length

/-- The rings of P3 and P4 follow the inputs that wait (R347). -/
def safeRings (d : Dev) : Dev :=
  forEach [2, 3] (fun d n => d.setEth n { d.ethp n with safe := min (d.ethp n).safe (safeWaiting d.rmt.inputs n) }) d

/-- Frame inputs of a batch: with a safety frame's end the Badgers' demands, those waiting that were stamped before the cutoff, the snapshot, the CAN frames. -/
def sealInputs (d : Dev) (at_ : Nat) (fieldOk : Bool) : Dev × List Stamped :=
  let live := !d.replaying
  let d := if live then d else { d with rmt := { d.rmt with inputs := d.rmt.inputs.filter (·.replay) } }
  let due := fun (x : Stamped) => decide (x.stamp < at_) && decide (x.frame ≤ d.esc.maj)
  let l := d.rmt.inputs.filter due
  let d := latchNew (safeRings { d with rmt := { d.rmt with inputs := d.rmt.inputs.filter (fun x => !due x) } })
  let s := fieldSnapshot d fieldOk
  let c0 := canTake d 0
  let c1 := canTake c0.1 1
  let can := fun n (es : List CanElem) => es.zipIdx.map (fun e => ({ stamp := at_, frame := d.esc.maj, input := .can n e.2 e.1 } : Stamped))
  let dem := if d.bad.learned then [0, 1].map (fun c =>
      ({ stamp := at_, frame := d.esc.maj, input := .demand c (d.f (SAFE_CH_IN_LEVEL c)) d.bad.ss1 d.bad.sto } : Stamped)) else []
  let all := if !live then l else
    dem ++ l ++ [{ stamp := at_, frame := d.esc.maj, input := .snapshot s.1 s.2 }] ++ can 0 c0.2 ++ can 1 c1.2
  let done := if live then c1.1 else d
  ({ done with bad := { done.bad with learned := false } }, sortBy (fun x y => lexLt (inputKey x) (inputKey y)) all)

/-- The cutoff of the present major frame: the batch of the next one is validated, budgeted, answered, ordered and logged. `room`:
datagrams the log port takes; `fieldOk`: the field die answered. -/
def cutoff (b : Blk) (at_ room : Nat) (fieldOk : Bool) : Blk :=
  let d := b.dev
  if !d.running || d.rmt.sealed.isSome || d.rec_.fatal.isSome then b
  else
    let n := d.esc.maj
    let d := d.setB RMT_STATUS_SEALING true
    let d := if (n + 1) % max 1 d.P = 0 then { d with rmt := { d.rmt with credits := 256 } } else d
    let d := forEach (List.range 32) chainTimeout d
    let d := fieldFeedAll d at_
    let ins := sealInputs d at_ fieldOk
    let d := ins.1
    let early := fun (u : List Request) => decide ((u.headD {}).stamp < at_) && (d.replaying == (u.headD {}).replay)
    let units := sortBy (fun (x y : List Request) => lexLt [(x.headD {}).ses, (x.headD {}).seq] [(y.headD {}).ses, (y.headD {}).seq])
      (d.rmt.reqs.filter early)
    let d := { d with rmt := { d.rmt with reqs := d.rmt.reqs.filter (fun u => !early u) } }
    let d := forEach units.flatten (fun d r => d.setSession r.ses { d.session r.ses with lastCommit := max (d.session r.ses).lastCommit (n + 1) }) d
    let tr := units.foldl (sealTriage n) (d, [])
    let mine := tr.1.rmt.pending.filter (fun h => decide (h.frame ≤ n + 1))
    let bg := budget tr.1 (tr.2 ++ mine.map (fun h => { reqs := h.reqs, held := true }))
    let d := { tr.1 with rmt := { tr.1.rmt with pending := tr.1.rmt.pending.filter (fun h => decide (n + 1 < h.frame)) } }
    let d := sealShed d bg.2 n
    let d := { d with rmt := { d.rmt with taken := [] } }
    let s := bg.1.foldl (sealItem b.was n at_)
      { dev := d, proj := b.dev.rmt.taken.foldl (fun p a => project p a.req at_) { b with dev := d } }
    let s := lostUpTo 32 s
    let out := sortBy (fun (x y : Admitted) => lexLt [x.req.ses, x.req.seq] [y.req.ses, y.req.seq]) (b.dev.rmt.taken ++ s.out)
    let d := s.dev.setF RMT_STATUS_PENDING (heldCount s.dev.rmt.pending)
    let d := logBatch d ins.2 units.flatten n room
    { b with dev := { d with rmt := { d.rmt with sealed := some { frame := n + 1, inputs := ins.2, reqs := out } } } }

/-- HELD_COMMAND_TAKEN: a unit of the pending store whose frame is the next one is taken into its batch and validated again,
ahead of the batch's other units; CUTOFF takes those that are left (R83; log entry 64). -/
def heldTaken (b : Blk) (ses seq at_ : Nat) : Blk :=
  let d := b.dev
  let n := d.esc.maj
  let mine := fun (h : Held) => decide (h.frame ≤ n + 1) && h.reqs.any (fun r => decide (r.ses = ses) && decide (r.seq = seq))
  match d.rmt.pending.find? mine with
  | none => b
  | some h =>
    if !d.running || d.rmt.sealed.isSome || d.rec_.fatal.isSome then b
    else
      let d := { d with rmt := { d.rmt with pending := d.rmt.pending.filter (fun x => !mine x), taken := [] } }
      let s := sealItem b.was n at_
        { dev := d, proj := b.dev.rmt.taken.foldl (fun p a => project p a.req at_) { b with dev := d } } { reqs := h.reqs, held := true }
      { b with dev := { s.dev with rmt := { s.dev.rmt with taken := b.dev.rmt.taken ++ s.out.filter (fun a => !a.req.lost),
                                                            lost := d.rmt.lost } } }

/-! ### Outside a time base (R84) -/

/-- A unit taken outside a time base: executed at once, in the order of arrival, answered with EFFECT 0. -/
def outsideUnit (at_ : Nat) (b : Blk) (u : List Request) : Blk :=
  let d := b.dev
  match triage d u with
  | some l => { b with dev := answerAll d u l 0 0 0 }
  | none =>
    if u.any (fun r => decide (r.effect ≠ 0)) then { b with dev := answerAll d u (u.map (fun _ => ansRange)) 0 0 0 }
    else
      let q := runUnit (fun b r => cmdAct { b with dev := drawCredits b.dev r } r at_) d 0 b u
      match q.2 with
      | some _ =>
        -- the answer leaves before a command that resets or powers down the device acts
        let b := { b with dev := answerAll d u q.1 0 0 0 }
        u.foldl (fun b r => cmdAct { b with dev := drawCredits b.dev r } r at_) b
      | none => { b with dev := answerAll (unitRefusal b (u.zip q.1) d) u q.1 0 0 0 }

/-- Requests submitted outside a time base are executed. -/
def runOutside (at_ : Nat) (b : Blk) : Blk :=
  if b.dev.running then b
  else
    let us := b.dev.rmt.reqs
    us.foldl (outsideUnit at_) { b with dev := { b.dev with rmt := { b.dev.rmt with reqs := [] } } }

/-! ### Release (R50, R51, R85) -/

/-- One committed frame input acts. -/
def inputAct (d : Dev) (x : Stamped) : Dev :=
  match x.input with
  | .demand .. => d
  | .peer cell _ sent l => peerCommit d cell sent l
  | .latch _ _ _ _ => d
  | .snapshot s v => { d with rmt := { d.rmt with snap := s, snapValid := v } }
  | .can ctl _ e => canCommit d ctl e
  | .safe port conn _ l _ =>
    safeCommit { d with bad := { d.bad with black := d.bad.black ++ [.copy d.esc.maj port x.stamp l] } } conn d.esc.maj l

/-- One command acts at its place where its condition still holds; a query's answer stands, entries of `seg.append` are queued in
every case. -/
def reqAct (at_ : Nat) (b : Blk) (a : Admitted) : Blk :=
  let r := a.req
  if r.lost then { b with dev := armStop b.dev (leAt r.pay 0 1) 1 }
  else if isQuery r.cmd ∨ r.cmd = 0x0501 then cmdAct b r at_
  else
    let x := cmdCheck b b.was r b.dev.esc.maj
    if x.good then cmdAct b r at_ else { b with dev := heldRefused b.dev r x.status }

end Sys2Proof.Machine
end

