-- ==== Sys2Proof/Machine/Boundary.lean ====
section
/-!
DEFINITION. What the major, minor and planning boundaries hold (R31, R33, R50, R112), and the entries of a replayed log (R56).
-/
namespace Sys2Proof.Machine
open Fld

/-! ### The end of a major frame -/

/-- The end of a minor frame: samples that did not come, the link cycle (R172, R217). -/
def minorEnd (d : Dev) : Dev := dlCycleEnd (forEach d.axisList axMinorEnd d)

/-- The ended frame: its last minor frame, supervision and registers of every axis, then its records (R174, R175, R185, R410). -/
def frameEnd (d : Dev) : Dev :=
  let d := minorEnd d
  flushRecords (forEach d.axisList axEndFrame d) d.esc.maj

/-- The frame number rises by one (R33); the boundary falls where R37 lets it. -/
def frameNext (d : Dev) (at_ : Nat) : Dev :=
  let d := placeBoundary d at_
  let d := { d with esc := { d.esc with maj := d.esc.maj + 1, majAt := d.esc.t0, fresh := true } }
  (majRegs d).setF ESC_MINOR_INDEX 0

/-- A frame that starts while fatal handling runs: it is counted, and nothing else happens in it (R424; DESIGN CHOICE, log entry 60). -/
def frameFatal (d : Dev) (at_ : Nat) : Dev := frameNext (flushRecords d d.esc.maj) at_

/-- Frame inputs that wait while no time base runs are dropped: no batch takes them (log entry 61). -/
def dropInputs (d : Dev) : Dev := latchNew (safeRings { d with rmt := { d.rmt with inputs := [] } })

/-! ### Axes -/

/-- Set points, references, law changes, delays and measurements of an axis at a major boundary (R160, R163, R159, R178, R180, R181,
R183). -/
def axBoundary (d : Dev) (n : Nat) : Dev :=
  let d := axShift d n
  let a := d.axis n
  let d := d.setAxis n { a with loop := { a.loop with iqPrev := a.loop.iqUsed, iqRef := a.loop.iqNext } }
  calMajor (axDelays (lawFallback (axLawNow d n) n) n) n

/-- Steppers take the set points in force (R284, R288, R290, R291), and DRV_EN follows the axis (R295). -/
def stepperBoundary (d : Dev) (n : Nat) : Dev :=
  let c := d.acfg n
  if c.kind ≠ .stepper then d
  else
    let a := d.axis n
    let d := ampHold (stepperMajor d c.stepper a.pSet a.vSet) c.stepper
    match (d.stpCfg c.stepper).drvEn with
    | some k => if d.field.applied.getLsbD k = a.live then d else foSetBit d k a.live
    | none => d

/-! ### Badger demands (R19, R106, Table 7-2) -/

/-- STO demands: the groups whose axes an STO group named covers, and the axes of the STO groups. -/
def demandSto (d : Dev) : Dev :=
  let d := forEach d.groupList (fun d g => match (d.stoGroups g).find? d.bad.sto.testBit with | some k => groupSto d g k | none => d) d
  forEach d.axisList (fun d n => if d.bad.sto.testBit (d.acfg n).stoGroup then axSto d n else d) d

/-- A free axis under an SS1 demand stops at its quick limits (R176; DEDUCED, log entry 62). -/
def axSs1 (d : Dev) (n : Nat) : Dev :=
  let c := d.acfg n
  let a := d.axis n
  if c.group.isNone && d.bad.ss1.testBit c.stoGroup && a.live && !a.ramping && decide (a.vSet ≠ 0) then axRamp d n c.axQacc c.axQjerk else d

/-- SS1 demands. -/
def demandSs1 (d : Dev) : Dev :=
  let d := forEach d.groupList (fun d g =>
    if (d.stoGroups g).any d.bad.ss1.testBit && !(d.group g).pendSs1 then groupSs1 d g else d) d
  forEach d.axisList axSs1 d

/-- Demands enter at the first major boundary after the end of evaluation (R19, R300); axis faults of the ended frame take effect
between the two, as Table 5-1 orders them. -/
def demandsEnter (d : Dev) : Dev :=
  let d := demandSto { d with bad := { d.bad with known := d.bad.released } }
  demandSs1 (forEach d.groupList takeFaults d)

/-! ### Release of the batch (R50, R51) -/

/-- The sealed batch becomes the batch of the frame that starts. -/
def batchNow (d : Dev) : Dev :=
  let x := match d.rmt.sealed with | some x => x | none => {}
  { d with rmt := { d.rmt with now := x, sealed := none } }.setB RMT_STATUS_SEALING false

/-- Frame inputs act, then the commands, in the order of Table 2-8; LATE commands are applied, others only where OK. -/
def releaseBatch (b : Blk) (at_ : Nat) : Blk :=
  let d := batchNow b.dev
  let d := startDecision (forEach d.rmt.now.inputs inputAct d)
  forEach d.rmt.now.reqs (fun b a => reqAct at_ b a) { b with dev := d }

/-! ### The major boundary -/

/-- Work of the first major boundary of a time base (R390, R404, R449). -/
def firstBoundary (d : Dev) (at_ : Nat) : Dev :=
  let on := match d.img.run with | some i => i.canOn | none => 0
  let d := forEach (List.range 2) (fun d n => if on.testBit n && !canDelegated d n then canLeaveInit d n else d) d
  let d := if d.b PAD_HOLD_HELD || decide (d.f PAD_HOLD_FIELD_HELD ≠ 0) then padRelease d else d
  let d : Dev := match d.field.hold with | some (3, _) => foRelease d at_ | _ => d
  if d.esc.tbCount = 1 then d.raise 0x8003 0xFFFF 0 1 (at_ / 800000) else d

/-- Units that follow the commands of the frame: groups, axes, local outputs, CAN, cell link, time, sessions, states. -/
def unitsBoundary (d : Dev) (at_ : Nat) : Dev :=
  let d := forEach d.groupList groupBoundary (convBoundary d)
  let d := forEach d.axisList axStandstill d
  let d := forEach d.axisList stepperBoundary d
  let d := cmpMajor (pwmMajor d) at_
  let d := forEach (List.range 2) (fun d n => canMajor d n d.esc.maj) d
  let d := sendPeers (clMajorStep d)
  let d := checkAligned (selectSource (countSources (syncMajor d)))
  let d := drainRings (permitExpire (timeAnchor d at_))
  let d := forEach (List.range 32) liveLost (ethFailsEnd d)
  let d := { d with bad := { d.bad with black := d.bad.black ++ d.bad.fields, fields := [] } }
  let d := if d.pwr.stBack then selftestBack d at_ else d
  faultCheck (runReady (ungateNow d at_))

/-- What every major boundary of a time base, at `at_`, holds behind the count. -/
def frameWork (b : Blk) (at_ : Nat) : Blk :=
  let d := stagedLive b.dev
  let d := forEach d.groupList freeEntries d
  let d := demandsEnter (forEach d.axisList axBoundary d)
  let b := releaseBatch { b with dev := d } at_
  let b := { b with dev := unitsBoundary b.dev at_ }
  let b := owlTrace (owlUsage b at_) 0 at_
  { b with was := { b.dev with out := [] } }

/-- MAJOR_FRAME_BOUNDARY near CLK_TIME cycle `at_`. -/
def major (b : Blk) (at_ : Nat) : Blk :=
  let d := b.dev
  if d.rec_.fatal.isSome then (if d.running then { b with dev := frameFatal d at_ } else b)
  else if d.running then
    let e := frameNext (frameEnd d) at_
    frameWork { b with dev := e } e.esc.majAt
  else if mayStart d then frameWork { b with dev := firstBoundary (timebaseStart (dropInputs d) at_) at_ } at_
  else { b with dev := dropInputs (drainRings d) }

/-! ### The minor boundary -/

/-- Markers, TICKs and command frames may leave: a time base runs, neither fatal handling nor replay (R56, R236, R424). -/
def linksOn (d : Dev) : Bool := d.running && !d.esc.linksCut

/-- The minor index moves on: the boundary of index 0 was placed with the major one. -/
def minorNext (d : Dev) (at_ : Nat) : Dev :=
  if d.esc.fresh then { d with esc := { d.esc with fresh := false } }
  else (placeBoundary (minorEnd d) at_).setF ESC_MINOR_INDEX (d.minor + 1)

/-- Work of a minor frame once its boundary is placed. -/
def minorWork (b : Blk) (ended : Nat) : Blk :=
  let d := stepReloadAll (pwmReloadAll b.dev ended) b.dev.tMinor ended
  let d := dlMarkers d (linksOn d && !d.replaying)
  let d := if linksOn d then clMinorStep d else d
  let d := if d.minor = 1 then tileWork d else d
  let b := forEach (List.range 16) (fun b n => if (b.dev.pwr.gated.testBit (n / 4)) || b.dev.pwr.selftest.isSome then { b with dev := tilesStopped b.dev (fun k => decide (k = n)) } else tileMinor b n) { b with dev := d }
  owlTrace b 1 b.dev.esc.t0

/-- MINOR_FRAME_BOUNDARY near CLK_TIME cycle `at_`. Behind the last minor frame of a major frame the boundary is a major one, which
MAJOR_FRAME_BOUNDARY makes (log entry 63). -/
def minor (b : Blk) (at_ : Nat) : Blk :=
  let d := b.dev
  if !d.running || d.rec_.fatal.isSome || (!d.esc.fresh && decide (d.M ≤ d.minor + 1)) then b
  else
    let d := minorNext d at_
    minorWork { b with dev := d } d.esc.prevLen

/-! ### The planning boundary (R112, R149) -/

/-- PLANNING_FRAME_BOUNDARY: the planner's and Lynx's work; neither runs in a full self-test (R442). -/
def planning (b : Blk) : Blk :=
  let d := b.dev
  if !d.running || d.rec_.fatal.isSome || d.pwr.selftest.isSome then b
  else
    let d := forEach d.groupList planGroup d
    owlTrace { b with dev := lynxPlan (d.pwr.gated.testBit 4) d } 2 d.esc.majAt

/-! ### Replay (R56) -/

/-- A frame input of a replayed log. -/
def replayInput (d : Dev) (at_ : Nat) (i : FInput) : Dev :=
  { d with rmt := { d.rmt with inputs := d.rmt.inputs ++ [{ stamp := at_, frame := d.esc.maj, input := i, replay := true }] } }

/-- A logged CAN frame (Table 2-9). -/
def replayCan (l : List Byte) : CanElem :=
  let fl := leAt l 1 1
  { frame := { ident := leAt l 4 4, xtd := fl.testBit 0, rtr := fl.testBit 1, esi := fl.testBit 2, dlc := leAt l 2 1, fdf := fl.testBit 3,
               brs := fl.testBit 4, data := l.drop 16 },
    filter := leAt l 3 1, ofs := leAt l 8 2, maj := leAt l 10 6 }

/-- A logged safe frame copy: an Ethernet frame of P3 or P4, or a SAFE frame of the cell link. -/
def replaySafe (port : Nat) (raw : List Byte) : FInput :=
  let e := etherType raw
  let pdu := if e.1 = 0x88B5 then raw.drop e.2 else (raw.take (raw.length - 4)).drop 16
  .safe port (leAt pdu 0 4) (leAt pdu 4 2) pdu raw

/-- A logged local sample block: results and counts stand as logged, and the axes of the group take their samples. -/
def replayBlock (d : Dev) (g at_ : Nat) (l : List Byte) : Dev :=
  let sds := blockSds d g
  let d := forEach sds.zipIdx (fun y e =>
    (y.setS (SD_RESULT_RESULT e.1) (sleAt l (3 * e.2 + 1) 2)).setB (SD_RESULT_VALID e.1) true) d
  let d := forEach (blockFbs d g).zipIdx (fun y e =>
    let v := sleAt l (3 * sds.length + 7 * e.2 + 1) 6
    (y.setB (FB_STAT_SER_OK e.1) true).setFb e.1 { y.fb e.1 with pos := v, sample := { (y.fb e.1).sample with count := v, at_ := at_ } }) d
  forEach (d.axisList.filter (fun n => decide (axBlock d (d.acfg n) = some g))) (fun y n => localAxis y n at_) d

/-- REPLAY_LOG_ENTRY: an entry of the log supplied on the chosen port takes the place of the input it logs. -/
def replayEntry (d : Dev) (e : LogEntry) (at_ : Nat) : Dev :=
  let l := e.body
  if !d.replaying then d
  else match e.cls with
    | 2 =>
      let r : Request := { raw := l, stamp := at_, arr := d.esc.maj, replay := true }
      submit d r
    | 3 => match slotPos d (e.source / 16) (e.source % 16) with
      | some k => if l.isEmpty then d else
          let d := dlBlack d (e.source / 16) (e.source % 16) l
          takeBody d (e.source / 16) k l (leAt l 0 1 / 16)
      | none => d
    | 4 => replayBlock d e.source at_ l
    | 5 => replayInput d at_ (.snapshot (BitVec.ofNat 32 (leAt l 0 4)) (BitVec.ofNat 32 (leAt l 4 4)))
    | 6 => replayInput d at_ (.latch (leAt l 0 1) (sleAt l 2 6) (leAt l 8 8) (decide (leAt l 1 1 ≠ 0)))
    | 7 => replayInput d at_ (.can (leAt l 0 1) e.order (replayCan l))
    | 8 => replayInput d at_ (replaySafe (leAt l 0 1 - 1) (l.drop 1))
    | 9 => replayInput d at_ (.peer (leAt l 0 1) e.order (d.esc.maj - 1) (l.drop 1))
    | 10 =>
      let old := d.bad.replayIn.getD (0, 0)
      { d with bad := { d.bad with replayIn := some (if leAt l 0 1 = 0 then (leAt l 1 1, old.2) else (old.1, leAt l 1 1)) } }
    | _ => d

end Sys2Proof.Machine
end

