-- ==== Sys2Proof/Machine/State.lean ====
section
/-!
DEFINITION. The state of the model: the block, which holds everything the spec gives the device, its safety dice and its
loop tiles, and the queue of commands that wait. Its state after reset, and the reasons for which a step can stop.
-/
namespace Sys2Proof.Machine

/-- The whole machine as plain data. -/
structure State where
  /-- Commands that wait, first in, first out. -/
  pending : List Instr := []
  /-- Everything else. -/
  blk : Blk := {}
deriving DecidableEq, Repr, Inhabited

/-- The state right after a power-on reset (R436): DEV_STATE BOOT, rails valid, every register at its reset value, both
Badgers in INIT with their switches off, no image, no session, no time base, no command waiting. -/
def State.reset : State := {}

/-- Why a step stops with a fault. No command of this block does: what the spec calls fatal is a state of the device that
goes on (R423, R424). A closed type without constructors; there is nothing safe or unsafe about it. -/
inductive Fault where
deriving DecidableEq, Repr

/-- Why a step has no meaning. -/
inductive Refusal where
  /-- Raised by an arm of `exec` whose command has no meaning yet. Safe: nothing is claimed of it. -/
  | notModelled (mnemonic : String)
deriving DecidableEq, Repr

end Sys2Proof.Machine
end

