-- ==== Sys2Proof/Machine/RowOps.lean ====
section
/-!
DEFINITION. What the commands of the table share: which part of the device must have power for a command to act, the
host's rings, and the payloads of mailbox commands that are rows of their own (Table 3-10).
-/
namespace Sys2Proof.Machine
open Fld

/-! ### Power (R429, R466) -/

/-- The motion and field dice take commands: rails valid, and not held in reset. -/
def Dev.alive (d : Dev) : Bool := decide (d.pwr.rail = .on) && !d.pwr.held

/-- Power domain `k` of Table 19-1 is on. -/
def Dev.has (d : Dev) (k : Nat) : Bool := d.alive && (d.f PWR_DOMAINS_ON).testBit k

/-- A command that reaches the block through domain `k`; without power it does nothing. -/
def State.act (s : State) (k : Nat) (f : Blk → Blk) : State := if s.blk.dev.has k then { s with blk := f s.blk } else s

/-- A command that acts on the motion and field dice through domain `k`. -/
def State.onDev (s : State) (k : Nat) (f : Dev → Dev) : State := s.act k (fun b => { b with dev := f b.dev })

/-- A command of the safety dice, which have supplies of their own (R16): without power the motion die learns nothing. -/
def State.onSafety (s : State) (f : Blk → Blk) : State :=
  if s.blk.dev.alive then { s with blk := f s.blk } else { s with blk := { f s.blk with dev := s.blk.dev } }

/-- An event outside the device, at a drive-link module (R218). -/
def State.onModule (s : State) (f : Dev → Dev) : State := { s with blk := { s.blk with dev := f s.blk.dev } }

/-- A reset of the motion die where `f` makes one: the tiles lose what they hold (R436). -/
def Blk.resetBy (f : Dev → Dev) (b : Blk) : Blk :=
  let d := f b.dev
  { b with dev := d, tiles := if d.state = 1 ∨ (d.state = 3 ∧ d.pwr.cause = 3) then [] else b.tiles }

/-- An instruction issues on tile `n` and takes `cycles` cycles (R193, R198). -/
def State.issue (s : State) (n cycles : Nat) (op : Tile → TStep) : State :=
  s.act (3 + n / 4) (fun b => tileRun b n ((b.tile n).issue cycles op))

/-- Another event of tile `n`. -/
def State.onTile (s : State) (n : Nat) (f : Blk → Blk) : State := s.act (3 + n / 4) f

/-! ### PCIe rings (R70, R71) -/

/-- The device takes what it may of ring `s`; `slots`, what it finds in the host's request slots, oldest first; a slot not listed
holds zeros. `fuel` bounds the number of requests. -/
def ringRun (s at_ : Nat) : Nat → List (List Byte) → Dev → Dev
  | 0, _, d => d
  | fuel + 1, slots, d =>
    if ringTake d s = 0 then d else ringRun s at_ fuel (slots.drop 1) (ringOne d s (slots.headD []) at_)

/-- A doorbell write. -/
def ringDoorbell (b : Blk) (s tail : Nat) (slots : List (List Byte)) (at_ : Nat) : Blk :=
  match doorbell b.dev s tail with
  | none => { b with dev := doorbellRefused b.dev s tail }
  | some d => runOutside at_ { b with dev := ringRun s at_ 64 slots d }

/-- The host has read responses up to `head`. -/
def ringFree (b : Blk) (s head : Nat) (slots : List (List Byte)) (at_ : Nat) : Blk :=
  runOutside at_ { b with dev := ringRun s at_ 64 slots (b.dev.setF (SES_RSP_HEAD_HEAD s) head) }

/-! ### Payloads (Table 3-10) -/

/-- A field in little-endian bytes. -/
def leBits {w : Nat} (v : BitVec w) : List Byte := le (w / 8) v.toNat

/-- `session.hello` (Table 3-6). -/
def helloPayload (lo hi : BitVec 16) (policy key : BitVec 8) (nonce : BitVec 64) : List Byte :=
  leBits lo ++ leBits hi ++ [policy, key, 0, 0] ++ leBits nonce

/-- `session.hello` taken as a row of its own, with its sequence number. -/
def runHello (ses seq : Nat) (pay : List Byte) (b : Blk) : Blk :=
  let via : Via := match (b.dev.sesCfg ses).transport with | 1 => .eth 0 0 | 2 => .spi | _ => .pcie
  runReq { mkRequest ses seq 0x0101 0 pay with via := via } b

/-- `cell.load_image` and `safety.param_put`: offset, total, operation, data. -/
def loadPayload (ofs total : Word) (op : BitVec 8) (data : List Byte) : List Byte :=
  leBits ofs ++ leBits total ++ [op, 0, 0, 0] ++ data

/-- `cell.start_together`: start frame, number of names, names. -/
def startPayload (start : BitVec 48) (names : List (Byte × Byte)) : List Byte :=
  leBits start ++ [BitVec.ofNat 8 names.length, 0] ++ names.flatMap (fun e => [e.1, e.2])

/-- TARGET of a CAN controller in `io.write` and `io.read` (R393). -/
def ioCan (c : Nat) : Byte := BitVec.ofNat 8 (0x10 + c)

/-- `power.state`: target, mask, timer. -/
def powerPayload (target mask : BitVec 8) (timer : Word) : List Byte := [target, mask, 0, 0] ++ leBits timer

/-! ### Staged PWM registers (R244) -/

/-- Offset of a staged register within its group. -/
def StagedReg.offset : StagedReg → Nat
  | .per => 0
  | .dt => 4
  | .rise c => 16 + 8 * c
  | .fall c => 20 + 8 * c

/-- A write to a staged register of group `g`. -/
def stageWrite (d : Dev) (g : Nat) (r : StagedReg) (v : Word) : Dev := pwmRegWrite d (0x200000 + 64 * g + r.offset) v 0

end Sys2Proof.Machine
end

