-- ==== Sys2Proof/Machine/AxisCmds.lean ====
section
/-!
DEFINITION. Axes and their loops (chapter 07). One meaning for each row; what a row does is said at the shared operations that it calls.
-/
namespace Sys2Proof.Machine

/-- AXIS_ENABLE: R159. -/
def execAxisEnable (ses : Fin 32) (n : BitVec 8) (s : State) :
    Host.Outcome State Fault Refusal :=
  .next (s.act 1 (fun b => runRow ses 0x0401 ([n]) b))

/-- AXIS_DISABLE: R158. -/
def execAxisDisable (ses : Fin 32) (n : BitVec 8) (s : State) :
    Host.Outcome State Fault Refusal :=
  .next (s.act 1 (fun b => runRow ses 0x0402 ([n]) b))

/-- AXIS_LAW: R180. -/
def execAxisLaw (ses : Fin 32) (n : BitVec 8) (current : BitVec 8) (outer : BitVec 8) (law : BitVec 8) (target : BitVec 64) (s : State) :
    Host.Outcome State Fault Refusal :=
  .next (s.act 1 (fun b => runRow ses 0x0403 ([n, current, outer, law] ++ leBits target) b))

/-- AXIS_CALIBRATE_OFFSET: R183. -/
def execAxisCalibrateOffset (ses : Fin 32) (n : BitVec 8) (frames : BitVec 16) (s : State) :
    Host.Outcome State Fault Refusal :=
  .next (s.act 1 (fun b => runRow ses 0x0404 ([n, 0] ++ leBits frames) b))

/-- AXIS_CAL_DONE: R183. -/
def execAxisCalDone (n : Fin 96) (s : State) :
    Host.Outcome State Fault Refusal :=
  .next (s.onDev 2 (fun d => calEnd d n))

/-- AXIS_STATUS: R184. -/
def execAxisStatus (ses : Fin 32) (n : BitVec 8) (clear : Word) (s : State) :
    Host.Outcome State Fault Refusal :=
  .next (s.act 1 (fun b => runRow ses 0x0405 ([n, 0, 0, 0] ++ leBits clear) b))

/-- BRAKE_RELEASE: R159. -/
def execBrakeRelease (n : Fin 96) (s : State) :
    Host.Outcome State Fault Refusal :=
  .next (s.onDev 2 (fun d => Machine.brakeRelease d n))

/-- TORQUE_REMOVAL: R178. -/
def execTorqueRemoval (n : Fin 96) (s : State) :
    Host.Outcome State Fault Refusal :=
  .next (s.onDev 2 (fun d => Machine.torqueRemoval d n))

/-- FOLLOWING_ERROR: R174. -/
def execFollowingError (n : Fin 96) (s : State) :
    Host.Outcome State Fault Refusal :=
  .next (s.onDev 2 (fun d => Machine.followingError d n))

/-- OVERCURRENT: R166. -/
def execOvercurrent (n : Fin 96) (s : State) :
    Host.Outcome State Fault Refusal :=
  .next (s.onDev 2 (fun d => overCurrentEvent d n))

/-- UPLINK_MISSING: R172. -/
def execUplinkMissing (n : Fin 96) (s : State) :
    Host.Outcome State Fault Refusal :=
  .next (s.onDev 2 (fun d => axMissing d n))

/-- SAMPLE_AGE: R172. -/
def execSampleAge (n : Fin 96) (s : State) :
    Host.Outcome State Fault Refusal :=
  .next (s.onDev 2 (fun d => Machine.sampleAge d n))

/-- LAW_FALLBACK: R181. -/
def execLawFallback (n : Fin 96) (s : State) :
    Host.Outcome State Fault Refusal :=
  .next (s.onDev 2 (fun d => Machine.lawFallback d n))

end Sys2Proof.Machine
end

