-- ==== Sys2Proof/Machine/CanCmds.lean ====
section
/-!
DEFINITION. CAN FD (chapter 16). One meaning for each row; what a row does is said at the shared operations that it calls.
-/
namespace Sys2Proof.Machine

/-- CAN_FRAME_RECEIVED: R378. -/
def execCanFrameReceived (c : Fin 2) (at_ : Nat) (frame : Machine.CanFrame) (s : State) :
    Host.Outcome State Fault Refusal :=
  .next (s.onDev 8 (fun d => canIrq d (canReceive d c at_ frame) c))

/-- CAN_FRAME_START: R382. -/
def execCanFrameStart (c : Fin 2) (s : State) :
    Host.Outcome State Fault Refusal :=
  .next (s.onDev 8 (fun d => canStart d c))

/-- CAN_TX_SUCCESS: R381. -/
def execCanTxSuccess (c : Fin 2) (at_ : Nat) (s : State) :
    Host.Outcome State Fault Refusal :=
  .next (s.onDev 8 (fun d => canIrq d (canSuccess d c at_) c))

/-- CAN_ARBITRATION_LOST: R382. -/
def execCanArbitrationLost (c : Fin 2) (s : State) :
    Host.Outcome State Fault Refusal :=
  .next (s.onDev 8 (fun d => canIrq d (canArbLost d c) c))

/-- CAN_ERROR: R386. -/
def execCanError (c : Fin 2) (lec : Fin 8) (inData : Bool) (dominant : Bool) (heavy : Bool) (s : State) :
    Host.Outcome State Fault Refusal :=
  .next (s.onDev 8 (fun d => canIrq d (Machine.canError d c lec inData dominant heavy) c))

/-- BUS_OFF_RECOVERY: R386. -/
def execBusOffRecovery (c : Fin 2) (s : State) :
    Host.Outcome State Fault Refusal :=
  .next (s.onDev 8 (fun d => canIrq d (canRecover d c) c))

/-- BO_DELAY: R386. -/
def execBoDelay (c : Fin 2) (s : State) :
    Host.Outcome State Fault Refusal :=
  .next (s.onDev 8 (fun d => canBoDelay d c))

/-- TXREQ_WRITE: R382. -/
def execTxreqWrite (bus : Machine.Bus) (c : Fin 2) (mask : Word) (s : State) :
    Host.Outcome State Fault Refusal :=
  .next (s.onDev 8 (fun d => if canMay d c bus then canRequest d c mask.toNat else d))

/-- TXCAN_WRITE: R383. -/
def execTxcanWrite (bus : Machine.Bus) (c : Fin 2) (mask : Word) (s : State) :
    Host.Outcome State Fault Refusal :=
  .next (s.onDev 8 (fun d => if canMay d c bus then canIrq d (canCancel d c mask.toNat) c else d))

/-- CAN_INIT_WRITE: R384. -/
def execCanInitWrite (bus : Machine.Bus) (c : Fin 2) (s : State) :
    Host.Outcome State Fault Refusal :=
  .next (s.onDev 8 (fun d => if canMay d c bus then canIrq d (canInit d c) c else d))

/-- RXF_POP: R379. -/
def execRxfPop (bus : Machine.Bus) (c : Fin 2) (s : State) :
    Host.Outcome State Fault Refusal :=
  .next (s.onDev 8 (fun d => if canMay d c bus then canPop d c else d))

/-- HP_FULL_CLEAR: R380. -/
def execHpFullClear (bus : Machine.Bus) (c : Fin 2) (mask : Word) (s : State) :
    Host.Outcome State Fault Refusal :=
  .next (s.onDev 8 (fun d => if canMay d c bus then canHpFree d c mask.toNat else d))

/-- TX_BUFFER_WRITE: R382. -/
def execTxBufferWrite (bus : Machine.Bus) (c : Fin 2) (buf : Fin 32) (w : Fin 21) (v : Word) (s : State) :
    Host.Outcome State Fault Refusal :=
  .next (s.onDev 8 (fun d => if canMay d c bus then canTxWrite d c buf w v else d))

/-- IO_WRITE_CAN: R393. -/
def execIoWriteCan (ses : Fin 32) (c : Fin 2) (obj : BitVec 8) (dlc : BitVec 8) (flags : BitVec 8) (data : List Byte) (s : State) :
    Host.Outcome State Fault Refusal :=
  .next (s.act 1 (fun b => runRow ses 0x0601 ([ioCan c, obj, dlc, flags] ++ data) b))

/-- IO_READ_CAN: R393. -/
def execIoReadCan (ses : Fin 32) (c : Fin 2) (obj : BitVec 8) (s : State) :
    Host.Outcome State Fault Refusal :=
  .next (s.act 1 (fun b => runRow ses 0x0602 ([ioCan c, obj]) b))

end Sys2Proof.Machine
end

