-- ==== Sys2Proof/Machine/CellCmds.lean ====
section
/-!
DEFINITION. The cell link (chapter 15). One meaning for each row; what a row does is said at the shared operations that it calls.
-/
namespace Sys2Proof.Machine

/-- CELL_TICK: R368. -/
def execCellTick (port : Fin 2) (at_ : Nat) (bytes : List Byte) (s : State) :
    Host.Outcome State Fault Refusal :=
  .next (s.onDev 9 (fun d => clTick d port at_ bytes))

/-- CL_STATUS_FRAME: R367. -/
def execClStatusFrame (port : Fin 2) (bytes : List Byte) (s : State) :
    Host.Outcome State Fault Refusal :=
  .next (s.onDev 9 (fun d => clStatus d port bytes))

/-- PEER_FRAME: R371. -/
def execPeerFrame (port : Fin 2) (at_ : Nat) (bytes : List Byte) (s : State) :
    Host.Outcome State Fault Refusal :=
  .next (s.onDev 9 (fun d => clPeer d port at_ bytes))

/-- CL_SAFE_FRAME: R366. -/
def execClSafeFrame (port : Fin 2) (at_ : Nat) (bytes : List Byte) (s : State) :
    Host.Outcome State Fault Refusal :=
  .next (s.onDev 9 (fun d => clSafe d port at_ bytes))

/-- TICK_MISSING: R368. -/
def execTickMissing (at_ : Nat) (s : State) :
    Host.Outcome State Fault Refusal :=
  .next (s.onDev 9 (fun d => Machine.tickMissing d at_))

/-- MASTER_HANDOVER: R369. -/
def execMasterHandover (s : State) :
    Host.Outcome State Fault Refusal :=
  .next (s.onDev 9 (fun d => handover d))

/-- CELL_FORM: R367. -/
def execCellForm (at_ : Nat) (s : State) :
    Host.Outcome State Fault Refusal :=
  .next (s.onDev 9 (fun d => Machine.cellForm d at_))

/-- MEMBER_LOST: R367. -/
def execMemberLost (k : Fin 8) (s : State) :
    Host.Outcome State Fault Refusal :=
  .next (s.onDev 9 (fun d => Machine.memberLost d k))

/-- CELL_ISOLATED: R370. -/
def execCellIsolated (s : State) :
    Host.Outcome State Fault Refusal :=
  .next (s.onDev 9 (fun d => Machine.cellIsolated d))

/-- CL_WINDOW: R366. -/
def execClWindow (s : State) :
    Host.Outcome State Fault Refusal :=
  .next (s.onDev 9 (fun d => Machine.clWindow d))

end Sys2Proof.Machine
end

