-- ==== Sys2Proof/Machine/FeedbackCmds.lean ====
section
/-!
DEFINITION. Feedback, latches, compare units (chapter 11). One meaning for each row; what a row does is said at the shared operations that it calls.
-/
namespace Sys2Proof.Machine

/-- FB_EDGE: R260. -/
def execFbEdge (ch : Fin 24) (a : Bool) (b : Bool) (at_ : Nat) (s : State) :
    Host.Outcome State Fault Refusal :=
  .next (s.onDev 10 (fun d => feedbackLost d (Machine.fbEdge d ch a b at_) ch))

/-- FB_INVALID: R262. -/
def execFbInvalid (ch : Fin 24) (s : State) :
    Host.Outcome State Fault Refusal :=
  .next (s.onDev 10 (fun d => feedbackLost d (fbCheckValid d ch) ch))

/-- INDEX_CAPTURE: R263. -/
def execIndexCapture (ch : Fin 24) (z : Bool) (s : State) :
    Host.Outcome State Fault Refusal :=
  .next (s.onDev 10 (fun d => fbIndex d ch z))

/-- SERIAL_FRAME: R264. -/
def execSerialFrame (ch : Fin 24) (idle : Bool) (bits : List Bool) (at_ : Nat) (s : State) :
    Host.Outcome State Fault Refusal :=
  .next (s.onDev 10 (fun d => feedbackLost d (fbSerial d ch idle bits at_) ch))

/-- FB_SAMPLE: R266. -/
def execFbSample (ch : Fin 24) (at_ : Nat) (s : State) :
    Host.Outcome State Fault Refusal :=
  .next (s.onDev 10 (fun d => Machine.fbSample d ch at_))

/-- REVALID: R473. -/
def execRevalid (ch : Fin 24) (s : State) :
    Host.Outcome State Fault Refusal :=
  .next (s.onDev 10 (fun d => fbRevalid d ch))

/-- LATCH_EVENT: R272. -/
def execLatchEvent (src : Fin 24) (at_ : Nat) (level : Bool) (s : State) :
    Host.Outcome State Fault Refusal :=
  .next (s.onDev 10 (fun d => Machine.latchEvent d src at_ level))

/-- CMP_TGT_HI_WRITE: R274. -/
def execCmpTgtHiWrite (u : Fin 32) (v : Word) (s : State) :
    Host.Outcome State Fault Refusal :=
  .next (s.onDev 10 (fun d => cmpStage d u (fieldOf (.CMP_TGT_HI_TGT_HI u) v) (bitOf (.CMP_TGT_HI_ARM u) v)))

/-- COMPARE_FIRE: R276. -/
def execCompareFire (u : Fin 32) (at_ : Nat) (s : State) :
    Host.Outcome State Fault Refusal :=
  .next (s.onDev 10 (fun d => match cmpDue d u with | some t => if t ≤ at_ then cmpFire d u at_ false else d | none => d))

/-- CMP_PULSE_END: R277. -/
def execCmpPulseEnd (pin : Fin 16) (at_ : Nat) (s : State) :
    Host.Outcome State Fault Refusal :=
  .next (s.onDev 10 (fun d => Machine.cmpPulseEnd d pin at_))

/-- IO_COMPARE_SET_ARM: R281. -/
def execIoCompareSetArm (ses : Fin 32) (u : BitVec 8) (target : BitVec 48) (s : State) :
    Host.Outcome State Fault Refusal :=
  .next (s.act 1 (fun b => runRow ses 0x0603 ([u, 1] ++ leBits target) b))

/-- IO_COMPARE_SET_CANCEL: R281. -/
def execIoCompareSetCancel (ses : Fin 32) (u : BitVec 8) (target : BitVec 48) (s : State) :
    Host.Outcome State Fault Refusal :=
  .next (s.act 1 (fun b => runRow ses 0x0603 ([u, 0] ++ leBits target) b))

end Sys2Proof.Machine
end

