-- ==== Sys2Proof/Machine/FieldCmds.lean ====
section
/-!
DEFINITION. Field inputs and outputs (chapter 17). One meaning for each row; what a row does is said at the shared operations that it calls.
-/
namespace Sys2Proof.Machine

/-- FIELD_INPUT_CHANGE: R396. -/
def execFieldInputChange (k : Fin 32) (level : Bool) (cycles : Nat) (s : State) :
    Host.Outcome State Fault Refusal :=
  .next (s.onDev 0 (fun d => fieldInput d k level cycles))

/-- FIELD_OUT_FAULT: R399. -/
def execFieldOutFault (k : Fin 32) (overtemp : Bool) (s : State) :
    Host.Outcome State Fault Refusal :=
  .next (s.onDev 0 (fun d => foProtect d k (if overtemp then 2 else 1)))

/-- FO_FAULT_CLEAR: R399. -/
def execFoFaultClear (mask : Word) (s : State) :
    Host.Outcome State Fault Refusal :=
  .next (s.onDev 0 (fun d => Machine.foFaultClear d mask))

/-- FO_CMD_WRITE: R401. -/
def execFoCmdWrite (bus : Machine.Bus) (v : Word) (s : State) :
    Host.Outcome State Fault Refusal :=
  .next (s.onDev 0 (fun d => foSet d (word32 (fun k => foMay d (k / 8) bus)) v))

/-- WATCHDOG_FEED: R402. -/
def execWatchdogFeed (bus : Machine.Bus) (g : Fin 4) (key : BitVec 8) (at_ : Nat) (s : State) :
    Host.Outcome State Fault Refusal :=
  .next (s.onDev 0 (fun d => if foMay d g bus then foFeed d g key.toNat at_ else d))

/-- REARM: R403. -/
def execRearm (bus : Machine.Bus) (g : Fin 4) (at_ : Nat) (s : State) :
    Host.Outcome State Fault Refusal :=
  .next (s.onDev 0 (fun d => if foMay d g bus then foRearm d g at_ else d))

/-- FO_EN_CLEAR: R403. -/
def execFoEnClear (bus : Machine.Bus) (g : Fin 4) (s : State) :
    Host.Outcome State Fault Refusal :=
  .next (s.onDev 0 (fun d => if foMay d g bus then foDisable d g else d))

/-- FIELD_WD_EXPIRED: R403. -/
def execFieldWdExpired (g : Fin 4) (at_ : Nat) (s : State) :
    Host.Outcome State Fault Refusal :=
  .next (s.onDev 0 (fun d => foWatchdog d g at_))

/-- HOLD_WIN: R404. -/
def execHoldWin (at_ : Nat) (s : State) :
    Host.Outcome State Fault Refusal :=
  .next (s.onDev 0 (fun d => foHoldWin d at_))

/-- FIELD_SUPPLY: R405. -/
def execFieldSupply (supply : Fin 5) (v : Nat) (s : State) :
    Host.Outcome State Fault Refusal :=
  .next (s.onDev 0 (fun d => Machine.fieldSupply d supply v))

/-- IO_WRITE_FIELD: R406. -/
def execIoWriteField (ses : Fin 32) (mask : Word) (states : Word) (s : State) :
    Host.Outcome State Fault Refusal :=
  .next (s.act 1 (fun b => runRow ses 0x0601 ([0, 0] ++ leBits mask ++ leBits states) b))

/-- IO_READ_FIELD: R406. -/
def execIoReadField (ses : Fin 32) (s : State) :
    Host.Outcome State Fault Refusal :=
  .next (s.act 1 (fun b => runRow ses 0x0602 ([1]) b))

end Sys2Proof.Machine
end

