-- ==== Sys2Proof/Machine/FrameCmds.lean ====
section
/-!
DEFINITION. Frames, boundary sources, sealing, replay (chapter 02). One meaning for each row; what a row does is said at the shared operations that it calls.
-/
namespace Sys2Proof.Machine

/-- MAJOR_FRAME_BOUNDARY: R33. -/
def execMajorFrameBoundary (at_ : Nat) (s : State) :
    Host.Outcome State Fault Refusal :=
  .next (s.act 2 (fun b => major b at_))

/-- MINOR_FRAME_BOUNDARY: R31. -/
def execMinorFrameBoundary (at_ : Nat) (s : State) :
    Host.Outcome State Fault Refusal :=
  .next (s.act 2 (fun b => minor b at_))

/-- PLANNING_FRAME_BOUNDARY: R112. -/
def execPlanningFrameBoundary (s : State) :
    Host.Outcome State Fault Refusal :=
  .next (s.act 2 (fun b => planning b))

/-- CUTOFF: R50. -/
def execCutoff (at_ : Nat) (room : Nat) (fieldOk : Bool) (s : State) :
    Host.Outcome State Fault Refusal :=
  .next (s.act 2 (fun b => Machine.cutoff b at_ room fieldOk))

/-- TIMEBASE_START: R33. -/
def execTimebaseStart (at_ : Nat) (s : State) :
    Host.Outcome State Fault Refusal :=
  .next (s.act 2 (fun b => if mayStart b.dev then major b at_ else b))

/-- ESC_CFG_LOCK: R60. -/
def execEscCfgLock (s : State) :
    Host.Outcome State Fault Refusal :=
  .next (s.onDev 2 (fun d => escLock d))

/-- REBIND: R60. -/
def execRebind (s : State) :
    Host.Outcome State Fault Refusal :=
  .next (s.onDev 2 (fun d => escRebind d))

/-- SYNC_IN_EDGE: R38. -/
def execSyncInEdge (at_ : Nat) (s : State) :
    Host.Outcome State Fault Refusal :=
  .next (s.onDev 2 (fun d => syncEdge d at_))

/-- SYNC_LOST: R38. -/
def execSyncLost (at_ : Nat) (s : State) :
    Host.Outcome State Fault Refusal :=
  .next (s.onDev 2 (fun d => syncAbsent d at_))

/-- SYNC_IN_INVALID: R38. -/
def execSyncInInvalid (s : State) :
    Host.Outcome State Fault Refusal :=
  .next (s.onDev 2 (fun d => Machine.syncInvalid d))

/-- SOURCE_CHANGE: R36. -/
def execSourceChange (s : State) :
    Host.Outcome State Fault Refusal :=
  .next (s.onDev 2 (fun d => selectSource d))

/-- FRAME_OVERRUN: R43. -/
def execFrameOverrun (engine : Fin 19) (kind : Fin 4) (at_ : Nat) (s : State) :
    Host.Outcome State Fault Refusal :=
  .next (s.onDev 2 (fun d => Machine.frameOverrun d engine kind at_))

/-- REPLAY_LOG_ENTRY: R56. -/
def execReplayLogEntry (entry : Machine.LogEntry) (at_ : Nat) (s : State) :
    Host.Outcome State Fault Refusal :=
  .next (s.onDev 2 (fun d => replayEntry d entry at_))

end Sys2Proof.Machine
end

