-- ==== Sys2Proof/Machine/GroupCmds.lean ====
section
/-!
DEFINITION. Joined starts, arms, segments, groups, kinematics, Lynx (chapters 05 and 06). One meaning for each row; what a row does is said at the shared operations that it calls.
-/
namespace Sys2Proof.Machine

/-- CELL_START_TOGETHER: R124. -/
def execCellStartTogether (ses : Fin 32) (start : BitVec 48) (names : List (Byte × Byte)) (s : State) :
    Host.Outcome State Fault Refusal :=
  .next (s.act 1 (fun b => runRow ses 0x0203 (startPayload start names) b))

/-- START_REQ: R125. -/
def execStartReq (issuer : Fin 8) (start : BitVec 48) (groups : List (Fin 12)) (s : State) :
    Host.Outcome State Fault Refusal :=
  .next (s.onDev 2 (fun d => Machine.startReq d issuer start.toNat (groups.map (·.val))))

/-- START_READY: R125. -/
def execStartReady (member : Fin 8) (start : BitVec 48) (s : State) :
    Host.Outcome State Fault Refusal :=
  .next (s.onDev 2 (fun d => startReply d member start.toNat true))

/-- START_REFUSE: R125. -/
def execStartRefuse (member : Fin 8) (start : BitVec 48) (s : State) :
    Host.Outcome State Fault Refusal :=
  .next (s.onDev 2 (fun d => startReply d member start.toNat false))

/-- START_DECISION: R125. -/
def execStartDecision (s : State) :
    Host.Outcome State Fault Refusal :=
  .next (s.onDev 2 (fun d => Machine.startDecision d))

/-- START_GO: R125. -/
def execStartGo (issuer : Fin 8) (start : BitVec 48) (s : State) :
    Host.Outcome State Fault Refusal :=
  .next (s.onDev 2 (fun d => Machine.startGo d start.toNat issuer))

/-- START_ABORT: R125. -/
def execStartAbort (issuer : Fin 8) (start : BitVec 48) (s : State) :
    Host.Outcome State Fault Refusal :=
  .next (s.onDev 2 (fun d => Machine.startAbort d start.toNat issuer))

/-- START_DONE: R126. -/
def execStartDone (g : Fin 12) (s : State) :
    Host.Outcome State Fault Refusal :=
  .next (s.onDev 2 (fun d => startAt d g))

/-- ARM_ENABLE: R106. -/
def execArmEnable (ses : Fin 32) (g : BitVec 8) (s : State) :
    Host.Outcome State Fault Refusal :=
  .next (s.act 1 (fun b => runRow ses 0x0301 ([g]) b))

/-- ARM_DISABLE: R106. -/
def execArmDisable (ses : Fin 32) (g : BitVec 8) (s : State) :
    Host.Outcome State Fault Refusal :=
  .next (s.act 1 (fun b => runRow ses 0x0302 ([g]) b))

/-- ARM_STOP: R119. -/
def execArmStop (ses : Fin 32) (g : BitVec 8) (s : State) :
    Host.Outcome State Fault Refusal :=
  .next (s.act 1 (fun b => runRow ses 0x0303 ([g]) b))

/-- ARM_HOME: R127. -/
def execArmHome (ses : Fin 32) (g : BitVec 8) (mask : BitVec 16) (s : State) :
    Host.Outcome State Fault Refusal :=
  .next (s.act 1 (fun b => runRow ses 0x0304 ([g, 0] ++ leBits mask) b))

/-- ARM_OVERRIDE: R118. -/
def execArmOverride (ses : Fin 32) (g : BitVec 8) (override : BitVec 16) (s : State) :
    Host.Outcome State Fault Refusal :=
  .next (s.act 1 (fun b => runRow ses 0x0305 ([g, 0] ++ leBits override) b))

/-- ARM_STATUS: R129. -/
def execArmStatus (ses : Fin 32) (g : BitVec 8) (s : State) :
    Host.Outcome State Fault Refusal :=
  .next (s.act 1 (fun b => runRow ses 0x0306 ([g]) b))

/-- SEG_APPEND: R108. -/
def execSegAppend (ses : Fin 32) (g : BitVec 8) (count : BitVec 8) (entries : List Byte) (s : State) :
    Host.Outcome State Fault Refusal :=
  .next (s.act 1 (fun b => runRow ses 0x0501 ([g, count, 0, 0] ++ entries) b))

/-- SEG_FLUSH: R119. -/
def execSegFlush (ses : Fin 32) (g : BitVec 8) (s : State) :
    Host.Outcome State Fault Refusal :=
  .next (s.act 1 (fun b => runRow ses 0x0502 ([g]) b))

/-- SEG_STATUS: R129. -/
def execSegStatus (ses : Fin 32) (g : BitVec 8) (s : State) :
    Host.Outcome State Fault Refusal :=
  .next (s.act 1 (fun b => runRow ses 0x0503 ([g]) b))

/-- STANDSTILL_REACHED: R119. -/
def execStandstillReached (axis : Bool) (n : Fin 96) (s : State) :
    Host.Outcome State Fault Refusal :=
  .next (s.onDev 2 (fun d => if axis then axStandstill d n else groupStill d n))

/-- PATH_END: R106. -/
def execPathEnd (g : Fin 12) (s : State) :
    Host.Outcome State Fault Refusal :=
  .next (s.onDev 2 (fun d => Machine.pathEnd d g))

/-- SEG_DONE: R108. -/
def execSegDone (g : Fin 12) (s : State) :
    Host.Outcome State Fault Refusal :=
  .next (s.onDev 2 (fun d => if entryEnded d g then Machine.segDone d g else d))

/-- DWELL_END: R110. -/
def execDwellEnd (g : Fin 12) (s : State) :
    Host.Outcome State Fault Refusal :=
  .next (s.onDev 2 (fun d => Machine.dwellEnd d g))

/-- WAIT_TIMEOUT: R117. -/
def execWaitTimeout (g : Fin 12) (s : State) :
    Host.Outcome State Fault Refusal :=
  .next (s.onDev 2 (fun d => Machine.waitTimeout d g))

/-- GEAR_ENGAGEMENT_END: R123. -/
def execGearEngagementEnd (g : Fin 12) (s : State) :
    Host.Outcome State Fault Refusal :=
  .next (s.onDev 2 (fun d => gearEngaged d g))

/-- HOMING_DONE: R127. -/
def execHomingDone (g : Fin 12) (s : State) :
    Host.Outcome State Fault Refusal :=
  .next (s.onDev 2 (fun d => homeNext d g))

/-- HOMING_FAILED: R128. -/
def execHomingFailed (g : Fin 12) (s : State) :
    Host.Outcome State Fault Refusal :=
  .next (s.onDev 2 (fun d => homeFail d g))

/-- IK_DIVERGED: R139. -/
def execIkDiverged (g : Fin 12) (s : State) :
    Host.Outcome State Fault Refusal :=
  .next (s.onDev 2 (fun d => Machine.ikDiverged d g))

/-- LYNX_HOLD: R152. -/
def execLynxHold (g : Fin 8) (s : State) :
    Host.Outcome State Fault Refusal :=
  .next (s.onDev 7 (fun d => Machine.lynxHold d g))

/-- LYNX_INPUT_STALE: R153. -/
def execLynxInputStale (member : Bool) (k : BitVec 8) (s : State) :
    Host.Outcome State Fault Refusal :=
  .next (s.onDev 7 (fun d => if member then memberStale d k.toNat else sourceStale d k.toNat))

end Sys2Proof.Machine
end

