-- ==== Sys2Proof/Machine/HostCmds.lean ====
section
/-!
DEFINITION. Register and bus accesses, mailbox transports, sessions (chapters 00, 03). One meaning for each row; what a row does is said at the shared operations that it calls.
-/
namespace Sys2Proof.Machine

/-- LO_REGISTER_READ: R282. -/
def execLoRegisterRead (bus : Machine.Bus) (a : Nat) (size : Nat) (at_ : Nat) (s : State) :
    Host.Outcome State Fault Refusal :=
  .next (s.onDev 1 (fun d => busRead d bus a size 0 at_))

/-- READ_CLEAR: R8. -/
def execReadClear (bus : Machine.Bus) (a : Nat) (size : Nat) (ev : Word) (at_ : Nat) (s : State) :
    Host.Outcome State Fault Refusal :=
  .next (s.onDev 1 (fun d => busRead d bus a size ev at_))

/-- REGISTER_WRITE: R9. -/
def execRegisterWrite (bus : Machine.Bus) (a : Nat) (size : Nat) (v : BitVec 64) (at_ : Nat) (s : State) :
    Host.Outcome State Fault Refusal :=
  .next (s.onDev 1 (fun d => busWrite d bus a size v at_))

/-- PCIE_DOORBELL: R71. -/
def execPcieDoorbell (ses : Fin 32) (tail : BitVec 16) (slots : List (List Byte)) (at_ : Nat) (s : State) :
    Host.Outcome State Fault Refusal :=
  .next (s.act 1 (fun b => ringDoorbell b ses tail.toNat slots at_))

/-- RSP_HEAD_WRITE: R71. -/
def execRspHeadWrite (ses : Fin 32) (head : BitVec 16) (slots : List (List Byte)) (at_ : Nat) (s : State) :
    Host.Outcome State Fault Refusal :=
  .next (s.act 1 (fun b => ringFree b ses head.toNat slots at_))

/-- ETHERNET_REQUEST: R73. -/
def execEthernetRequest (port : Fin 4) (addr : Nat) (bytes : List Byte) (at_ : Nat) (s : State) :
    Host.Outcome State Fault Refusal :=
  .next (s.act 8 (fun b => runOutside at_ { b with dev := ethRequest b.dev port addr bytes at_ }))

/-- SPI_WRITE_REQUEST: R76. -/
def execSpiWriteRequest (bytes : List Byte) (at_ : Nat) (s : State) :
    Host.Outcome State Fault Refusal :=
  .next (s.act 1 (fun b => runOutside at_ { b with dev := spiWrite b.dev bytes at_ }))

/-- SPI_READ_RESPONSE: R76. -/
def execSpiReadResponse (ses : Fin 32) (clocked : Nat) (s : State) :
    Host.Outcome State Fault Refusal :=
  .next (s.onDev 1 (fun d => spiRead d ses clocked))

/-- SPI_READ_STATUS: R76. -/
def execSpiReadStatus (s : State) :
    Host.Outcome State Fault Refusal :=
  .next (s.onDev 1 (fun d => spiStatus d))

/-- SESSION_HELLO: R77. -/
def execSessionHello (ses : Fin 32) (lo : BitVec 16) (hi : BitVec 16) (policy : BitVec 8) (key : BitVec 8) (nonce : BitVec 64) (seq : Word) (s : State) :
    Host.Outcome State Fault Refusal :=
  .next (s.act 1 (fun b => runHello ses seq.toNat (helloPayload lo hi policy key nonce) b))

/-- SESSION_CLOSE: R78. -/
def execSessionClose (ses : Fin 32) (s : State) :
    Host.Outcome State Fault Refusal :=
  .next (s.act 1 (fun b => runRow ses 0x0102 [] b))

/-- SESSION_PING: R78. -/
def execSessionPing (ses : Fin 32) (s : State) :
    Host.Outcome State Fault Refusal :=
  .next (s.act 1 (fun b => runRow ses 0x0103 [] b))

/-- LIVENESS_TIMEOUT: R78. -/
def execLivenessTimeout (ses : Fin 32) (s : State) :
    Host.Outcome State Fault Refusal :=
  .next (s.onDev 1 (fun d => liveLost d ses))

/-- CHAIN_TIMEOUT: R82. -/
def execChainTimeout (ses : Fin 32) (s : State) :
    Host.Outcome State Fault Refusal :=
  .next (s.onDev 1 (fun d => Machine.chainTimeout d ses))

/-- HELD_COMMAND_TAKEN: R83. -/
def execHeldCommandTaken (ses : Fin 32) (seq : Word) (at_ : Nat) (s : State) :
    Host.Outcome State Fault Refusal :=
  .next (s.act 2 (fun b => heldTaken b ses seq.toNat at_))

end Sys2Proof.Machine
end

