-- ==== Sys2Proof/Machine/ImageCmds.lean ====
section
/-!
DEFINITION. Configuration images (chapter 04). One meaning for each row; what a row does is said at the shared operations that it calls.
-/
namespace Sys2Proof.Machine

/-- CELL_STATUS: R451. -/
def execCellStatus (ses : Fin 32) (s : State) :
    Host.Outcome State Fault Refusal :=
  .next (s.act 1 (fun b => runRow ses 0x0201 [] b))

/-- LOAD_IMAGE_DATA: R97. -/
def execLoadImageData (ses : Fin 32) (ofs : Word) (total : Word) (data : List Byte) (s : State) :
    Host.Outcome State Fault Refusal :=
  .next (s.act 1 (fun b => runRow ses 0x0202 (loadPayload ofs total 1 data) b))

/-- LOAD_IMAGE_VALIDATE: R97. -/
def execLoadImageValidate (ses : Fin 32) (total : Word) (s : State) :
    Host.Outcome State Fault Refusal :=
  .next (s.act 1 (fun b => runRow ses 0x0202 (loadPayload 0 total 2 []) b))

/-- VALIDATE_RESULT: R96. -/
def execValidateResult (s : State) :
    Host.Outcome State Fault Refusal :=
  .next (s.onDev 1 (fun d => Machine.validateResult d))

/-- LOAD_IMAGE_ACTIVATE: R98. -/
def execLoadImageActivate (ses : Fin 32) (total : Word) (s : State) :
    Host.Outcome State Fault Refusal :=
  .next (s.act 1 (fun b => runRow ses 0x0202 (loadPayload 0 total 3 []) b))

/-- LOAD_IMAGE_STORE: R97. -/
def execLoadImageStore (ses : Fin 32) (total : Word) (s : State) :
    Host.Outcome State Fault Refusal :=
  .next (s.act 1 (fun b => runRow ses 0x0202 (loadPayload 0 total 4 []) b))

/-- IMAGE_STORED: R97. -/
def execImageStored (s : State) :
    Host.Outcome State Fault Refusal :=
  .next (s.onDev 1 (fun d => Machine.imageStored d))

/-- LOAD_IMAGE_ABORT: R97. -/
def execLoadImageAbort (ses : Fin 32) (total : Word) (s : State) :
    Host.Outcome State Fault Refusal :=
  .next (s.act 1 (fun b => runRow ses 0x0202 (loadPayload 0 total 5 []) b))

/-- LOAD_IMAGE_ACTIVATE_FLASH: R97. -/
def execLoadImageActivateFlash (ses : Fin 32) (s : State) :
    Host.Outcome State Fault Refusal :=
  .next (s.act 1 (fun b => runRow ses 0x0202 (loadPayload 0 0 6 []) b))

/-- AUTOSTART: R96. -/
def execAutostart (at_ : Nat) (s : State) :
    Host.Outcome State Fault Refusal :=
  .next (s.act 1 (fun b => Machine.autostart b at_))

end Sys2Proof.Machine
end

