-- ==== Sys2Proof/Machine/LinkCmds.lean ====
section
/-!
DEFINITION. The drive link and its modules (chapter 09). One meaning for each row; what a row does is said at the shared operations that it calls.
-/
namespace Sys2Proof.Machine

/-- MARKER_RETURN: R215. -/
def execMarkerReturn (p : Fin 4) (lane : Fin 2) (ok : Bool) (cmdOk : Bool) (hop : Nat) (r : Nat) (s : State) :
    Host.Outcome State Fault Refusal :=
  .next (s.onDev 9 (fun d => Machine.markerReturn d p lane ok cmdOk hop r))

/-- RING_BREAK: R237. -/
def execRingBreak (p : Fin 4) (s : State) :
    Host.Outcome State Fault Refusal :=
  .next (s.onDev 9 (fun d => Machine.ringBreak d p))

/-- RING_RESTORED: R237. -/
def execRingRestored (p : Fin 4) (s : State) :
    Host.Outcome State Fault Refusal :=
  .next (s.onDev 9 (fun d => Machine.ringRestored d p))

/-- COMMAND_FRAME: R221. -/
def execCommandFrame (p : Fin 4) (s : State) :
    Host.Outcome State Fault Refusal :=
  .next (s.onDev 9 (fun d => Machine.commandFrame d p))

/-- SAMPLE_RECORD: R228. -/
def execSampleRecord (p : Fin 4) (slot : Fin 16) (lane : Fin 2) (ps : Int) (code : Bool) (bytes : List Byte) (s : State) :
    Host.Outcome State Fault Refusal :=
  .next (s.onDev 9 (fun d => uplinkCopy d p slot lane ps code bytes 1))

/-- CAP_RECORD: R234. -/
def execCapRecord (p : Fin 4) (slot : Fin 16) (lane : Fin 2) (ps : Int) (code : Bool) (bytes : List Byte) (s : State) :
    Host.Outcome State Fault Refusal :=
  .next (s.onDev 9 (fun d => uplinkCopy d p slot lane ps code bytes 2))

/-- CAL_RECORD: R230. -/
def execCalRecord (p : Fin 4) (slot : Fin 16) (lane : Fin 2) (ps : Int) (code : Bool) (bytes : List Byte) (s : State) :
    Host.Outcome State Fault Refusal :=
  .next (s.onDev 9 (fun d => uplinkCopy d p slot lane ps code bytes 3))

/-- FAULT_RECORD: R227. -/
def execFaultRecord (p : Fin 4) (slot : Fin 16) (lane : Fin 2) (ps : Int) (code : Bool) (bytes : List Byte) (s : State) :
    Host.Outcome State Fault Refusal :=
  .next (s.onDev 9 (fun d => uplinkCopy d p slot lane ps code bytes 4))

/-- MODULE_UNSYNC: R229. -/
def execModuleUnsync (p : Fin 4) (k : Fin 12) (s : State) :
    Host.Outcome State Fault Refusal :=
  .next (s.onDev 9 (fun d => dlUnsync d p k))

/-- MODULE_POWER_ON: R233. -/
def execModulePowerOn (p : Fin 4) (k : Fin 12) (cap : Machine.Cap) (id0 : Nat) (id1 : Nat) (s : State) :
    Host.Outcome State Fault Refusal :=
  .next (s.onModule (fun d => modPowerOn d (modNo p k) cap id0 id1))

/-- MODULE_MARKER: R219. -/
def execModuleMarker (p : Fin 4) (k : Fin 12) (v : Bool) (ok : Bool) (minor : Nat) (hop : Nat) (nmod : Nat) (ring : Nat) (rvalid : Bool) (at_ : Nat) (s : State) :
    Host.Outcome State Fault Refusal :=
  .next (s.onModule (fun d => modMarker d (modNo p k) v ok minor hop nmod ring rvalid at_))

/-- MODULE_COMMAND_RECORD: R222. -/
def execModuleCommandRecord (p : Fin 4) (k : Fin 12) (minor : Nat) (bytes : List Byte) (frameOk : Bool) (at_ : Nat) (s : State) :
    Host.Outcome State Fault Refusal :=
  .next (s.onModule (fun d => modRecord d (modNo p k) minor bytes frameOk at_))

/-- MODULE_APPLY_DEADLINE: R225. -/
def execModuleApplyDeadline (p : Fin 4) (k : Fin 12) (s : State) :
    Host.Outcome State Fault Refusal :=
  .next (s.onModule (fun d => modDeadline d (modNo p k)))

/-- MODULE_MARKERS_MISSED: R220. -/
def execModuleMarkersMissed (p : Fin 4) (k : Fin 12) (s : State) :
    Host.Outcome State Fault Refusal :=
  .next (s.onModule (fun d => modMissed d (modNo p k)))

/-- MODULE_SAMPLE_INSTANT: R226. -/
def execModuleSampleInstant (p : Fin 4) (k : Fin 12) (sample : Machine.ModSample) (s : State) :
    Host.Outcome State Fault Refusal :=
  .next (s.onModule (fun d => modSample d (modNo p k) sample))

/-- MODULE_FAULT: R227. -/
def execModuleFault (p : Fin 4) (k : Fin 12) (code : Nat) (stands : Bool) (s : State) :
    Host.Outcome State Fault Refusal :=
  .next (s.onModule (fun d => modFault d (modNo p k) code stands))

end Sys2Proof.Machine
end

