-- ==== Sys2Proof/Machine/PowerCmds.lean ====
section
/-!
DEFINITION. Power, reset, start-up, self-test (chapter 19). One meaning for each row; what a row does is said at the shared operations that it calls.
-/
namespace Sys2Proof.Machine

/-- POWER_ON: R436. -/
def execPowerOn (cellId : Fin 8) (testMode : Bool) (s : State) :
    Host.Outcome State Fault Refusal :=
  .next ({ s with blk := let b := s.blk; b.resetBy (fun d => Machine.powerOn d cellId testMode) })

/-- RESET_N: R466. -/
def execResetN (low : Bool) (cellId : Fin 8) (testMode : Bool) (s : State) :
    Host.Outcome State Fault Refusal :=
  .next ({ s with blk := let b := s.blk; if low || !b.dev.pwr.held then { b with dev := Machine.resetN b.dev low cellId testMode } else b.resetBy (fun d => Machine.resetN d low cellId testMode) })

/-- BROWN_OUT: R433. -/
def execBrownOut (s : State) :
    Host.Outcome State Fault Refusal :=
  .next (s.act 0 (fun b => b.resetBy Machine.brownOut))

/-- BOOT_IMAGE: R437. -/
def execBootImage (slot0 : Option (Nat × Nat × List Byte)) (slot1 : Option (Nat × Nat × List Byte)) (fuse : Bool) (s : State) :
    Host.Outcome State Fault Refusal :=
  .next (s.onDev 0 (fun d => Machine.bootImage d slot0 slot1 fuse))

/-- POWER_UP_SELFTEST_DONE: R440. -/
def execPowerUpSelftestDone (failed : Option (Nat × Nat)) (s : State) :
    Host.Outcome State Fault Refusal :=
  .next (s.onDev 0 (fun d => postDone d failed))

/-- CELL_SELFTEST_ONLINE: R442. -/
def execCellSelftestOnline (ses : Fin 32) (s : State) :
    Host.Outcome State Fault Refusal :=
  .next (s.act 1 (fun b => runRow ses 0x0204 ([0]) b))

/-- CELL_SELFTEST_FULL: R442. -/
def execCellSelftestFull (ses : Fin 32) (s : State) :
    Host.Outcome State Fault Refusal :=
  .next (s.act 1 (fun b => runRow ses 0x0204 ([1]) b))

/-- SELFTEST_DONE: R442. -/
def execSelftestDone (failed : Option (Nat × Nat)) (at_ : Nat) (s : State) :
    Host.Outcome State Fault Refusal :=
  .next (s.act 1 (fun b => Machine.selftestDone b failed at_))

/-- TEST_RESULT: R451. -/
def execTestResult (ses : Fin 32) (s : State) :
    Host.Outcome State Fault Refusal :=
  .next (s.act 1 (fun b => runRow ses 0x0B01 [] b))

/-- POWER_VCORE: R432. -/
def execPowerVcore (ses : Fin 32) (mv : BitVec 16) (s : State) :
    Host.Outcome State Fault Refusal :=
  .next (s.act 1 (fun b => runRow ses 0x0A02 (leBits mv) b))

/-- VCORE_STEP: R432. -/
def execVcoreStep (at_ : Nat) (s : State) :
    Host.Outcome State Fault Refusal :=
  .next (s.act 0 (fun b => powerResume { b with dev := Machine.vcoreStep b.dev } at_))

/-- VCORE_TIMEOUT: R433. -/
def execVcoreTimeout (powerGood : Bool) (at_ : Nat) (s : State) :
    Host.Outcome State Fault Refusal :=
  .next (s.act 0 (fun b => powerResume { b with dev := Machine.vcoreTimeout b.dev (if powerGood then 2 else 1) } at_))

/-- POWER_GOOD_LOST: R433. -/
def execPowerGoodLost (s : State) :
    Host.Outcome State Fault Refusal :=
  .next (s.onDev 0 (fun d => Machine.powerGoodLost d))

/-- THERMAL: R435. -/
def execThermal (sensor : Nat) (temp : Int) (s : State) :
    Host.Outcome State Fault Refusal :=
  .next (s.onDev 0 (fun d => Machine.thermal d sensor temp))

/-- CLOCK_LOST: R431. -/
def execClockLost (dom : Fin 16) (at_ : Nat) (s : State) :
    Host.Outcome State Fault Refusal :=
  .next (s.act 0 (fun b => Machine.clockLost dom at_ b))

/-- POWER_STATE_RUN: R445. -/
def execPowerStateRun (ses : Fin 32) (s : State) :
    Host.Outcome State Fault Refusal :=
  .next (s.act 1 (fun b => runRow ses 0x0A01 (powerPayload 0 0 0) b))

/-- UNGATE: R445. -/
def execUngate (at_ : Nat) (s : State) :
    Host.Outcome State Fault Refusal :=
  .next (s.onDev 0 (fun d => ungateNow d at_))

/-- POWER_STATE_ARMS_IDLE: R445. -/
def execPowerStateArmsIdle (ses : Fin 32) (mask : BitVec 8) (s : State) :
    Host.Outcome State Fault Refusal :=
  .next (s.act 1 (fun b => runRow ses 0x0A01 (powerPayload 1 mask 0) b))

/-- POWER_STATE_STANDBY: R445. -/
def execPowerStateStandby (ses : Fin 32) (timer : Word) (s : State) :
    Host.Outcome State Fault Refusal :=
  .next (s.act 1 (fun b => runRow ses 0x0A01 (powerPayload 2 0 timer) b))

/-- POWER_STATE_DEEP: R445. -/
def execPowerStateDeep (ses : Fin 32) (timer : Word) (s : State) :
    Host.Outcome State Fault Refusal :=
  .next (s.act 1 (fun b => runRow ses 0x0A01 (powerPayload 3 0 timer) b))

/-- POWER_STATE_RESTART: R444. -/
def execPowerStateRestart (ses : Fin 32) (s : State) :
    Host.Outcome State Fault Refusal :=
  .next (s.act 1 (fun b => runRow ses 0x0A01 (powerPayload 4 0 0) b))

/-- FELADE_RESTART: R444. -/
def execFeladeRestart (slot : Fin 2) (build : Nat) (hash : List Byte) (at_ : Nat) (s : State) :
    Host.Outcome State Fault Refusal :=
  .next (s.act 0 (fun b => Machine.feladeRestart b slot build hash at_))

/-- WAKE: R447. -/
def execWake (src : Fin 5) (s : State) :
    Host.Outcome State Fault Refusal :=
  .next ({ s with blk := let b := s.blk; if b.dev.pwr.held then b else Machine.wake b src })

/-- STANDBY_RESUME: R448. -/
def execStandbyResume (at_ : Nat) (s : State) :
    Host.Outcome State Fault Refusal :=
  .next (s.act 0 (fun b => Machine.standbyResume b at_))

/-- PAD_HOLD_LATCH: R445. -/
def execPadHoldLatch (s : State) :
    Host.Outcome State Fault Refusal :=
  .next (s.onDev 0 (fun d => padLatch d))

/-- PAD_HOLD_RELEASE: R449. -/
def execPadHoldRelease (s : State) :
    Host.Outcome State Fault Refusal :=
  .next (s.onDev 0 (fun d => padRelease d))

/-- SAFETY_DIE_RESET_RELEASE: R325. -/
def execSafetyDieResetRelease (ch : Fin 2) (s : State) :
    Host.Outcome State Fault Refusal :=
  .next (s.onSafety (fun b => safetyDieRelease ch b))

/-- POWER_GOOD_RETURN: R435. -/
def execPowerGoodReturn (s : State) :
    Host.Outcome State Fault Refusal :=
  .next (s.onDev 0 (fun d => Machine.powerGoodReturn d))

end Sys2Proof.Machine
end

