-- ==== Sys2Proof/Machine/PwmCmds.lean ====
section
/-!
DEFINITION. Local PWM and sampling (chapter 10). One meaning for each row; what a row does is said at the shared operations that it calls.
-/
namespace Sys2Proof.Machine

/-- PWM_COMMIT: R244. -/
def execPwmCommit (g : Fin 16) (at_ : Nat) (s : State) :
    Host.Outcome State Fault Refusal :=
  .next (s.onDev 10 (fun d => Machine.pwmCommit d g at_))

/-- STAGING_WRITE: R244. -/
def execStagingWrite (g : Fin 16) (reg : Machine.StagedReg) (v : Word) (s : State) :
    Host.Outcome State Fault Refusal :=
  .next (s.onDev 10 (fun d => stageWrite d g reg v))

/-- PWM_TRIP: R251. -/
def execPwmTrip (t : Fin 8) (level : Bool) (cycles : Nat) (s : State) :
    Host.Outcome State Fault Refusal :=
  .next (s.onDev 10 (fun d => Machine.pwmTrip d t level cycles))

/-- TRIP_CLR: R252. -/
def execTripClr (g : Fin 16) (s : State) :
    Host.Outcome State Fault Refusal :=
  .next (s.onDev 10 (fun d => pwmTripClr d g))

/-- CLK_TIME_LOSS: R253. -/
def execClkTimeLoss (s : State) :
    Host.Outcome State Fault Refusal :=
  .next (s.onDev 0 (fun d => Machine.clkTimeLoss d))

/-- LOCAL_SAMPLE_BLOCK_READY: R256. -/
def execLocalSampleBlockReady (g : Fin 16) (at_ : Nat) (sums : List (Nat × Bool)) (s : State) :
    Host.Outcome State Fault Refusal :=
  .next (s.onDev 10 (fun d => if d.replaying then d else localBlock d g at_ sums))

/-- SD_FAULT: R257. -/
def execSdFault (inp : Fin 16) (s : State) :
    Host.Outcome State Fault Refusal :=
  .next (s.onDev 10 (fun d => Machine.sdFault d inp))

/-- PWM_READBACK: R441. -/
def execPwmReadback (g : Fin 16) (ch : Fin 6) (level : Bool) (s : State) :
    Host.Outcome State Fault Refusal :=
  .next (s.onDev 10 (fun d => Machine.pwmReadback d g ch level))

end Sys2Proof.Machine
end

