-- ==== Sys2Proof/Machine/RecordCmds.lean ====
section
/-!
DEFINITION. Records, dump, fatal handling (chapter 18). One meaning for each row; what a row does is said at the shared operations that it calls.
-/
namespace Sys2Proof.Machine

/-- RECORD_READ: R416. -/
def execRecordRead (ses : Fin 32) (ring : BitVec 8) (count : BitVec 8) (start : Word) (lo : BitVec 16) (hi : BitVec 16) (s : State) :
    Host.Outcome State Fault Refusal :=
  .next (s.act 1 (fun b => runRow ses 0x0801 ([ring, count, 0, 0] ++ leBits start ++ leBits lo ++ leBits hi) b))

/-- RECORD_COMMIT_READ: R417. -/
def execRecordCommitRead (ses : Fin 32) (pos : Word) (len : BitVec 16) (s : State) :
    Host.Outcome State Fault Refusal :=
  .next (s.act 1 (fun b => runRow ses 0x0802 (leBits pos ++ leBits len) b))

/-- DUMP_READ: R427. -/
def execDumpRead (ses : Fin 32) (ofs : Word) (len : BitVec 16) (s : State) :
    Host.Outcome State Fault Refusal :=
  .next (s.act 1 (fun b => runRow ses 0x0B02 (leBits ofs ++ leBits len) b))

/-- DUMP_CLEAR: R427. -/
def execDumpClear (ses : Fin 32) (s : State) :
    Host.Outcome State Fault Refusal :=
  .next (s.act 1 (fun b => runRow ses 0x0B03 [] b))

/-- DUMP_WRITE_COMPLETE: R424. -/
def execDumpWriteComplete (s : State) :
    Host.Outcome State Fault Refusal :=
  .next (s.act 0 (fun b => if b.dev.rec_.fatal.isSome && b.dev.rec_.dumping then b.resetBy (fun d => fatalEnd d true) else b))

/-- FATAL_TIMER: R424. -/
def execFatalTimer (s : State) :
    Host.Outcome State Fault Refusal :=
  .next (s.act 0 (fun b => if b.dev.rec_.fatal.isSome then b.resetBy (fun d => fatalEnd d false) else b))

/-- CORE_WATCHDOG: R423. -/
def execCoreWatchdog (core : Fin 8) (at_ : Nat) (s : State) :
    Host.Outcome State Fault Refusal :=
  .next (s.onDev 1 (fun d => fatalStop d 4 core at_))

/-- ECC_ERROR: R423. -/
def execEccError (mem : Nat) (at_ : Nat) (s : State) :
    Host.Outcome State Fault Refusal :=
  .next (s.onDev 1 (fun d => eccFatal d mem at_))

/-- LOCKSTEP_SPOT_CHECK: R441. -/
def execLockstepSpotCheck (matched : Bool) (tile : Fin 16) (at_ : Nat) (s : State) :
    Host.Outcome State Fault Refusal :=
  .next (s.onDev 2 (fun d => spotCheck d matched tile at_))

/-- SCRUB: R441. -/
def execScrub (mem : Nat) (addr : Nat) (err : Option Bool) (pass : Bool) (at_ : Nat) (s : State) :
    Host.Outcome State Fault Refusal :=
  .next (s.onDev 1 (fun d => Machine.scrub d mem addr err pass at_))

end Sys2Proof.Machine
end

