-- ==== Sys2Proof/Machine/SafetyCmds.lean ====
section
/-!
DEFINITION. The safety channel and separation (chapters 13 and 14). One meaning for each row; what a row does is said at the shared operations that it calls.
-/
namespace Sys2Proof.Machine

/-- BADGER_CYCLE: R301. -/
def execBadgerCycle (at_ : Nat) (edm : BitVec 8) (s : State) :
    Host.Outcome State Fault Refusal :=
  .next (s.onSafety (fun b => Machine.badgerCycle at_ edm.toNat b))

/-- TICK_LOST: R299. -/
def execTickLost (ch : Fin 2) (s : State) :
    Host.Outcome State Fault Refusal :=
  .next (s.onSafety (fun b => Machine.tickLost ch b))

/-- EVALUATION_END: R300. -/
def execEvaluationEnd (ch : Fin 2) (at_ : Nat) (s : State) :
    Host.Outcome State Fault Refusal :=
  .next (s.onSafety (fun b => Machine.evaluationEnd ch at_ b))

/-- STO_REQUEST_LINE: R299. -/
def execStoRequestLine (level : Bool) (s : State) :
    Host.Outcome State Fault Refusal :=
  .next (s.onDev 1 (fun d => { d with bad := { d.bad with line := level || decide (d.state = 3) } }))

/-- CROSS_COMPARE: R302. -/
def execCrossCompare (okA : Bool) (okB : Bool) (s : State) :
    Host.Outcome State Fault Refusal :=
  .next (s.onSafety (fun b => Machine.crossCompare okA okB b))

/-- BADGER_FAULT: R303. -/
def execBadgerFault (ch : Fin 2) (oscillator : Bool) (s : State) :
    Host.Outcome State Fault Refusal :=
  .next (s.onSafety (fun b => Machine.badgerFault ch (if oscillator then 5 else 4) b))

/-- SAFE_INPUT_CHANGE: R305. -/
def execSafeInputChange (inp : Fin 8) (ch : Fin 2) (level : Bool) (us : Nat) (s : State) :
    Host.Outcome State Fault Refusal :=
  .next (s.onSafety (fun b => Machine.safeInputChange inp ch level us b))

/-- DISCREPANCY: R305. -/
def execDiscrepancy (ch : Fin 2) (inp : Fin 8) (at_ : Nat) (s : State) :
    Host.Outcome State Fault Refusal :=
  .next (s.onSafety (fun b => badgerEvent ch (fun s x => Machine.discrepancy s (b.dev.tm at_) inp (b.saf.ch (1 - ch.val)).latched (decide (ch = 1)) x) b))

/-- TEST_PULSE_START: R310. -/
def execTestPulseStart (ch : Fin 2) (o : Fin 8) (s : State) :
    Host.Outcome State Fault Refusal :=
  .next (s.onSafety (fun b => Machine.testPulseStart ch o b))

/-- TEST_PULSE_CHECK: R310. -/
def execTestPulseCheck (ch : Fin 2) (o : Fin 8) (on : BitVec 8) (s : State) :
    Host.Outcome State Fault Refusal :=
  .next (s.onSafety (fun b => Machine.testPulseCheck ch o on.toNat b))

/-- TEST_PULSE_END: R310. -/
def execTestPulseEnd (ch : Fin 2) (o : Fin 8) (closed : Bool) (s : State) :
    Host.Outcome State Fault Refusal :=
  .next (s.onSafety (fun b => Machine.testPulseEnd ch o closed b))

/-- EDM_FAULT: R311. -/
def execEdmFault (ch : Fin 2) (o : Fin 8) (at_ : Nat) (s : State) :
    Host.Outcome State Fault Refusal :=
  .next (s.onSafety (fun b => badgerEvent ch (fun s x => edmLate s (b.dev.tm at_) o x) b))

/-- SS1_TMAX: R312. -/
def execSs1Tmax (ch : Fin 2) (g : Fin 9) (at_ : Nat) (s : State) :
    Host.Outcome State Fault Refusal :=
  .next (s.onSafety (fun b => badgerEvent ch (fun s x => Machine.ss1Tmax s g at_ x) b))

/-- STANDSTILL_CONFIRMED: R312. -/
def execStandstillConfirmed (ch : Fin 2) (g : Fin 9) (s : State) :
    Host.Outcome State Fault Refusal :=
  .next (s.onSafety (fun b => badgerEvent ch (fun s x => ss1Still s g x) b))

/-- SPOS_STALE: R315. -/
def execSposStale (ch : Fin 2) (axis : Fin 96) (s : State) :
    Host.Outcome State Fault Refusal :=
  .next (s.onSafety (fun b => badgerEvent ch (fun s x => Machine.sposStale s axis x) b))

/-- SLS_DELAY: R317. -/
def execSlsDelay (ch : Fin 2) (g : Fin 9) (at_ : Nat) (s : State) :
    Host.Outcome State Fault Refusal :=
  .next (s.onSafety (fun b => badgerEvent ch (fun _ x => (Machine.slsDelay x g at_, [])) b))

/-- RED_DELAY: R338. -/
def execRedDelay (ch : Fin 2) (g : Fin 9) (at_ : Nat) (s : State) :
    Host.Outcome State Fault Refusal :=
  .next (s.onSafety (fun b => badgerEvent ch (fun s x => Machine.redDelay s g at_ x) b))

/-- SEP_CLEAR: R338. -/
def execSepClear (ch : Fin 2) (g : Fin 9) (s : State) :
    Host.Outcome State Fault Refusal :=
  .next (s.onSafety (fun b => badgerEvent ch (fun s x => (Machine.sepClear s g x, [])) b))

/-- SAFE_FRAME: R319. -/
def execSafeFrame (p4 : Bool) (at_ : Nat) (bytes : List Byte) (s : State) :
    Host.Outcome State Fault Refusal :=
  .next (s.onDev 8 (fun d => ethReceive d (if p4 then 3 else 2) at_ bytes))

/-- CONN_TIMEOUT: R320. -/
def execConnTimeout (ch : Fin 2) (c : Fin 32) (at_ : Nat) (s : State) :
    Host.Outcome State Fault Refusal :=
  .next (s.onSafety (fun b => badgerEvent ch (fun s x => Machine.connTimeout s (b.dev.tm at_) c x) b))

/-- SAFE_MESSAGE_SEND: R320. -/
def execSafeMessageSend (c : Fin 32) (s : State) :
    Host.Outcome State Fault Refusal :=
  .next (s.onSafety (fun b => safeSend c b))

/-- SAFETY_STATUS: R326. -/
def execSafetyStatus (ses : Fin 32) (s : State) :
    Host.Outcome State Fault Refusal :=
  .next (s.act 1 (fun b => runRow ses 0x0901 [] b))

/-- SAFETY_PARAM_PUT_DATA: R324. -/
def execSafetyParamPutData (ses : Fin 32) (ofs : Word) (total : Word) (data : List Byte) (s : State) :
    Host.Outcome State Fault Refusal :=
  .next (s.act 1 (fun b => runRow ses 0x0902 (loadPayload ofs total 1 data) b))

/-- SAFETY_PARAM_PUT_ABORT: R324. -/
def execSafetyParamPutAbort (ses : Fin 32) (total : Word) (s : State) :
    Host.Outcome State Fault Refusal :=
  .next (s.act 1 (fun b => runRow ses 0x0902 (loadPayload 0 total 5 []) b))

/-- SAFETY_PARAM_COMMIT: R323. -/
def execSafetyParamCommit (ses : Fin 32) (sig : Word) (s : State) :
    Host.Outcome State Fault Refusal :=
  .next (s.act 1 (fun b => runRow ses 0x0903 (leBits sig) b))

/-- SET_DELIVERED: R325. -/
def execSetDelivered (s : State) :
    Host.Outcome State Fault Refusal :=
  .next (s.act 1 (fun b => Machine.setDelivered b))

/-- BADGER_SELFTEST_END: R325. -/
def execBadgerSelftestEnd (ch : Fin 2) (passed : Bool) (s : State) :
    Host.Outcome State Fault Refusal :=
  .next (s.onSafety (fun b => Machine.badgerSelftestEnd ch passed b))

/-- VSOUT_UNDERVOLTAGE: R464. -/
def execVsoutUndervoltage (low : Bool) (s : State) :
    Host.Outcome State Fault Refusal :=
  .next (s.onSafety (fun b => vsout low b))

end Sys2Proof.Machine
end

