-- ==== Sys2Proof/Machine/StepperCmds.lean ====
section
/-!
DEFINITION. Step outputs and stepper channels (chapters 11 and 12). One meaning for each row; what a row does is said at the shared operations that it calls.
-/
namespace Sys2Proof.Machine

/-- STEP_COMMIT: R279. -/
def execStepCommit (n : Fin 16) (at_ : Nat) (s : State) :
    Host.Outcome State Fault Refusal :=
  .next (s.onDev 10 (fun d => Machine.stepCommit d n at_))

/-- STEP_CHOP_STARVED: R292. -/
def execStepChopStarved (c : Fin 12) (phaseB : Bool) (s : State) :
    Host.Outcome State Fault Refusal :=
  .next (s.onDev 10 (fun d => chopStarved d c phaseB.toNat))

/-- AMP_HOLD: R290. -/
def execAmpHold (c : Fin 12) (s : State) :
    Host.Outcome State Fault Refusal :=
  .next (s.onDev 10 (fun d => Machine.ampHold d c))

end Sys2Proof.Machine
end

