-- ==== Sys2Proof/Machine/TileCmds.lean ====
section
/-!
DEFINITION. Loop tiles: instructions and slots (chapter 08). One meaning for each row; what a row does is said at the shared operations that it calls.
-/
namespace Sys2Proof.Machine

/-- TILE_EVENT: R188. -/
def execTileEvent (n : Fin 16) (entry : Fin 16) (s : State) :
    Host.Outcome State Fault Refusal :=
  .next (s.onTile n (fun b => Machine.tileEvent b n entry))

/-- DECLARED_COUNT_REACHED: R205. -/
def execDeclaredCountReached (n : Fin 16) (s : State) :
    Host.Outcome State Fault Refusal :=
  .next (s.onTile n (fun b => declaredReached b n))

/-- NOP: R198. -/
def execNop (n : Fin 16) (s : State) :
    Host.Outcome State Fault Refusal :=
  .next (s.issue n 1 (fun t => (t, false)))

/-- LD: R198. -/
def execLd (n : Fin 16) (dd : Fin 8) (o : Machine.MemOp) (s : State) :
    Host.Outcome State Fault Refusal :=
  .next (s.issue n 1 (tLd dd o))

/-- ST: R198. -/
def execSt (n : Fin 16) (ds : Fin 8) (o : Machine.MemOp) (s : State) :
    Host.Outcome State Fault Refusal :=
  .next (s.issue n 1 (tSt ds o))

/-- LD2: R198. -/
def execLd2 (n : Fin 16) (dd : Fin 8) (de : Fin 8) (o : Machine.MemOp2) (s : State) :
    Host.Outcome State Fault Refusal :=
  .next (s.issue n 1 (tLd2 dd de o))

/-- LDST: R192. -/
def execLdst (n : Fin 16) (dd : Fin 8) (ds : Fin 8) (o : Machine.MemOp2) (s : State) :
    Host.Outcome State Fault Refusal :=
  .next (s.issue n 1 (tLdst dd ds o))

/-- LDAW: R191. -/
def execLdaw (n : Fin 16) (ad : Fin 2) (o : Machine.MemOp) (s : State) :
    Host.Outcome State Fault Refusal :=
  .next (s.issue n 1 (tLdaw ad o))

/-- LDDA: R191. -/
def execLdda (n : Fin 16) (ad : Fin 2) (o : Machine.MemOp) (s : State) :
    Host.Outcome State Fault Refusal :=
  .next (s.issue n 1 (tLdda ad o))

/-- STDA: R191. -/
def execStda (n : Fin 16) (src : Fin 2) (sat : Bool) (o : Machine.MemOp) (s : State) :
    Host.Outcome State Fault Refusal :=
  .next (s.issue n 2 (tStda src sat o))

/-- ADDD: R198. -/
def execAddd (n : Fin 16) (ad : Fin 2) (sat : Bool) (o : Machine.MemOp) (s : State) :
    Host.Outcome State Fault Refusal :=
  .next (s.issue n 1 (tAddD ad sat o false))

/-- SUBD: R198. -/
def execSubd (n : Fin 16) (ad : Fin 2) (sat : Bool) (o : Machine.MemOp) (s : State) :
    Host.Outcome State Fault Refusal :=
  .next (s.issue n 1 (tAddD ad sat o true))

/-- MPY: R198. -/
def execMpy (n : Fin 16) (ad : Fin 2) (sat : Bool) (x : Fin 8) (y : Fin 8) (s : State) :
    Host.Outcome State Fault Refusal :=
  .next (s.issue n 1 (tMpy ad sat x y))

/-- MAC: R198. -/
def execMac (n : Fin 16) (ad : Fin 2) (sat : Bool) (x : Fin 8) (y : Fin 8) (s : State) :
    Host.Outcome State Fault Refusal :=
  .next (s.issue n 1 (tMac ad sat x y false))

/-- MSU: R198. -/
def execMsu (n : Fin 16) (ad : Fin 2) (sat : Bool) (x : Fin 8) (y : Fin 8) (s : State) :
    Host.Outcome State Fault Refusal :=
  .next (s.issue n 1 (tMac ad sat x y true))

/-- MACR: R198. -/
def execMacr (n : Fin 16) (ad : Fin 2) (sat : Bool) (x : Fin 8) (o : Machine.MemOp) (s : State) :
    Host.Outcome State Fault Refusal :=
  .next (s.issue n 1 (tMacr ad sat x o))

/-- MACM: R198. -/
def execMacm (n : Fin 16) (ad : Fin 2) (sat : Bool) (o : Machine.MemOp2) (s : State) :
    Host.Outcome State Fault Refusal :=
  .next (s.issue n 1 (tMacm ad sat o))

/-- LDA: R191. -/
def execLda (n : Fin 16) (ad : Fin 2) (x : Fin 8) (s : State) :
    Host.Outcome State Fault Refusal :=
  .next (s.issue n 1 (tLda ad x))

/-- ADDA: R198. -/
def execAdda (n : Fin 16) (ad : Fin 2) (src : Fin 2) (sat : Bool) (s : State) :
    Host.Outcome State Fault Refusal :=
  .next (s.issue n 1 (tAdda ad src sat false))

/-- SUBA: R198. -/
def execSuba (n : Fin 16) (ad : Fin 2) (src : Fin 2) (sat : Bool) (s : State) :
    Host.Outcome State Fault Refusal :=
  .next (s.issue n 1 (tAdda ad src sat true))

/-- SHA: R198. -/
def execSha (n : Fin 16) (ad : Fin 2) (sat : Bool) (k : BitVec 6) (s : State) :
    Host.Outcome State Fault Refusal :=
  .next (s.issue n 1 (tSha ad sat k))

/-- MVA: R191. -/
def execMva (n : Fin 16) (dd : Fin 8) (src : Fin 2) (sat : Bool) (sh : Fin 10) (s : State) :
    Host.Outcome State Fault Refusal :=
  .next (s.issue n 1 (tMva dd src sat sh))

/-- ADD: R198. -/
def execAdd (n : Fin 16) (dd : Fin 8) (sat : Bool) (x : Fin 8) (y : Fin 8) (s : State) :
    Host.Outcome State Fault Refusal :=
  .next (s.issue n 1 (tBin .add dd sat x y))

/-- SUB: R198. -/
def execSub (n : Fin 16) (dd : Fin 8) (sat : Bool) (x : Fin 8) (y : Fin 8) (s : State) :
    Host.Outcome State Fault Refusal :=
  .next (s.issue n 1 (tBin .sub dd sat x y))

/-- NEG: R198. -/
def execNeg (n : Fin 16) (dd : Fin 8) (sat : Bool) (x : Fin 8) (s : State) :
    Host.Outcome State Fault Refusal :=
  .next (s.issue n 1 (tNeg dd sat x))

/-- ABS: R198. -/
def execAbs (n : Fin 16) (dd : Fin 8) (sat : Bool) (x : Fin 8) (s : State) :
    Host.Outcome State Fault Refusal :=
  .next (s.issue n 1 (tAbs dd sat x))

/-- MIN: R198. -/
def execMin (n : Fin 16) (dd : Fin 8) (sat : Bool) (x : Fin 8) (y : Fin 8) (s : State) :
    Host.Outcome State Fault Refusal :=
  .next (s.issue n 1 (tBin .min dd sat x y))

/-- MAX: R198. -/
def execMax (n : Fin 16) (dd : Fin 8) (sat : Bool) (x : Fin 8) (y : Fin 8) (s : State) :
    Host.Outcome State Fault Refusal :=
  .next (s.issue n 1 (tBin .max dd sat x y))

/-- CLIP: R198. -/
def execClip (n : Fin 16) (dd : Fin 8) (x : Fin 8) (y : Fin 8) (s : State) :
    Host.Outcome State Fault Refusal :=
  .next (s.issue n 1 (tClip dd x y))

/-- SHL: R198. -/
def execShl (n : Fin 16) (dd : Fin 8) (sat : Bool) (x : Fin 8) (k : Fin 24) (s : State) :
    Host.Outcome State Fault Refusal :=
  .next (s.issue n 1 (tShift dd sat x (k : Nat)))

/-- SHR: R198. -/
def execShr (n : Fin 16) (dd : Fin 8) (sat : Bool) (x : Fin 8) (k : Fin 24) (s : State) :
    Host.Outcome State Fault Refusal :=
  .next (s.issue n 1 (tShift dd sat x (-((k : Nat) : Int))))

/-- AND: R198. -/
def execAnd (n : Fin 16) (dd : Fin 8) (x : Fin 8) (y : Fin 8) (s : State) :
    Host.Outcome State Fault Refusal :=
  .next (s.issue n 1 (tLogic (· &&& ·) dd x y))

/-- OR: R198. -/
def execOr (n : Fin 16) (dd : Fin 8) (x : Fin 8) (y : Fin 8) (s : State) :
    Host.Outcome State Fault Refusal :=
  .next (s.issue n 1 (tLogic (· ||| ·) dd x y))

/-- XOR: R198. -/
def execXor (n : Fin 16) (dd : Fin 8) (x : Fin 8) (y : Fin 8) (s : State) :
    Host.Outcome State Fault Refusal :=
  .next (s.issue n 1 (tLogic (· ^^^ ·) dd x y))

/-- MOV: R198. -/
def execMov (n : Fin 16) (dd : Fin 8) (x : Fin 8) (s : State) :
    Host.Outcome State Fault Refusal :=
  .next (s.issue n 1 (tMov dd x))

/-- LDI: R198. -/
def execLdi (n : Fin 16) (dd : Fin 8) (imm : BitVec 16) (s : State) :
    Host.Outcome State Fault Refusal :=
  .next (s.issue n 1 (tLdi dd imm))

/-- LDIQ: R198. -/
def execLdiq (n : Fin 16) (dd : Fin 8) (imm : BitVec 16) (s : State) :
    Host.Outcome State Fault Refusal :=
  .next (s.issue n 1 (tLdiq dd imm))

/-- CMP: R198. -/
def execCmp (n : Fin 16) (x : Fin 8) (y : Fin 8) (s : State) :
    Host.Outcome State Fault Refusal :=
  .next (s.issue n 1 (tCmp x y))

/-- LEA: R198. -/
def execLea (n : Fin 16) (pd : Fin 8) (ps : Fin 8) (imm : BitVec 16) (s : State) :
    Host.Outcome State Fault Refusal :=
  .next (s.issue n 1 (tLea pd ps imm))

/-- MOVP: R198. -/
def execMovp (n : Fin 16) (pd : Fin 8) (x : Fin 8) (s : State) :
    Host.Outcome State Fault Refusal :=
  .next (s.issue n 1 (tMovp pd x))

/-- MOVM: R198. -/
def execMovm (n : Fin 16) (md : Fin 4) (x : Fin 8) (s : State) :
    Host.Outcome State Fault Refusal :=
  .next (s.issue n 1 (tMovm md x))

/-- LDIP: R198. -/
def execLdip (n : Fin 16) (pd : Fin 8) (imm : BitVec 16) (s : State) :
    Host.Outcome State Fault Refusal :=
  .next (s.issue n 1 (tLdip pd imm))

/-- LDIM: R198. -/
def execLdim (n : Fin 16) (md : Fin 4) (imm : BitVec 16) (s : State) :
    Host.Outcome State Fault Refusal :=
  .next (s.issue n 1 (tLdim md imm))

/-- SETC: R198. -/
def execSetc (n : Fin 16) (c : Fin 4) (x : Fin 8) (s : State) :
    Host.Outcome State Fault Refusal :=
  .next (s.issue n 1 (tSetc c x))

/-- MOVS: R198. -/
def execMovs (n : Fin 16) (dd : Fin 8) (s : State) :
    Host.Outcome State Fault Refusal :=
  .next (s.issue n 1 (tMovs dd))

/-- TRIG: R196. -/
def execTrig (n : Fin 16) (pair : Fin 4) (x : Fin 8) (s : State) :
    Host.Outcome State Fault Refusal :=
  .next (s.issue n 1 (tTrig pair x))

/-- BR: R194. -/
def execBr (n : Fin 16) (target : BitVec 13) (s : State) :
    Host.Outcome State Fault Refusal :=
  .next (s.issue n 1 (tBranch true target))

/-- BZ: R194. -/
def execBz (n : Fin 16) (target : BitVec 13) (s : State) :
    Host.Outcome State Fault Refusal :=
  .next (s.issue n 1 (fun t => tBranch t.ctx.z target t))

/-- BNZ: R194. -/
def execBnz (n : Fin 16) (target : BitVec 13) (s : State) :
    Host.Outcome State Fault Refusal :=
  .next (s.issue n 1 (fun t => tBranch (!t.ctx.z) target t))

/-- BN: R194. -/
def execBn (n : Fin 16) (target : BitVec 13) (s : State) :
    Host.Outcome State Fault Refusal :=
  .next (s.issue n 1 (fun t => tBranch t.ctx.n target t))

/-- BNN: R194. -/
def execBnn (n : Fin 16) (target : BitVec 13) (s : State) :
    Host.Outcome State Fault Refusal :=
  .next (s.issue n 1 (fun t => tBranch (!t.ctx.n) target t))

/-- LOOP: R194. -/
def execLoop (n : Fin 16) (inner : Bool) (x : Fin 8) (last : BitVec 13) (s : State) :
    Host.Outcome State Fault Refusal :=
  .next (s.issue n 1 (tLoop inner x last))

/-- PUB: R199. -/
def execPub (n : Fin 16) (grant : Fin 32) (s : State) :
    Host.Outcome State Fault Refusal :=
  .next (s.onTile n (fun b => tileRun b n ((b.tile n).publish grant)))

/-- END: R194. -/
def execSlotEnd (n : Fin 16) (s : State) :
    Host.Outcome State Fault Refusal :=
  .next (s.issue n 1 (tEnd))

end Sys2Proof.Machine
end

