-- ==== Sys2Proof/Machine/TimeCmds.lean ====
section
/-!
DEFINITION. Network time and Ethernet ports (chapter 15). One meaning for each row; what a row does is said at the shared operations that it calls.
-/
namespace Sys2Proof.Machine

/-- PTP_MEASUREMENT: R352. -/
def execPtpMeasurement (port : Fin 2) (offset : Int) (gm : Nat) (at_ : Nat) (s : State) :
    Host.Outcome State Fault Refusal :=
  .next (s.onDev 8 (fun d => ptpMeasure d (port.val + 1) offset gm at_))

/-- HOLD_TMO: R352. -/
def execHoldTmo (at_ : Nat) (s : State) :
    Host.Outcome State Fault Refusal :=
  .next (s.onDev 8 (fun d => Machine.holdTmo d at_))

/-- TIME_PERMIT_EXPIRED: R355. -/
def execTimePermitExpired (s : State) :
    Host.Outcome State Fault Refusal :=
  .next (s.onDev 8 (fun d => permitExpire d))

/-- PTP_TRANSMIT: R350. -/
def execPtpTransmit (port : Fin 4) (kind : Fin 16) (s : State) :
    Host.Outcome State Fault Refusal :=
  .next (s.onDev 8 (fun d => Machine.ptpTransmit d port kind))

/-- ETHERNET_FRAME_RECEIVE: R347. -/
def execEthernetFrameReceive (port : Fin 4) (at_ : Nat) (bytes : List Byte) (s : State) :
    Host.Outcome State Fault Refusal :=
  .next (s.onDev 8 (fun d => ethReceive d port at_ bytes))

/-- QUEUE_HEAD: R363. -/
def execQueueHead (port : Fin 4) (q : Fin 8) (frame : Machine.TxFrame) (at_ : Nat) (s : State) :
    Host.Outcome State Fault Refusal :=
  .next (s.onDev 8 (fun d => Machine.queueHead d port q at_ frame))

/-- LAUNCH_TIME: R362. -/
def execLaunchTime (port : Fin 4) (q : Fin 8) (at_ : Nat) (s : State) :
    Host.Outcome State Fault Refusal :=
  .next (s.onDev 8 (fun d => Machine.launchTime d port q at_))

/-- GATE_CONTROL_INTERVAL: R362. -/
def execGateControlInterval (port : Fin 4) (at_ : Nat) (s : State) :
    Host.Outcome State Fault Refusal :=
  .next (s.onDev 8 (fun d => gateInterval d port at_))

/-- TXTS_ID_READ: R361. -/
def execTxtsIdRead (port : Fin 4) (s : State) :
    Host.Outcome State Fault Refusal :=
  .next (s.onDev 8 (fun d => { (txtsRead d port).2 with rd := (txtsRead d port).1 }))

/-- TIME_STATUS: R372. -/
def execTimeStatus (ses : Fin 32) (s : State) :
    Host.Outcome State Fault Refusal :=
  .next (s.act 1 (fun b => runRow ses 0x0701 [] b))

/-- TIME_PERMIT_STEP: R355. -/
def execTimePermitStep (ses : Fin 32) (limit : BitVec 64) (s : State) :
    Host.Outcome State Fault Refusal :=
  .next (s.act 1 (fun b => runRow ses 0x0702 (leBits limit) b))

end Sys2Proof.Machine
end

