-- ==== Sys2Proof/Machine/Dispatch.lean ====
section
/-!
DEFINITION. The dispatcher: one arm for each command, each a direct call of its meaning.
-/
namespace Sys2Proof.Machine

def exec (i : Instr) (s : State) : Host.Outcome State Fault Refusal :=
  match i with
  | .majorFrameBoundary at_ => Sys2Proof.Machine.execMajorFrameBoundary at_ s
  | .minorFrameBoundary at_ => Sys2Proof.Machine.execMinorFrameBoundary at_ s
  | .planningFrameBoundary => Sys2Proof.Machine.execPlanningFrameBoundary s
  | .cutoff at_ room fieldOk => Sys2Proof.Machine.execCutoff at_ room fieldOk s
  | .timebaseStart at_ => Sys2Proof.Machine.execTimebaseStart at_ s
  | .escCfgLock => Sys2Proof.Machine.execEscCfgLock s
  | .rebind => Sys2Proof.Machine.execRebind s
  | .syncInEdge at_ => Sys2Proof.Machine.execSyncInEdge at_ s
  | .syncLost at_ => Sys2Proof.Machine.execSyncLost at_ s
  | .syncInInvalid => Sys2Proof.Machine.execSyncInInvalid s
  | .sourceChange => Sys2Proof.Machine.execSourceChange s
  | .frameOverrun engine kind at_ => Sys2Proof.Machine.execFrameOverrun engine kind at_ s
  | .replayLogEntry entry at_ => Sys2Proof.Machine.execReplayLogEntry entry at_ s
  | .loRegisterRead bus a size at_ => Sys2Proof.Machine.execLoRegisterRead bus a size at_ s
  | .readClear bus a size ev at_ => Sys2Proof.Machine.execReadClear bus a size ev at_ s
  | .registerWrite bus a size v at_ => Sys2Proof.Machine.execRegisterWrite bus a size v at_ s
  | .pcieDoorbell ses tail slots at_ => Sys2Proof.Machine.execPcieDoorbell ses tail slots at_ s
  | .rspHeadWrite ses head slots at_ => Sys2Proof.Machine.execRspHeadWrite ses head slots at_ s
  | .ethernetRequest port addr bytes at_ => Sys2Proof.Machine.execEthernetRequest port addr bytes at_ s
  | .spiWriteRequest bytes at_ => Sys2Proof.Machine.execSpiWriteRequest bytes at_ s
  | .spiReadResponse ses clocked => Sys2Proof.Machine.execSpiReadResponse ses clocked s
  | .spiReadStatus => Sys2Proof.Machine.execSpiReadStatus s
  | .sessionHello ses lo hi policy key nonce seq => Sys2Proof.Machine.execSessionHello ses lo hi policy key nonce seq s
  | .sessionClose ses => Sys2Proof.Machine.execSessionClose ses s
  | .sessionPing ses => Sys2Proof.Machine.execSessionPing ses s
  | .livenessTimeout ses => Sys2Proof.Machine.execLivenessTimeout ses s
  | .chainTimeout ses => Sys2Proof.Machine.execChainTimeout ses s
  | .heldCommandTaken ses seq at_ => Sys2Proof.Machine.execHeldCommandTaken ses seq at_ s
  | .cellStatus ses => Sys2Proof.Machine.execCellStatus ses s
  | .loadImageData ses ofs total data => Sys2Proof.Machine.execLoadImageData ses ofs total data s
  | .loadImageValidate ses total => Sys2Proof.Machine.execLoadImageValidate ses total s
  | .validateResult => Sys2Proof.Machine.execValidateResult s
  | .loadImageActivate ses total => Sys2Proof.Machine.execLoadImageActivate ses total s
  | .loadImageStore ses total => Sys2Proof.Machine.execLoadImageStore ses total s
  | .imageStored => Sys2Proof.Machine.execImageStored s
  | .loadImageAbort ses total => Sys2Proof.Machine.execLoadImageAbort ses total s
  | .loadImageActivateFlash ses => Sys2Proof.Machine.execLoadImageActivateFlash ses s
  | .autostart at_ => Sys2Proof.Machine.execAutostart at_ s
  | .cellStartTogether ses start names => Sys2Proof.Machine.execCellStartTogether ses start names s
  | .startReq issuer start groups => Sys2Proof.Machine.execStartReq issuer start groups s
  | .startReady member start => Sys2Proof.Machine.execStartReady member start s
  | .startRefuse member start => Sys2Proof.Machine.execStartRefuse member start s
  | .startDecision => Sys2Proof.Machine.execStartDecision s
  | .startGo issuer start => Sys2Proof.Machine.execStartGo issuer start s
  | .startAbort issuer start => Sys2Proof.Machine.execStartAbort issuer start s
  | .startDone g => Sys2Proof.Machine.execStartDone g s
  | .armEnable ses g => Sys2Proof.Machine.execArmEnable ses g s
  | .armDisable ses g => Sys2Proof.Machine.execArmDisable ses g s
  | .armStop ses g => Sys2Proof.Machine.execArmStop ses g s
  | .armHome ses g mask => Sys2Proof.Machine.execArmHome ses g mask s
  | .armOverride ses g override => Sys2Proof.Machine.execArmOverride ses g override s
  | .armStatus ses g => Sys2Proof.Machine.execArmStatus ses g s
  | .segAppend ses g count entries => Sys2Proof.Machine.execSegAppend ses g count entries s
  | .segFlush ses g => Sys2Proof.Machine.execSegFlush ses g s
  | .segStatus ses g => Sys2Proof.Machine.execSegStatus ses g s
  | .standstillReached axis n => Sys2Proof.Machine.execStandstillReached axis n s
  | .pathEnd g => Sys2Proof.Machine.execPathEnd g s
  | .segDone g => Sys2Proof.Machine.execSegDone g s
  | .dwellEnd g => Sys2Proof.Machine.execDwellEnd g s
  | .waitTimeout g => Sys2Proof.Machine.execWaitTimeout g s
  | .gearEngagementEnd g => Sys2Proof.Machine.execGearEngagementEnd g s
  | .homingDone g => Sys2Proof.Machine.execHomingDone g s
  | .homingFailed g => Sys2Proof.Machine.execHomingFailed g s
  | .ikDiverged g => Sys2Proof.Machine.execIkDiverged g s
  | .lynxHold g => Sys2Proof.Machine.execLynxHold g s
  | .lynxInputStale member k => Sys2Proof.Machine.execLynxInputStale member k s
  | .axisEnable ses n => Sys2Proof.Machine.execAxisEnable ses n s
  | .axisDisable ses n => Sys2Proof.Machine.execAxisDisable ses n s
  | .axisLaw ses n current outer law target => Sys2Proof.Machine.execAxisLaw ses n current outer law target s
  | .axisCalibrateOffset ses n frames => Sys2Proof.Machine.execAxisCalibrateOffset ses n frames s
  | .axisCalDone n => Sys2Proof.Machine.execAxisCalDone n s
  | .axisStatus ses n clear => Sys2Proof.Machine.execAxisStatus ses n clear s
  | .brakeRelease n => Sys2Proof.Machine.execBrakeRelease n s
  | .torqueRemoval n => Sys2Proof.Machine.execTorqueRemoval n s
  | .followingError n => Sys2Proof.Machine.execFollowingError n s
  | .overcurrent n => Sys2Proof.Machine.execOvercurrent n s
  | .uplinkMissing n => Sys2Proof.Machine.execUplinkMissing n s
  | .sampleAge n => Sys2Proof.Machine.execSampleAge n s
  | .lawFallback n => Sys2Proof.Machine.execLawFallback n s
  | .tileEvent n entry => Sys2Proof.Machine.execTileEvent n entry s
  | .declaredCountReached n => Sys2Proof.Machine.execDeclaredCountReached n s
  | .nop n => Sys2Proof.Machine.execNop n s
  | .ld n dd o => Sys2Proof.Machine.execLd n dd o s
  | .st n ds o => Sys2Proof.Machine.execSt n ds o s
  | .ld2 n dd de o => Sys2Proof.Machine.execLd2 n dd de o s
  | .ldst n dd ds o => Sys2Proof.Machine.execLdst n dd ds o s
  | .ldaw n ad o => Sys2Proof.Machine.execLdaw n ad o s
  | .ldda n ad o => Sys2Proof.Machine.execLdda n ad o s
  | .stda n src sat o => Sys2Proof.Machine.execStda n src sat o s
  | .addd n ad sat o => Sys2Proof.Machine.execAddd n ad sat o s
  | .subd n ad sat o => Sys2Proof.Machine.execSubd n ad sat o s
  | .mpy n ad sat x y => Sys2Proof.Machine.execMpy n ad sat x y s
  | .mac n ad sat x y => Sys2Proof.Machine.execMac n ad sat x y s
  | .msu n ad sat x y => Sys2Proof.Machine.execMsu n ad sat x y s
  | .macr n ad sat x o => Sys2Proof.Machine.execMacr n ad sat x o s
  | .macm n ad sat o => Sys2Proof.Machine.execMacm n ad sat o s
  | .lda n ad x => Sys2Proof.Machine.execLda n ad x s
  | .adda n ad src sat => Sys2Proof.Machine.execAdda n ad src sat s
  | .suba n ad src sat => Sys2Proof.Machine.execSuba n ad src sat s
  | .sha n ad sat k => Sys2Proof.Machine.execSha n ad sat k s
  | .mva n dd src sat sh => Sys2Proof.Machine.execMva n dd src sat sh s
  | .add n dd sat x y => Sys2Proof.Machine.execAdd n dd sat x y s
  | .sub n dd sat x y => Sys2Proof.Machine.execSub n dd sat x y s
  | .neg n dd sat x => Sys2Proof.Machine.execNeg n dd sat x s
  | .abs n dd sat x => Sys2Proof.Machine.execAbs n dd sat x s
  | .min n dd sat x y => Sys2Proof.Machine.execMin n dd sat x y s
  | .max n dd sat x y => Sys2Proof.Machine.execMax n dd sat x y s
  | .clip n dd x y => Sys2Proof.Machine.execClip n dd x y s
  | .shl n dd sat x k => Sys2Proof.Machine.execShl n dd sat x k s
  | .shr n dd sat x k => Sys2Proof.Machine.execShr n dd sat x k s
  | .and n dd x y => Sys2Proof.Machine.execAnd n dd x y s
  | .or n dd x y => Sys2Proof.Machine.execOr n dd x y s
  | .xor n dd x y => Sys2Proof.Machine.execXor n dd x y s
  | .mov n dd x => Sys2Proof.Machine.execMov n dd x s
  | .ldi n dd imm => Sys2Proof.Machine.execLdi n dd imm s
  | .ldiq n dd imm => Sys2Proof.Machine.execLdiq n dd imm s
  | .cmp n x y => Sys2Proof.Machine.execCmp n x y s
  | .lea n pd ps imm => Sys2Proof.Machine.execLea n pd ps imm s
  | .movp n pd x => Sys2Proof.Machine.execMovp n pd x s
  | .movm n md x => Sys2Proof.Machine.execMovm n md x s
  | .ldip n pd imm => Sys2Proof.Machine.execLdip n pd imm s
  | .ldim n md imm => Sys2Proof.Machine.execLdim n md imm s
  | .setc n c x => Sys2Proof.Machine.execSetc n c x s
  | .movs n dd => Sys2Proof.Machine.execMovs n dd s
  | .trig n pair x => Sys2Proof.Machine.execTrig n pair x s
  | .br n target => Sys2Proof.Machine.execBr n target s
  | .bz n target => Sys2Proof.Machine.execBz n target s
  | .bnz n target => Sys2Proof.Machine.execBnz n target s
  | .bn n target => Sys2Proof.Machine.execBn n target s
  | .bnn n target => Sys2Proof.Machine.execBnn n target s
  | .loop n inner x last => Sys2Proof.Machine.execLoop n inner x last s
  | .pub n grant => Sys2Proof.Machine.execPub n grant s
  | .slotEnd n => Sys2Proof.Machine.execSlotEnd n s
  | .markerReturn p lane ok cmdOk hop r => Sys2Proof.Machine.execMarkerReturn p lane ok cmdOk hop r s
  | .ringBreak p => Sys2Proof.Machine.execRingBreak p s
  | .ringRestored p => Sys2Proof.Machine.execRingRestored p s
  | .commandFrame p => Sys2Proof.Machine.execCommandFrame p s
  | .sampleRecord p slot lane ps code bytes => Sys2Proof.Machine.execSampleRecord p slot lane ps code bytes s
  | .capRecord p slot lane ps code bytes => Sys2Proof.Machine.execCapRecord p slot lane ps code bytes s
  | .calRecord p slot lane ps code bytes => Sys2Proof.Machine.execCalRecord p slot lane ps code bytes s
  | .faultRecord p slot lane ps code bytes => Sys2Proof.Machine.execFaultRecord p slot lane ps code bytes s
  | .moduleUnsync p k => Sys2Proof.Machine.execModuleUnsync p k s
  | .modulePowerOn p k cap id0 id1 => Sys2Proof.Machine.execModulePowerOn p k cap id0 id1 s
  | .moduleMarker p k v ok minor hop nmod ring rvalid at_ => Sys2Proof.Machine.execModuleMarker p k v ok minor hop nmod ring rvalid at_ s
  | .moduleCommandRecord p k minor bytes frameOk at_ => Sys2Proof.Machine.execModuleCommandRecord p k minor bytes frameOk at_ s
  | .moduleApplyDeadline p k => Sys2Proof.Machine.execModuleApplyDeadline p k s
  | .moduleMarkersMissed p k => Sys2Proof.Machine.execModuleMarkersMissed p k s
  | .moduleSampleInstant p k sample => Sys2Proof.Machine.execModuleSampleInstant p k sample s
  | .pwmCommit g at_ => Sys2Proof.Machine.execPwmCommit g at_ s
  | .stagingWrite g reg v => Sys2Proof.Machine.execStagingWrite g reg v s
  | .pwmTrip t level cycles => Sys2Proof.Machine.execPwmTrip t level cycles s
  | .tripClr g => Sys2Proof.Machine.execTripClr g s
  | .clkTimeLoss => Sys2Proof.Machine.execClkTimeLoss s
  | .localSampleBlockReady g at_ sums => Sys2Proof.Machine.execLocalSampleBlockReady g at_ sums s
  | .sdFault inp => Sys2Proof.Machine.execSdFault inp s
  | .fbEdge ch a b at_ => Sys2Proof.Machine.execFbEdge ch a b at_ s
  | .fbInvalid ch => Sys2Proof.Machine.execFbInvalid ch s
  | .indexCapture ch z => Sys2Proof.Machine.execIndexCapture ch z s
  | .serialFrame ch idle bits at_ => Sys2Proof.Machine.execSerialFrame ch idle bits at_ s
  | .fbSample ch at_ => Sys2Proof.Machine.execFbSample ch at_ s
  | .revalid ch => Sys2Proof.Machine.execRevalid ch s
  | .latchEvent src at_ level => Sys2Proof.Machine.execLatchEvent src at_ level s
  | .cmpTgtHiWrite u v => Sys2Proof.Machine.execCmpTgtHiWrite u v s
  | .compareFire u at_ => Sys2Proof.Machine.execCompareFire u at_ s
  | .cmpPulseEnd pin at_ => Sys2Proof.Machine.execCmpPulseEnd pin at_ s
  | .stepCommit n at_ => Sys2Proof.Machine.execStepCommit n at_ s
  | .stepChopStarved c phaseB => Sys2Proof.Machine.execStepChopStarved c phaseB s
  | .ampHold c => Sys2Proof.Machine.execAmpHold c s
  | .badgerCycle at_ edm => Sys2Proof.Machine.execBadgerCycle at_ edm s
  | .tickLost ch => Sys2Proof.Machine.execTickLost ch s
  | .evaluationEnd ch at_ => Sys2Proof.Machine.execEvaluationEnd ch at_ s
  | .stoRequestLine level => Sys2Proof.Machine.execStoRequestLine level s
  | .crossCompare okA okB => Sys2Proof.Machine.execCrossCompare okA okB s
  | .badgerFault ch oscillator => Sys2Proof.Machine.execBadgerFault ch oscillator s
  | .safeInputChange inp ch level us => Sys2Proof.Machine.execSafeInputChange inp ch level us s
  | .discrepancy ch inp at_ => Sys2Proof.Machine.execDiscrepancy ch inp at_ s
  | .testPulseStart ch o => Sys2Proof.Machine.execTestPulseStart ch o s
  | .testPulseCheck ch o on => Sys2Proof.Machine.execTestPulseCheck ch o on s
  | .testPulseEnd ch o closed => Sys2Proof.Machine.execTestPulseEnd ch o closed s
  | .edmFault ch o at_ => Sys2Proof.Machine.execEdmFault ch o at_ s
  | .ss1Tmax ch g at_ => Sys2Proof.Machine.execSs1Tmax ch g at_ s
  | .standstillConfirmed ch g => Sys2Proof.Machine.execStandstillConfirmed ch g s
  | .sposStale ch axis => Sys2Proof.Machine.execSposStale ch axis s
  | .slsDelay ch g at_ => Sys2Proof.Machine.execSlsDelay ch g at_ s
  | .redDelay ch g at_ => Sys2Proof.Machine.execRedDelay ch g at_ s
  | .sepClear ch g => Sys2Proof.Machine.execSepClear ch g s
  | .safeFrame p4 at_ bytes => Sys2Proof.Machine.execSafeFrame p4 at_ bytes s
  | .connTimeout ch c at_ => Sys2Proof.Machine.execConnTimeout ch c at_ s
  | .safeMessageSend c => Sys2Proof.Machine.execSafeMessageSend c s
  | .safetyStatus ses => Sys2Proof.Machine.execSafetyStatus ses s
  | .safetyParamPutData ses ofs total data => Sys2Proof.Machine.execSafetyParamPutData ses ofs total data s
  | .safetyParamPutAbort ses total => Sys2Proof.Machine.execSafetyParamPutAbort ses total s
  | .safetyParamCommit ses sig => Sys2Proof.Machine.execSafetyParamCommit ses sig s
  | .setDelivered => Sys2Proof.Machine.execSetDelivered s
  | .badgerSelftestEnd ch passed => Sys2Proof.Machine.execBadgerSelftestEnd ch passed s
  | .ptpMeasurement port offset gm at_ => Sys2Proof.Machine.execPtpMeasurement port offset gm at_ s
  | .holdTmo at_ => Sys2Proof.Machine.execHoldTmo at_ s
  | .timePermitExpired => Sys2Proof.Machine.execTimePermitExpired s
  | .ptpTransmit port kind => Sys2Proof.Machine.execPtpTransmit port kind s
  | .ethernetFrameReceive port at_ bytes => Sys2Proof.Machine.execEthernetFrameReceive port at_ bytes s
  | .queueHead port q frame at_ => Sys2Proof.Machine.execQueueHead port q frame at_ s
  | .launchTime port q at_ => Sys2Proof.Machine.execLaunchTime port q at_ s
  | .gateControlInterval port at_ => Sys2Proof.Machine.execGateControlInterval port at_ s
  | .txtsIdRead port => Sys2Proof.Machine.execTxtsIdRead port s
  | .cellTick port at_ bytes => Sys2Proof.Machine.execCellTick port at_ bytes s
  | .clStatusFrame port bytes => Sys2Proof.Machine.execClStatusFrame port bytes s
  | .peerFrame port at_ bytes => Sys2Proof.Machine.execPeerFrame port at_ bytes s
  | .clSafeFrame port at_ bytes => Sys2Proof.Machine.execClSafeFrame port at_ bytes s
  | .tickMissing at_ => Sys2Proof.Machine.execTickMissing at_ s
  | .masterHandover => Sys2Proof.Machine.execMasterHandover s
  | .cellForm at_ => Sys2Proof.Machine.execCellForm at_ s
  | .memberLost k => Sys2Proof.Machine.execMemberLost k s
  | .cellIsolated => Sys2Proof.Machine.execCellIsolated s
  | .clWindow => Sys2Proof.Machine.execClWindow s
  | .canFrameReceived c at_ frame => Sys2Proof.Machine.execCanFrameReceived c at_ frame s
  | .canFrameStart c => Sys2Proof.Machine.execCanFrameStart c s
  | .canTxSuccess c at_ => Sys2Proof.Machine.execCanTxSuccess c at_ s
  | .canArbitrationLost c => Sys2Proof.Machine.execCanArbitrationLost c s
  | .canError c lec inData dominant heavy => Sys2Proof.Machine.execCanError c lec inData dominant heavy s
  | .busOffRecovery c => Sys2Proof.Machine.execBusOffRecovery c s
  | .boDelay c => Sys2Proof.Machine.execBoDelay c s
  | .txreqWrite bus c mask => Sys2Proof.Machine.execTxreqWrite bus c mask s
  | .txcanWrite bus c mask => Sys2Proof.Machine.execTxcanWrite bus c mask s
  | .canInitWrite bus c => Sys2Proof.Machine.execCanInitWrite bus c s
  | .rxfPop bus c => Sys2Proof.Machine.execRxfPop bus c s
  | .hpFullClear bus c mask => Sys2Proof.Machine.execHpFullClear bus c mask s
  | .txBufferWrite bus c buf w v => Sys2Proof.Machine.execTxBufferWrite bus c buf w v s
  | .ioWriteCan ses c obj dlc flags data => Sys2Proof.Machine.execIoWriteCan ses c obj dlc flags data s
  | .ioReadCan ses c obj => Sys2Proof.Machine.execIoReadCan ses c obj s
  | .fieldInputChange k level cycles => Sys2Proof.Machine.execFieldInputChange k level cycles s
  | .fieldOutFault k overtemp => Sys2Proof.Machine.execFieldOutFault k overtemp s
  | .foFaultClear mask => Sys2Proof.Machine.execFoFaultClear mask s
  | .foCmdWrite bus v => Sys2Proof.Machine.execFoCmdWrite bus v s
  | .watchdogFeed bus g key at_ => Sys2Proof.Machine.execWatchdogFeed bus g key at_ s
  | .rearm bus g at_ => Sys2Proof.Machine.execRearm bus g at_ s
  | .foEnClear bus g => Sys2Proof.Machine.execFoEnClear bus g s
  | .fieldWdExpired g at_ => Sys2Proof.Machine.execFieldWdExpired g at_ s
  | .holdWin at_ => Sys2Proof.Machine.execHoldWin at_ s
  | .fieldSupply supply v => Sys2Proof.Machine.execFieldSupply supply v s
  | .ioWriteField ses mask states => Sys2Proof.Machine.execIoWriteField ses mask states s
  | .ioReadField ses => Sys2Proof.Machine.execIoReadField ses s
  | .ioCompareSetArm ses u target => Sys2Proof.Machine.execIoCompareSetArm ses u target s
  | .ioCompareSetCancel ses u target => Sys2Proof.Machine.execIoCompareSetCancel ses u target s
  | .timeStatus ses => Sys2Proof.Machine.execTimeStatus ses s
  | .timePermitStep ses limit => Sys2Proof.Machine.execTimePermitStep ses limit s
  | .recordRead ses ring count start lo hi => Sys2Proof.Machine.execRecordRead ses ring count start lo hi s
  | .recordCommitRead ses pos len => Sys2Proof.Machine.execRecordCommitRead ses pos len s
  | .dumpRead ses ofs len => Sys2Proof.Machine.execDumpRead ses ofs len s
  | .dumpClear ses => Sys2Proof.Machine.execDumpClear ses s
  | .dumpWriteComplete => Sys2Proof.Machine.execDumpWriteComplete s
  | .fatalTimer => Sys2Proof.Machine.execFatalTimer s
  | .coreWatchdog core at_ => Sys2Proof.Machine.execCoreWatchdog core at_ s
  | .eccError mem at_ => Sys2Proof.Machine.execEccError mem at_ s
  | .lockstepSpotCheck matched tile at_ => Sys2Proof.Machine.execLockstepSpotCheck matched tile at_ s
  | .scrub mem addr err pass at_ => Sys2Proof.Machine.execScrub mem addr err pass at_ s
  | .pwmReadback g ch level => Sys2Proof.Machine.execPwmReadback g ch level s
  | .powerOn cellId testMode => Sys2Proof.Machine.execPowerOn cellId testMode s
  | .resetN low cellId testMode => Sys2Proof.Machine.execResetN low cellId testMode s
  | .brownOut => Sys2Proof.Machine.execBrownOut s
  | .bootImage slot0 slot1 fuse => Sys2Proof.Machine.execBootImage slot0 slot1 fuse s
  | .powerUpSelftestDone failed => Sys2Proof.Machine.execPowerUpSelftestDone failed s
  | .cellSelftestOnline ses => Sys2Proof.Machine.execCellSelftestOnline ses s
  | .cellSelftestFull ses => Sys2Proof.Machine.execCellSelftestFull ses s
  | .selftestDone failed at_ => Sys2Proof.Machine.execSelftestDone failed at_ s
  | .testResult ses => Sys2Proof.Machine.execTestResult ses s
  | .powerVcore ses mv => Sys2Proof.Machine.execPowerVcore ses mv s
  | .vcoreStep at_ => Sys2Proof.Machine.execVcoreStep at_ s
  | .vcoreTimeout powerGood at_ => Sys2Proof.Machine.execVcoreTimeout powerGood at_ s
  | .powerGoodLost => Sys2Proof.Machine.execPowerGoodLost s
  | .thermal sensor temp => Sys2Proof.Machine.execThermal sensor temp s
  | .clockLost dom at_ => Sys2Proof.Machine.execClockLost dom at_ s
  | .powerStateRun ses => Sys2Proof.Machine.execPowerStateRun ses s
  | .ungate at_ => Sys2Proof.Machine.execUngate at_ s
  | .powerStateArmsIdle ses mask => Sys2Proof.Machine.execPowerStateArmsIdle ses mask s
  | .powerStateStandby ses timer => Sys2Proof.Machine.execPowerStateStandby ses timer s
  | .powerStateDeep ses timer => Sys2Proof.Machine.execPowerStateDeep ses timer s
  | .powerStateRestart ses => Sys2Proof.Machine.execPowerStateRestart ses s
  | .feladeRestart slot build hash at_ => Sys2Proof.Machine.execFeladeRestart slot build hash at_ s
  | .wake src => Sys2Proof.Machine.execWake src s
  | .standbyResume at_ => Sys2Proof.Machine.execStandbyResume at_ s
  | .padHoldLatch => Sys2Proof.Machine.execPadHoldLatch s
  | .padHoldRelease => Sys2Proof.Machine.execPadHoldRelease s
  | .safetyDieResetRelease ch => Sys2Proof.Machine.execSafetyDieResetRelease ch s
  | .vsoutUndervoltage low => Sys2Proof.Machine.execVsoutUndervoltage low s
  | .moduleFault p k code stands => Sys2Proof.Machine.execModuleFault p k code stands s
  | .powerGoodReturn => Sys2Proof.Machine.execPowerGoodReturn s

end Sys2Proof.Machine
end

