-- ==== Sys2Proof/Machine/TileCode.lean ====
section
/-!
DEFINITION. Instruction words of the loop tiles (R197, R198, Tables 8-5 and 8-6): the word of each tile instruction, and the
instruction that a word spells.
-/
namespace Sys2Proof.Machine

/-- Modes of a memory operand (Table 8-5). -/
def PMode.bits : PMode → Nat
  | .none => 0
  | .inc => 1
  | .dec => 2
  | .mod => 3

def PMode.ofBits (k : Nat) : PMode := if k = 0 then .none else if k = 1 then .inc else if k = 2 then .dec else .mod

/-- Class fields M and MM. -/
def memBits (o : MemOp) : Nat := o.p.val * 2 ^ 13 + o.mode.bits * 2 ^ 11 + o.m.val * 2 ^ 9

def mem2Bits (o : MemOp2) : Nat :=
  o.p.val * 2 ^ 13 + o.pmode.bits * 2 ^ 11 + o.q.val * 2 ^ 8 + o.qmode.bits * 2 ^ 6 + o.m.val * 2 ^ 4

/-- A word from its fields: opcode, S, destination, source 1, source 2, class field. -/
def tword (op : Nat) (s : Bool) (dst s1 s2 low : Nat) : Word :=
  BitVec.ofNat 32 (op * 2 ^ 26 + s.toNat * 2 ^ 25 + dst * 2 ^ 22 + s1 * 2 ^ 19 + s2 * 2 ^ 16 + low)

/-- The word of a tile instruction; no other command has one. Where S changes nothing it is 0. -/
def tileWord : Instr → Option Word
  | .nop _ => some (tword 0x00 false 0 0 0 0)
  | .ld _ dd o => some (tword 0x01 false dd 0 0 (memBits o))
  | .st _ ds o => some (tword 0x02 false 0 ds 0 (memBits o))
  | .ld2 _ dd de o => some (tword 0x03 false dd de 0 (mem2Bits o))
  | .ldst _ dd ds o => some (tword 0x04 false dd ds 0 (mem2Bits o))
  | .ldaw _ ad o => some (tword 0x05 false ad 0 0 (memBits o))
  | .ldda _ ad o => some (tword 0x06 false ad 0 0 (memBits o))
  | .stda _ src sat o => some (tword 0x07 sat 0 src 0 (memBits o))
  | .addd _ ad sat o => some (tword 0x08 sat ad 0 0 (memBits o))
  | .subd _ ad sat o => some (tword 0x09 sat ad 0 0 (memBits o))
  | .mpy _ ad sat x y => some (tword 0x0A sat ad x y 0)
  | .mac _ ad sat x y => some (tword 0x0B sat ad x y 0)
  | .msu _ ad sat x y => some (tword 0x0C sat ad x y 0)
  | .macr _ ad sat x o => some (tword 0x0D sat ad x 0 (memBits o))
  | .macm _ ad sat o => some (tword 0x0E sat ad 0 0 (mem2Bits o))
  | .lda _ ad x => some (tword 0x0F false ad x 0 0)
  | .adda _ ad src sat => some (tword 0x10 sat ad src 0 0)
  | .suba _ ad src sat => some (tword 0x11 sat ad src 0 0)
  | .sha _ ad sat k => some (tword 0x12 sat ad 0 0 k.toNat)
  | .mva _ dd src sat sh => some (tword 0x13 sat dd src 0 sh)
  | .add _ dd sat x y => some (tword 0x14 sat dd x y 0)
  | .sub _ dd sat x y => some (tword 0x15 sat dd x y 0)
  | .neg _ dd sat x => some (tword 0x16 sat dd x 0 0)
  | .abs _ dd sat x => some (tword 0x17 sat dd x 0 0)
  | .min _ dd sat x y => some (tword 0x18 sat dd x y 0)
  | .max _ dd sat x y => some (tword 0x19 sat dd x y 0)
  | .clip _ dd x y => some (tword 0x1A false dd x y 0)
  | .shl _ dd sat x k => some (tword 0x1B sat dd x 0 k)
  | .shr _ dd sat x k => some (tword 0x1C sat dd x 0 k)
  | .and _ dd x y => some (tword 0x1D false dd x y 0)
  | .or _ dd x y => some (tword 0x1E false dd x y 0)
  | .xor _ dd x y => some (tword 0x1F false dd x y 0)
  | .mov _ dd x => some (tword 0x20 false dd x 0 0)
  | .ldi _ dd imm => some (tword 0x21 false dd 0 0 imm.toNat)
  | .ldiq _ dd imm => some (tword 0x22 false dd 0 0 imm.toNat)
  | .cmp _ x y => some (tword 0x23 false 0 x y 0)
  | .lea _ pd ps imm => some (tword 0x24 false pd ps 0 imm.toNat)
  | .movp _ pd x => some (tword 0x25 false pd x 0 0)
  | .movm _ md x => some (tword 0x26 false md x 0 0)
  | .ldip _ pd imm => some (tword 0x27 false pd 0 0 imm.toNat)
  | .ldim _ md imm => some (tword 0x28 false md 0 0 imm.toNat)
  | .setc _ c x => some (tword 0x29 false c x 0 0)
  | .movs _ dd => some (tword 0x2A false dd 0 0 0)
  | .trig _ pair x => some (tword 0x2B false (2 * pair.val) x 0 0)
  | .br _ target => some (tword 0x30 false 0 0 0 target.toNat)
  | .bz _ target => some (tword 0x31 false 0 0 0 target.toNat)
  | .bnz _ target => some (tword 0x32 false 0 0 0 target.toNat)
  | .bn _ target => some (tword 0x33 false 0 0 0 target.toNat)
  | .bnn _ target => some (tword 0x34 false 0 0 0 target.toNat)
  | .loop _ inner x last => some (tword 0x35 false inner.toNat x 0 last.toNat)
  | .pub _ grant => some (tword 0x36 false 0 0 0 grant)
  | .slotEnd _ => some (tword 0x37 false 0 0 0 0)
  | _ => none

/-- Register fields of a word. -/
def fld8 (w : Word) (lo : Nat) : Fin 8 := ⟨w.toNat / 2 ^ lo % 8, Nat.mod_lt _ (by decide)⟩
def fld4 (w : Word) (lo : Nat) : Fin 4 := ⟨w.toNat / 2 ^ lo % 4, Nat.mod_lt _ (by decide)⟩
def fld2 (w : Word) (lo : Nat) : Fin 2 := ⟨w.toNat / 2 ^ lo % 2, Nat.mod_lt _ (by decide)⟩

def memOf (w : Word) : MemOp :=
  { p := fld8 w 13, mode := .ofBits (twLow w / 2 ^ 11 % 4), m := fld4 w 9 }

def mem2Of (w : Word) : MemOp2 :=
  { p := fld8 w 13, pmode := .ofBits (twLow w / 2 ^ 11 % 4), q := fld8 w 8, qmode := .ofBits (twLow w / 2 ^ 6 % 4), m := fld4 w 4 }

/-- The instruction of tile `n` by opcode. -/
def tileOp (n : Fin 16) (w : Word) : Nat → Option Instr
  | 0x00 => some (.nop n)
  | 0x01 => some (.ld n (fld8 w 22) (memOf w))
  | 0x02 => some (.st n (fld8 w 19) (memOf w))
  | 0x03 => some (.ld2 n (fld8 w 22) (fld8 w 19) (mem2Of w))
  | 0x04 => some (.ldst n (fld8 w 22) (fld8 w 19) (mem2Of w))
  | 0x05 => some (.ldaw n (fld2 w 22) (memOf w))
  | 0x06 => some (.ldda n (fld2 w 22) (memOf w))
  | 0x07 => some (.stda n (fld2 w 19) (twS w) (memOf w))
  | 0x08 => some (.addd n (fld2 w 22) (twS w) (memOf w))
  | 0x09 => some (.subd n (fld2 w 22) (twS w) (memOf w))
  | 0x0A => some (.mpy n (fld2 w 22) (twS w) (fld8 w 19) (fld8 w 16))
  | 0x0B => some (.mac n (fld2 w 22) (twS w) (fld8 w 19) (fld8 w 16))
  | 0x0C => some (.msu n (fld2 w 22) (twS w) (fld8 w 19) (fld8 w 16))
  | 0x0D => some (.macr n (fld2 w 22) (twS w) (fld8 w 19) (memOf w))
  | 0x0E => some (.macm n (fld2 w 22) (twS w) (mem2Of w))
  | 0x0F => some (.lda n (fld2 w 22) (fld8 w 19))
  | 0x10 => some (.adda n (fld2 w 22) (fld2 w 19) (twS w))
  | 0x11 => some (.suba n (fld2 w 22) (fld2 w 19) (twS w))
  | 0x12 => some (.sha n (fld2 w 22) (twS w) (BitVec.ofNat 6 (twLow w)))
  | 0x13 => some (.mva n (fld8 w 22) (fld2 w 19) (twS w) ⟨twLow w % 10, Nat.mod_lt _ (by decide)⟩)
  | 0x14 => some (.add n (fld8 w 22) (twS w) (fld8 w 19) (fld8 w 16))
  | 0x15 => some (.sub n (fld8 w 22) (twS w) (fld8 w 19) (fld8 w 16))
  | 0x16 => some (.neg n (fld8 w 22) (twS w) (fld8 w 19))
  | 0x17 => some (.abs n (fld8 w 22) (twS w) (fld8 w 19))
  | 0x18 => some (.min n (fld8 w 22) (twS w) (fld8 w 19) (fld8 w 16))
  | 0x19 => some (.max n (fld8 w 22) (twS w) (fld8 w 19) (fld8 w 16))
  | 0x1A => some (.clip n (fld8 w 22) (fld8 w 19) (fld8 w 16))
  | 0x1B => some (.shl n (fld8 w 22) (twS w) (fld8 w 19) ⟨twLow w % 24, Nat.mod_lt _ (by decide)⟩)
  | 0x1C => some (.shr n (fld8 w 22) (twS w) (fld8 w 19) ⟨twLow w % 24, Nat.mod_lt _ (by decide)⟩)
  | 0x1D => some (.and n (fld8 w 22) (fld8 w 19) (fld8 w 16))
  | 0x1E => some (.or n (fld8 w 22) (fld8 w 19) (fld8 w 16))
  | 0x1F => some (.xor n (fld8 w 22) (fld8 w 19) (fld8 w 16))
  | 0x20 => some (.mov n (fld8 w 22) (fld8 w 19))
  | 0x21 => some (.ldi n (fld8 w 22) (BitVec.ofNat 16 (twLow w)))
  | 0x22 => some (.ldiq n (fld8 w 22) (BitVec.ofNat 16 (twLow w)))
  | 0x23 => some (.cmp n (fld8 w 19) (fld8 w 16))
  | 0x24 => some (.lea n (fld8 w 22) (fld8 w 19) (BitVec.ofNat 16 (twLow w)))
  | 0x25 => some (.movp n (fld8 w 22) (fld8 w 19))
  | 0x26 => some (.movm n (fld4 w 22) (fld8 w 19))
  | 0x27 => some (.ldip n (fld8 w 22) (BitVec.ofNat 16 (twLow w)))
  | 0x28 => some (.ldim n (fld4 w 22) (BitVec.ofNat 16 (twLow w)))
  | 0x29 => some (.setc n (fld4 w 22) (fld8 w 19))
  | 0x2A => some (.movs n (fld8 w 22))
  | 0x2B => some (.trig n ⟨w.toNat / 2 ^ 23 % 4, Nat.mod_lt _ (by decide)⟩ (fld8 w 19))
  | 0x30 => some (.br n (BitVec.ofNat 13 (twLow w)))
  | 0x31 => some (.bz n (BitVec.ofNat 13 (twLow w)))
  | 0x32 => some (.bnz n (BitVec.ofNat 13 (twLow w)))
  | 0x33 => some (.bn n (BitVec.ofNat 13 (twLow w)))
  | 0x34 => some (.bnn n (BitVec.ofNat 13 (twLow w)))
  | 0x35 => some (.loop n (decide (twDst w = 1)) (fld8 w 19) (BitVec.ofNat 13 (twLow w)))
  | 0x36 => some (.pub n ⟨twLow w % 32, Nat.mod_lt _ (by decide)⟩)
  | 0x37 => some (.slotEnd n)
  | _ => none

/-- The instruction of tile `n` that a word spells; none where the word is no defined instruction (R197, R204). -/
def tileDecode (n : Fin 16) (w : Word) : Option Instr := if tDefined w then tileOp n w (twOp w) else none

end Sys2Proof.Machine
end

