-- ==== Sys2Proof/Safety.lean ====
section
/-!
DEFINITION. What counts as safe, and the views of the state in which claims are stated.
-/
namespace Sys2Proof.Machine

/-! ### Badgers -/

/-- A channel that is not ACTIVE holds every output switch of its own open (R300, R325). -/
def Badger.quiet (x : Badger) : Prop := x.st ≠ .active → x.sw = 0

/-- Both channels. -/
def Safety.quiet (s : Safety) : Prop := s.a.quiet ∧ s.b.quiet

/-- Output `o` is on: both Badgers hold it on, no test pulse opens it, and VSOUT is there (R20, R310, R464). -/
def Safety.outputOn (s : Safety) (o : Nat) : Bool :=
  !s.vsoutLow && s.a.sw.testBit o && s.b.sw.testBit o && !s.a.pulse.testBit o && !s.b.pulse.testBit o

/-- A Badger that sends comparison messages (R302, R303). -/
def Badger.talks (x : Badger) : Prop := x.on = true ∧ x.st ≠ .fault ∧ x.st ≠ .init

/-- A Badger in FAULT with `cause`: every STO group in STO, its own switches off (R303). -/
def Badger.faulted (x : Badger) (cause : Nat) : Prop :=
  x.st = .fault ∧ x.cause = cause ∧ x.sw = 0 ∧ x.pulse = 0 ∧ ∀ k : Fin 9, (x.g k).st = .sto

/-! ### What a command leaves alone -/

/-- The state with another motion die; nothing else differs. -/
def State.withDev (s : State) (d : Dev) : State := { s with blk := { s.blk with dev := d } }

/-- The state with other Badgers and another motion die; nothing else differs. -/
def State.withSaf (s : State) (f : Safety) (d : Dev) : State := { s with blk := { s.blk with saf := f, dev := d } }

/-- Only the motion and field dice are touched. -/
def State.onlyDev (s t : State) : Prop :=
  t.pending = s.pending ∧ t.blk.was = s.blk.was ∧ t.blk.saf = s.blk.saf ∧ t.blk.tiles = s.blk.tiles

/-- A step on tile `n` leaves everything else: the queue, the dice, the Badgers, the snapshot, the other tiles. -/
def State.onlyTile (s t : State) (n : Nat) : Prop :=
  t.pending = s.pending ∧ t.blk.dev = s.blk.dev ∧ t.blk.was = s.blk.was ∧ t.blk.saf = s.blk.saf ∧
  ∀ m, m ≠ n → t.blk.tile m = s.blk.tile m

/-- Every register but those listed reads as before. -/
def Dev.sameRegsBut (d e : Dev) (l : List Nat) : Prop := ∀ a, a ∉ l → e.reg a = d.reg a

/-- The registers in which a record raised outside a time base shows (R428). -/
def recordRegs : List Nat := [(Fld.REC_NEWEST_INDEX).addr, (Fld.REC_OLDEST_INDEX).addr]

/-- Command `c` completes on `s`, and the next state is as `P` says. -/
def Completes (c : Instr) (s : State) (P : State → Prop) : Prop := ∃ t, exec c s = .next t ∧ P t

/-! ### Mailbox commands as rows of their own -/

/-- Command `cmd` reaches its full validation: powered, and accepted in the present device state (R45, R84, Table 3-10). -/
def State.takes (s : State) (cmd : Nat) : Prop := s.blk.dev.has 1 = true ∧ stateCheck s.blk.dev cmd = none

/-- The command of session `ses` is refused with `status` and `detail`, and nothing else happens. -/
def Refuses (c : Instr) (s : State) (ses : Fin 32) (cmd status detail : Nat) : Prop :=
  exec c s = .next (s.withDev (s.blk.dev.settle ses cmd s.blk.dev.now { status := status, detail := detail }))

/-- Request `r` of session `ses` has entered: it waits, stamped, for its cutoff, is counted as unanswered, and its SEQ is the highest
accepted (R46, R62, R69); the registers of sessions, if any, are those named in `l`. -/
def Dev.entered (d e : Dev) (ses : Nat) (r : Request) (l : List Nat) : Prop :=
  e.rmt.reqs = d.rmt.reqs ++ [[r]] ∧ (e.session ses).order = (d.session ses).order ++ [((d.session ses).nextTok, none)] ∧
  (e.session ses).seq = max (d.session ses).seq r.seq ∧ e.out = d.out ∧ d.sameRegsBut e l

/-! ### Groups -/

/-- Only group `k` and its axes are touched, besides what they drive: no other group, no other axis, no frame, batch, image or link. -/
def Dev.onlyGroup (d e : Dev) (k : Nat) : Prop :=
  (∀ j, j ≠ k → e.group j = d.group j) ∧ (∀ n, n ∉ (d.gcfg k).axes → e.axis n = d.axis n) ∧
  e.esc = d.esc ∧ e.rmt = d.rmt ∧ e.img = d.img ∧ e.dl = d.dl

/-- Only axis `n` is touched, besides what it drives. -/
def Dev.onlyAxis (d e : Dev) (n : Nat) : Prop :=
  (∀ m, m ≠ n → e.axis m = d.axis m) ∧ e.grp = d.grp ∧ e.esc = d.esc ∧ e.rmt = d.rmt ∧ e.img = d.img ∧ e.dl = d.dl

/-- Only CAN controller `n`, its registers, records, outputs and the free-value counter differ. -/
def Dev.onlyCan (d e : Dev) (n : Nat) : Prop :=
  e.ax = d.ax ∧ e.grp = d.grp ∧ e.rmt = d.rmt ∧ e.esc = d.esc ∧ e.net = d.net ∧ ∀ m, m ≠ n → e.can m = d.can m

/-! ### The safety channel -/

/-- Only what the Badgers report to the motion die differs: registers, its side of the safety channel, records. -/
def Dev.onlyBad (d e : Dev) : Prop := e = { d with regs := e.regs, bad := e.bad, rec_ := e.rec_ }

/-- An event of channel `ch`, ACTIVE, leaves it as `y`, the other channel as it was, and reports. -/
def BadgerDoes (c : Instr) (s : State) (ch : Fin 2) (P : Badger → Prop) : Prop :=
  ∃ (e : Dev) (y : Badger), exec c s = .next (s.withSaf (s.blk.saf.setCh ch y) e) ∧ s.blk.dev.onlyBad e ∧ P y

/-! ### Local inputs and outputs -/

/-- STANDBY or DEEP has been entered (R445): no time base, the motion pads and every field group latched, each group at its safe bits, the
AON timer set, the tiles off; images, Badgers and the queue are as before. -/
def State.sleeps (s t : State) (timer : Nat) : Prop :=
  t.blk.dev.running = false ∧ t.blk.dev.b Fld.PAD_HOLD_HELD = true ∧ t.blk.dev.f Fld.PAD_HOLD_FIELD_HELD = 15 ∧
  (∀ g, g < 4 → t.blk.dev.b (Fld.FO_GRP_WD_EXPIRED g) = true) ∧ t.blk.dev.f Fld.AON_TIMER_SECONDS = timer ∧
  t.blk.dev.img = s.blk.dev.img ∧ t.blk.tiles = [] ∧ t.blk.saf = s.blk.saf ∧ t.pending = s.pending

/-- The motion die has started at BOOT with RESET_CAUSE `cause` (Table 19-4): no time base, no image, no tile program; the Badgers and the
queue are as before. -/
def State.boots (s t : State) (cause : Nat) : Prop :=
  t.blk.dev.state = 1 ∧ t.blk.dev.running = false ∧ t.blk.dev.pwr.cause = cause ∧ t.blk.dev.img.run = none ∧ t.blk.dev.alive = true ∧
  t.blk.saf = s.blk.saf ∧ t.pending = s.pending

/-- Only the field die, its registers, records, interrupts and the free-value counter differ. -/
def Dev.onlyField (d e : Dev) : Prop :=
  e = { d with regs := e.regs, io := { d.io with field := e.io.field }, rec_ := e.rec_, out := e.out, fresh := e.fresh } ∧
  ∀ a, a < 0x900000 ∨ 0xC00000 ≤ a → e.reg a = d.reg a

/-- The outputs of group `g` have supply, none is joined, and the group is neither held nor latched (R400, R404, R405, R449). -/
def Dev.foPlain (d : Dev) (g : Nat) : Prop :=
  foUv d g = false ∧ d.f (Fld.FO_GRP_CFG_PAR g) = 0 ∧ d.b (Fld.FO_GRP_WD_HOLD g) = false ∧ (d.f Fld.PAD_HOLD_FIELD_HELD).testBit g = false

/-- Fatal handling has begun (R423, R424): outputs forced, the STO request line asserted, the field groups at their safe bits, the links
silent, FATAL_STOP in the ring; the dump is being written unless one is held. Images, power and the network part are as before. -/
def Dev.fatalled (d e : Dev) (cause detail at_ : Nat) : Prop :=
  e.rec_.fatal = some (cause, detail, at_) ∧ e.b Fld.REC_FLAGS_FATAL = true ∧ e.b Fld.PWM_FORCE_FATAL = true ∧ e.bad.line = true ∧
  e.esc.linksCut = true ∧ (∀ g, g < 4 → e.b (Fld.FO_GRP_WD_EXPIRED g) = true) ∧ (∀ c, c < 2 → e.b (Fld.CAN_CTRL_INIT c) = true) ∧
  (∃ r ∈ e.rec_.dram, r.2.code = 0x0010 ∧ r.2.p0 = cause ∧ r.2.p1 = min detail (2 ^ 32 - 1)) ∧
  e.rec_.dumping = !d.rec_.dumpHeld ∧ e.rec_.dump = d.rec_.dump ∧ e.rec_.dumpHeld = d.rec_.dumpHeld ∧
  e.img = d.img ∧ e.pwr = d.pwr ∧ e.net = d.net ∧ e.ax = d.ax ∧ e.grp = d.grp

/-- SAFE-TALK after a warm reset (R89, R424): no time base, the STO request line asserted, the tiles without their programs; the Badgers
and the queue are as before. -/
def State.inSafeTalk (s t : State) : Prop :=
  t.blk.dev.state = 3 ∧ t.blk.dev.running = false ∧ t.blk.dev.pwr.cause = 3 ∧ t.blk.dev.bad.line = true ∧ t.blk.dev.rec_.fatal = none ∧
  t.blk.tiles = [] ∧ t.blk.saf = s.blk.saf ∧ t.pending = s.pending

/-- Only registers, local inputs and outputs and records differ. -/
def Dev.onlyIo (d e : Dev) : Prop := e = { d with regs := e.regs, io := e.io, rec_ := e.rec_ }

/-- A record of the next major frame has been raised as the newest one. -/
def Dev.raisedNext (d e : Dev) (code source : Nat) (p0 p1 p2 : Int) : Prop :=
  e.rec_ = { d.rec_ with next := d.rec_.next ++ [mkRecord (d.esc.maj + 1) code source p0 p1 p2] }

/-- The switches of a channel are never on together: no on-interval of one meets one of the other. -/
def Wave.apart (w : Wave) : Prop :=
  match w with
  | .run high low => ∀ x ∈ high, ∀ y ∈ low, x.2 ≤ y.1 ∨ y.2 ≤ x.1
  | _ => True

/-! ### Frames -/

/-- The length of a minor frame lies within 2 % of the configured one (R37). -/
def Dev.lengthOk (d : Dev) (len : Nat) : Prop := d.tMinor ≤ len + d.tMinor / 50 ∧ len ≤ d.tMinor + d.tMinor / 50

/-- The boundary that leads from `d` to `e` obeys R37 where the one before it did: its length is within 2 % of the configured length
and 16 ns (12 whole cycles of 1.25 ns) of the length before, the configured one where none has ended yet. -/
def Dev.boundaryOk (d e : Dev) : Prop :=
  e.esc.t0 = d.esc.t0 + e.esc.prevLen ∧
  (d.esc.prevLen = 0 ∨ e.lengthOk d.esc.prevLen →
    let p := if d.esc.prevLen = 0 then e.tMinor else d.esc.prevLen
    e.lengthOk e.esc.prevLen ∧ p ≤ e.esc.prevLen + 12 ∧ e.esc.prevLen ≤ p + 12)

/-- Source `n` may be selected: allowed, valid, and not barred by R36. -/
def Dev.mayUse (d : Dev) (n : Nat) : Prop :=
  n = 3 ∨ ((d.f Fld.ESC_SRC_ALLOW).testBit n = true ∧ sourceValid d n = true ∧ tget 0 d.esc.bar n = 0)

/-! ### Loop tiles -/

/-- A result in its destination's range: with S set the nearest end, with S clear the low bits (R190). -/
def inRange (w : Nat) (s : Bool) (x : Int) : BitVec w :=
  if s then BitVec.ofInt w (max (-(2 ^ (w - 1) : Nat)) (min ((2 ^ (w - 1) : Nat) - 1) x)) else BitVec.ofInt w x

/-- A saturation acts (R190). -/
def saturates (w : Nat) (s : Bool) (x : Int) : Bool := s && (decide (x < -(2 ^ (w - 1) : Nat)) || decide (((2 ^ (w - 1) : Nat) - 1 : Int) < x))

/-- A tile as the instruction that issues in cycle `cyc` sees it: what is due has landed (R193). -/
def Tile.seenAt (t : Tile) (cyc : Nat) : Tile := { t with cyc := cyc }.land

/-- An instruction issues normally on a tile: no delay slot is outstanding, no trigger waits for one, and the sandbox lets it
(R188, R194, R205). -/
def Tile.ready (t : Tile) : Prop :=
  t.land.brokenBefore = 0 ∧ t.ctx.delay = 0 ∧ (t.inEvent = false → t.heldTrig = [])

/-- Tile `u` after an instruction of `cycles` cycles that leaves the context `c`, issues the writes `w` (R193) and leaves the data memory
`m`; control goes on at the next instruction, or at the start of a loop body at its end (R194). -/
def Tile.done (u : Tile) (cycles : Nat) (c : TCtx) (w : List TWrite) (m : Tab DWord) : Tile :=
  ({ u.setCtx (nextPc c) with pipe := w.foldl (fun p x => pipeIns x p) u.pipe, data := m }).tick cycles

/-- A write of the context that runs, with result latency `lat` (R193). -/
def Tile.write (u : Tile) (lat : Nat) (d : TDest) (v : Acc) : TWrite := { due := u.cyc + lat, event := u.inEvent, dest := d, val := v }
def Tile.writeD (u : Tile) (lat : Nat) (n : Fin 8) (v : DWord) : TWrite := u.write lat (.d n) (v.setWidth 56)

/-- The post-modify of a memory operand: none in mode none, else the pointer, seen by the next instruction (R193, R195). -/
def Tile.modify (u : Tile) (p : Fin 8) (mode : PMode) (m : Fin 4) (step : Nat) : List TWrite :=
  if mode = .none then [] else [u.write 1 (.p p) ((u.stepped p mode m step).setWidth 56)]

/-- Tile `n` completes an instruction as `Tile.done` says, and nothing else of the block changes. -/
def TileDoes (c : Instr) (s : State) (n : Fin 16) (cycles : Nat) (ctx : TCtx) (w : List TWrite) (m : Tab DWord) : Prop :=
  Completes c s (fun t => t.blk.tile n = (s.blk.tile n).land.done cycles ctx w m ∧ s.onlyTile t n)

/-- Tile `n` has power and issues normally. -/
def State.tileReady (s : State) (n : Fin 16) : Prop := s.blk.dev.has (3 + n / 4) = true ∧ (s.blk.tile n).ready

/-- The context after a data result that is exactly `x` before R190: Z, N and SAT (R190, R194). -/
def TCtx.flags (c : TCtx) (sat : Bool) (x : Int) : TCtx :=
  { c with z := decide (inRange 24 sat x = 0), n := (inRange 24 sat x).msb, sat := c.sat || saturates 24 sat x }

/-- The context after an accumulator result: SAT (R190). -/
def TCtx.accFlags (c : TCtx) (w : Nat) (sat : Bool) (x : Int) : TCtx := { c with sat := c.sat || saturates w sat x }

/-- Data register `dd` takes `x`, in its range, one cycle later; Z, N and SAT follow; nothing else of the tile changes. -/
def TileAlu (c : Instr) (s : State) (n : Fin 16) (dd : Fin 8) (sat : Bool) (x : TCtx → Int) : Prop :=
  let u := (s.blk.tile n).land
  TileDoes c s n 1 (u.ctx.flags sat (x u.ctx)) [u.writeD 1 dd (inRange 24 sat (x u.ctx))] u.data

/-- Accumulator `ad` takes `x`, in its range, one cycle later; SAT follows; nothing else of the tile changes. -/
def TileAcc (c : Instr) (s : State) (n : Fin 16) (ad : Fin 2) (sat : Bool) (x : TCtx → Int) : Prop :=
  let u := (s.blk.tile n).land
  TileDoes c s n 1 (u.ctx.accFlags 56 sat (x u.ctx)) [u.write 1 (.a ad) (inRange 56 sat (x u.ctx))] u.data

/-- Tile `n` completes a control transfer: two delay slots follow, then `k` (R194); the context is otherwise `c`. -/
def TileDelays (c : Instr) (s : State) (n : Fin 16) (ctx : TCtx) (k : TAfter) : Prop :=
  let u := (s.blk.tile n).land
  Completes c s (fun t => t.blk.tile n = (u.setCtx { ctx with delay := 2, after := k, pc := ctx.pc + 1 }).tick 1 ∧ s.onlyTile t n)

end Sys2Proof.Machine
end

