-- ==== Sys2Proof/WellFormed.lean ====
section
/-!
DEFINITION. Which commands a sender can make: operands that the table's widths leave open and the spec bounds.
-/
namespace Sys2Proof

/-- A register access of 1, 2, 4 or 8 bytes (R472) within 32 bits of address. -/
def accessOk (size a : Nat) : Bool := [1, 2, 4, 8].contains size && decide (a < 2 ^ 32)

/-- A part of an image or a safety-parameter set: 1 to 212 bytes (R97). -/
def partOk (data : List Byte) : Bool := !data.isEmpty && decide (data.length ≤ 212)

/-- An Ethernet frame with its addresses and type, without its check sequence (R346). -/
def frameOk (bytes : List Byte) : Bool := decide (14 ≤ bytes.length) && decide (bytes.length ≤ 1518)

/-- A Felade slot as the boot ROM finds it: its build hash has at most 32 bytes. -/
def slotOk (x : Option (Nat × Nat × List Byte)) : Bool := match x with | some y => decide (y.2.2.length ≤ 32) | none => true

/-- A CAN frame: identifier, DLC and the number of data bytes agree (R377). -/
def canOk (f : Machine.CanFrame) : Bool :=
  decide (f.ident < (if f.xtd then 2 ^ 29 else 2 ^ 11)) && decide (f.dlc < 16) && decide (f.data.length ≤ 64) && !(f.fdf && f.rtr)

/-- Class M (Table 8-5): a modifier is named only where the mode uses it. -/
def Machine.MemOp.ok (o : Machine.MemOp) : Bool := decide (o.m = 0) || decide (o.mode = .mod)

/-- Class MM: two pointers, which differ. -/
def Machine.MemOp2.ok (o : Machine.MemOp2) : Bool :=
  decide (o.p ≠ o.q) && (decide (o.m = 0) || decide (o.pmode = .mod) || decide (o.qmode = .mod))

/-- The checks of every command. -/
def WellFormed (c : Instr) : Bool :=
  match c with
  | .majorFrameBoundary _ => true
  | .minorFrameBoundary _ => true
  | .planningFrameBoundary => true
  | .cutoff _ _ _ => true
  | .timebaseStart _ => true
  | .escCfgLock => true
  | .rebind => true
  | .syncInEdge _ => true
  | .syncLost _ => true
  | .syncInInvalid => true
  | .sourceChange => true
  | .frameOverrun _ _ _ => true
  | .replayLogEntry entry _ => decide (entry.cls ≤ 0x0F)
  | .loRegisterRead _ a size _ => accessOk size a
  | .readClear _ a size _ _ => accessOk size a
  | .registerWrite _ a size _ _ => accessOk size a
  | .pcieDoorbell _ _ slots _ => slots.all (fun l => decide (l.length = 256))
  | .rspHeadWrite _ _ slots _ => slots.all (fun l => decide (l.length = 256))
  | .ethernetRequest _ _ bytes _ => decide (bytes.length ≤ 1500)
  | .spiWriteRequest bytes _ => decide (32 ≤ bytes.length) && decide (bytes.length ≤ 256)
  | .spiReadResponse _ _ => true
  | .spiReadStatus => true
  | .sessionHello _ _ _ _ _ _ _ => true
  | .sessionClose _ => true
  | .sessionPing _ => true
  | .livenessTimeout _ => true
  | .chainTimeout _ => true
  | .heldCommandTaken _ _ _ => true
  | .cellStatus _ => true
  | .loadImageData _ _ _ data => partOk data
  | .loadImageValidate _ _ => true
  | .validateResult => true
  | .loadImageActivate _ _ => true
  | .loadImageStore _ _ => true
  | .imageStored => true
  | .loadImageAbort _ _ => true
  | .loadImageActivateFlash _ => true
  | .autostart _ => true
  | .cellStartTogether _ _ names => decide (1 ≤ names.length) && decide (names.length ≤ 16)
  | .startReq _ _ groups => decide (1 ≤ groups.length) && decide (groups.length ≤ 12)
  | .startReady _ _ => true
  | .startRefuse _ _ => true
  | .startDecision => true
  | .startGo _ _ => true
  | .startAbort _ _ => true
  | .startDone _ => true
  | .armEnable _ _ => true
  | .armDisable _ _ => true
  | .armStop _ _ => true
  | .armHome _ _ _ => true
  | .armOverride _ _ override => decide (override.toNat ≤ 20000)
  | .armStatus _ _ => true
  | .segAppend _ _ count entries => decide (1 ≤ count.toNat) && decide (count.toNat ≤ 3) && decide (entries.length ≤ 220)
  | .segFlush _ _ => true
  | .segStatus _ _ => true
  | .standstillReached _ _ => true
  | .pathEnd _ => true
  | .segDone _ => true
  | .dwellEnd _ => true
  | .waitTimeout _ => true
  | .gearEngagementEnd _ => true
  | .homingDone _ => true
  | .homingFailed _ => true
  | .ikDiverged _ => true
  | .lynxHold _ => true
  | .lynxInputStale _ _ => true
  | .axisEnable _ _ => true
  | .axisDisable _ _ => true
  | .axisLaw _ _ _ _ _ _ => true
  | .axisCalibrateOffset _ _ _ => true
  | .axisCalDone _ => true
  | .axisStatus _ _ _ => true
  | .brakeRelease _ => true
  | .torqueRemoval _ => true
  | .followingError _ => true
  | .overcurrent _ => true
  | .uplinkMissing _ => true
  | .sampleAge _ => true
  | .lawFallback _ => true
  | .tileEvent _ _ => true
  | .declaredCountReached _ => true
  | .nop _ => true
  | .ld _ _ o => o.ok
  | .st _ _ o => o.ok
  | .ld2 _ _ _ o => o.ok
  | .ldst _ _ _ o => o.ok
  | .ldaw _ _ o => o.ok
  | .ldda _ _ o => o.ok
  | .stda _ _ _ o => o.ok
  | .addd _ _ _ o => o.ok
  | .subd _ _ _ o => o.ok
  | .mpy _ _ _ _ _ => true
  | .mac _ _ _ _ _ => true
  | .msu _ _ _ _ _ => true
  | .macr _ _ _ _ o => o.ok
  | .macm _ _ _ o => o.ok
  | .lda _ _ _ => true
  | .adda _ _ _ _ => true
  | .suba _ _ _ _ => true
  | .sha _ _ _ _ => true
  | .mva _ _ _ _ _ => true
  | .add _ _ _ _ _ => true
  | .sub _ _ _ _ _ => true
  | .neg _ _ _ _ => true
  | .abs _ _ _ _ => true
  | .min _ _ _ _ _ => true
  | .max _ _ _ _ _ => true
  | .clip _ _ _ _ => true
  | .shl _ _ _ _ _ => true
  | .shr _ _ _ _ _ => true
  | .and _ _ _ _ => true
  | .or _ _ _ _ => true
  | .xor _ _ _ _ => true
  | .mov _ _ _ => true
  | .ldi _ _ _ => true
  | .ldiq _ _ _ => true
  | .cmp _ _ _ => true
  | .lea _ _ _ _ => true
  | .movp _ _ _ => true
  | .movm _ _ _ => true
  | .ldip _ _ _ => true
  | .ldim _ _ _ => true
  | .setc _ _ _ => true
  | .movs _ _ => true
  | .trig _ _ _ => true
  | .br _ _ => true
  | .bz _ _ => true
  | .bnz _ _ => true
  | .bn _ _ => true
  | .bnn _ _ => true
  | .loop _ _ _ _ => true
  | .pub _ _ => true
  | .slotEnd _ => true
  | .markerReturn _ _ _ _ _ _ => true
  | .ringBreak _ => true
  | .ringRestored _ => true
  | .commandFrame _ => true
  | .sampleRecord _ _ _ _ _ bytes => decide (bytes.length = 48)
  | .capRecord _ _ _ _ _ bytes => decide (bytes.length = 48)
  | .calRecord _ _ _ _ _ bytes => decide (bytes.length = 48)
  | .faultRecord _ _ _ _ _ bytes => decide (bytes.length = 48)
  | .moduleUnsync _ _ => true
  | .modulePowerOn _ _ _ _ _ => true
  | .moduleMarker _ _ _ _ minor hop _ _ _ _ => decide (minor < 2 ^ 32) && decide (hop < 256)
  | .moduleCommandRecord _ _ _ bytes _ _ => decide (bytes.length ≤ 64)
  | .moduleApplyDeadline _ _ => true
  | .moduleMarkersMissed _ _ => true
  | .moduleSampleInstant _ _ sample => decide (sample.cur.length ≤ 6)
  | .pwmCommit _ _ => true
  | .stagingWrite _ _ _ => true
  | .pwmTrip _ _ _ => true
  | .tripClr _ => true
  | .clkTimeLoss => true
  | .localSampleBlockReady _ _ sums => decide (sums.length ≤ 16)
  | .sdFault _ => true
  | .fbEdge _ _ _ _ => true
  | .fbInvalid _ => true
  | .indexCapture _ _ => true
  | .serialFrame _ _ bits _ => decide (bits.length ≤ 64)
  | .fbSample _ _ => true
  | .revalid _ => true
  | .latchEvent _ _ _ => true
  | .cmpTgtHiWrite _ _ => true
  | .compareFire _ _ => true
  | .cmpPulseEnd _ _ => true
  | .stepCommit _ _ => true
  | .stepChopStarved _ _ => true
  | .ampHold _ => true
  | .badgerCycle _ _ => true
  | .tickLost _ => true
  | .evaluationEnd _ _ => true
  | .stoRequestLine _ => true
  | .crossCompare _ _ => true
  | .badgerFault _ _ => true
  | .safeInputChange _ _ _ _ => true
  | .discrepancy _ _ _ => true
  | .testPulseStart _ _ => true
  | .testPulseCheck _ _ _ => true
  | .testPulseEnd _ _ _ => true
  | .edmFault _ _ _ => true
  | .ss1Tmax _ _ _ => true
  | .standstillConfirmed _ _ => true
  | .sposStale _ _ => true
  | .slsDelay _ _ _ => true
  | .redDelay _ _ _ => true
  | .sepClear _ _ => true
  | .safeFrame _ _ bytes => frameOk bytes
  | .connTimeout _ _ _ => true
  | .safeMessageSend _ => true
  | .safetyStatus _ => true
  | .safetyParamPutData _ _ _ data => partOk data
  | .safetyParamPutAbort _ _ => true
  | .safetyParamCommit _ _ => true
  | .setDelivered => true
  | .badgerSelftestEnd _ _ => true
  | .ptpMeasurement _ _ _ _ => true
  | .holdTmo _ => true
  | .timePermitExpired => true
  | .ptpTransmit _ _ => true
  | .ethernetFrameReceive _ _ bytes => frameOk bytes
  | .queueHead _ _ frame _ => frameOk frame.bytes
  | .launchTime _ _ _ => true
  | .gateControlInterval _ _ => true
  | .txtsIdRead _ => true
  | .cellTick _ _ _ => true
  | .clStatusFrame _ _ => true
  | .peerFrame _ _ _ => true
  | .clSafeFrame _ _ _ => true
  | .tickMissing _ => true
  | .masterHandover => true
  | .cellForm _ => true
  | .memberLost _ => true
  | .cellIsolated => true
  | .clWindow => true
  | .canFrameReceived _ _ frame => canOk frame
  | .canFrameStart _ => true
  | .canTxSuccess _ _ => true
  | .canArbitrationLost _ => true
  | .canError _ _ _ _ _ => true
  | .busOffRecovery _ => true
  | .boDelay _ => true
  | .txreqWrite _ _ _ => true
  | .txcanWrite _ _ _ => true
  | .canInitWrite _ _ => true
  | .rxfPop _ _ => true
  | .hpFullClear _ _ _ => true
  | .txBufferWrite _ _ _ _ _ => true
  | .ioWriteCan _ _ _ _ _ data => decide (data.length ≤ 64)
  | .ioReadCan _ _ _ => true
  | .fieldInputChange _ _ _ => true
  | .fieldOutFault _ _ => true
  | .foFaultClear _ => true
  | .foCmdWrite _ _ => true
  | .watchdogFeed _ _ _ _ => true
  | .rearm _ _ _ => true
  | .foEnClear _ _ => true
  | .fieldWdExpired _ _ => true
  | .holdWin _ => true
  | .fieldSupply _ v => decide (v < 1024)
  | .ioWriteField _ _ _ => true
  | .ioReadField _ => true
  | .ioCompareSetArm _ _ _ => true
  | .ioCompareSetCancel _ _ _ => true
  | .timeStatus _ => true
  | .timePermitStep _ _ => true
  | .recordRead _ _ _ _ _ _ => true
  | .recordCommitRead _ _ _ => true
  | .dumpRead _ _ _ => true
  | .dumpClear _ => true
  | .dumpWriteComplete => true
  | .fatalTimer => true
  | .coreWatchdog _ _ => true
  | .eccError _ _ => true
  | .lockstepSpotCheck _ _ _ => true
  | .scrub _ _ _ _ _ => true
  | .pwmReadback _ _ _ => true
  | .powerOn _ _ => true
  | .resetN _ _ _ => true
  | .brownOut => true
  | .bootImage slot0 slot1 _ => slotOk slot0 && slotOk slot1
  | .powerUpSelftestDone _ => true
  | .cellSelftestOnline _ => true
  | .cellSelftestFull _ => true
  | .selftestDone _ _ => true
  | .testResult _ => true
  | .powerVcore _ _ => true
  | .vcoreStep _ => true
  | .vcoreTimeout _ _ => true
  | .powerGoodLost => true
  | .thermal _ temp => decide (-32768 ≤ temp) && decide (temp < 32768)
  | .clockLost _ _ => true
  | .powerStateRun _ => true
  | .ungate _ => true
  | .powerStateArmsIdle _ _ => true
  | .powerStateStandby _ _ => true
  | .powerStateDeep _ _ => true
  | .powerStateRestart _ => true
  | .feladeRestart _ _ hash _ => decide (hash.length ≤ 32)
  | .wake _ => true
  | .standbyResume _ => true
  | .padHoldLatch => true
  | .padHoldRelease => true
  | .safetyDieResetRelease _ => true
  | .vsoutUndervoltage _ => true
  | .moduleFault _ _ _ _ => true
  | .powerGoodReturn => true

end Sys2Proof
end

