-- ==== Sys2Proof/Certificates/Slice0/Obligations.lean ====
section
/-!
DEFINITION. The statements for the provers, chapter by chapter.
-/
open Sys2Proof Sys2Proof.Machine Sys2Proof.Machine.Fld

/-! ### The machine as a whole -/

/-- The command at the front of the queue is taken with the queue's rest. -/
def Obligations.StepTakesFront : Prop :=
  ∀ (c : Instr) (rest : List Instr) (s : State), step { s with pending := c :: rest } = exec c { s with pending := rest }

/-! ### Frames (chapter 02) -/

/-- A major boundary of a running time base raises the frame number by exactly one, a minor boundary leaves it and moves the
minor index on; each boundary lies where R37 lets it. What the new frame then holds is the frame's work (R31, R33, R37, R44).
A boundary that R37 excludes does nothing (log entry 99). -/
def Obligations.BoundariesCountFrames : Prop :=
  ∀ (s : State) (at_ : Nat), s.blk.dev.has 2 = true → s.blk.dev.running = true → s.blk.dev.rec_.fatal = none →
    (∃ d : Dev, exec (.majorFrameBoundary at_) s = .next { s with blk := frameWork { s.blk with dev := d } d.esc.majAt } ∧
      d.esc.maj = s.blk.dev.esc.maj + 1 ∧ d.esc.majAt = d.esc.t0 ∧ d.f ESC_MAJ_LO_MAJ_LO = d.esc.maj % 2 ^ 32 ∧ d.minor = 0 ∧
      s.blk.dev.boundaryOk d) ∧
    (s.blk.dev.minor + 1 < s.blk.dev.M → s.blk.dev.esc.fresh = false →
      ∃ d : Dev, exec (.minorFrameBoundary at_) s = .next { s with blk := minorWork { s.blk with dev := d } d.esc.prevLen } ∧
        d.esc.maj = s.blk.dev.esc.maj ∧ d.minor = s.blk.dev.minor + 1 ∧ s.blk.dev.boundaryOk d)

/-- LOCK starts a time base at the next boundary and REBIND opens the RWL fields while one runs (R60); the time base begins at the
boundary with the number of R34, and TIMEBASE_START counts it (R33, R35). -/
def Obligations.TimeBaseStarts : Prop :=
  ∀ (s : State) (at_ : Nat), s.blk.dev.has 2 = true →
    (s.blk.dev.b ESC_CFG_LOCK = false →
      exec .escCfgLock s = .next (s.withDev { s.blk.dev.setB ESC_CFG_LOCK true with
        esc := { s.blk.dev.esc with starting := !s.blk.dev.running } })) ∧
    (s.blk.dev.b ESC_CFG_LOCK = true → s.blk.dev.running = true →
      exec .rebind s = .next (s.withDev (s.blk.dev.setB ESC_CFG_REBIND true))) ∧
    (mayStart s.blk.dev = true → s.blk.dev.rec_.fatal = none →
      ∃ d : Dev, exec (.timebaseStart at_) s = .next { s with blk := frameWork { s.blk with dev := firstBoundary d at_ } at_ } ∧
        d.running = true ∧ d.esc.maj = (originOf (dropInputs s.blk.dev) at_).1 ∧ d.esc.t0 = at_ ∧ d.esc.majAt = at_ ∧
        d.esc.prevLen = 0 ∧ d.esc.fresh = true ∧ d.esc.starting = false ∧ d.esc.tbCount = s.blk.dev.esc.tbCount + 1)

/-- R36 and R38: a change of source goes to the most preferred source that may be used and raises SOURCE_CHANGE; a usable SYNC_IN edge
is measured; an edge that did not come sets both SYNC_LOST flags and raises its record. -/
def Obligations.BoundarySources : Prop :=
  ∀ (s : State) (at_ : Nat), s.blk.dev.has 2 = true →
    (∀ n, n < 4 → s.blk.dev.mayUse n → (∀ m, m < n → ¬ s.blk.dev.mayUse m) → s.blk.dev.f ESC_SRC_ACTIVE ≠ n →
      exec .sourceChange s = .next (s.withDev (((s.blk.dev.setF ESC_SRC_ACTIVE n).setB ESC_FLAGS_SRC_CHANGE true).raise
        0x1012 0xFFFF (s.blk.dev.f ESC_SRC_ACTIVE) n 0))) ∧
    (syncWatched s.blk.dev = true → s.blk.dev.b ESC_STATUS_SYNC_LOST = false →
      ∀ err : Int, err = (at_ : Int) - (expectedEdge s.blk.dev at_).1 → 4 * err.natAbs ≤ s.blk.dev.tMinor →
        exec (.syncInEdge at_) s = .next (s.withDev { s.blk.dev.setS ESC_SYNC_ERR_ERR err with esc := { s.blk.dev.esc with
          syncJudged := (expectedEdge s.blk.dev at_).2 + 1, syncSeen := true, syncMiss := 0, syncValid := true, syncLost := 0 } })) ∧
    (syncWatched s.blk.dev = true → s.blk.dev.esc.syncJudged ≠ (expectedEdge s.blk.dev at_).2 + 1 →
      ∃ (d : Dev) (err : Int), exec (.syncLost at_) s = .next (s.withDev d) ∧ d.b ESC_STATUS_SYNC_LOST = true ∧
        d.b ESC_FLAGS_SYNC_LOST = true ∧ d.rec_.next = s.blk.dev.rec_.next ++
          [mkRecord (s.blk.dev.esc.maj + 1) 0x1010 0xFFFF err ((expectedEdge s.blk.dev at_).2 % max 1 s.blk.dev.M) 0] ∧
        s.blk.dev.sameRegsBut d [ESC_STATUS_SYNC_LOST.addr, ESC_FLAGS_SYNC_LOST.addr]) ∧
    (s.blk.dev.esc.syncValid = true → s.blk.dev.f ESC_SRC_LOSS_LIMIT ≤ s.blk.dev.esc.syncMiss →
      ∃ d : Dev, exec .syncInInvalid s = .next (s.withDev d) ∧ d.esc.syncValid = false ∧ tget 0 d.esc.bar 1 = 64)

/-- R50, R51 and R48: the cutoff of frame n seals the batch of frame n + 1: its frame inputs in the order of Table 2-8, its commands by
session and sequence number; no request stamped before the cutoff waits on. R56: a device in replay takes a logged field snapshot as the
input it logs. -/
def Obligations.CutoffSealsInOrder : Prop :=
  ∀ (s : State) (at_ room : Nat) (ok : Bool) (l : Machine.LogEntry), s.blk.dev.has 2 = true →
    (s.blk.dev.replaying = true → l.cls = 5 → ∃ (i : Stamped) (r : Rmt),
      i = { stamp := at_, frame := s.blk.dev.esc.maj, replay := true, input := .snapshot (BitVec.ofNat 32 (leAt l.body 0 4)) (BitVec.ofNat 32 (leAt l.body 4 4)) } ∧
      r = { s.blk.dev.rmt with inputs := s.blk.dev.rmt.inputs ++ [i] } ∧ exec (.replayLogEntry l at_) s = .next (s.withDev { s.blk.dev with rmt := r })) ∧
    (s.blk.dev.running = true → s.blk.dev.rec_.fatal = none → s.blk.dev.rmt.sealed = none →
    ∃ (d : Dev) (x : Batch), exec (.cutoff at_ room ok) s = .next (s.withDev d) ∧ d.rmt.sealed = some x ∧
      x.frame = s.blk.dev.esc.maj + 1 ∧
      x.inputs.Pairwise (fun a b => lexLt (inputKey b) (inputKey a) = false) ∧
      x.reqs.Pairwise (fun a b => lexLt [(b.req.ses : Int), b.req.seq] [(a.req.ses : Int), a.req.seq] = false) ∧
      (∀ i ∈ x.inputs, i.stamp ≤ at_) ∧
      (s.blk.dev.replaying = false → ∀ u ∈ d.rmt.reqs, at_ ≤ (u.headD {}).stamp ∨ (u.headD {}).replay = true))

/-! ### Host access, sessions (chapters 00 and 03) -/

/-- R8, R9, R472 and Table 0-4: a read of a register that pairs with a _HI register copies the upper bits there; a read of read-clear
fields clears them but for bits an event of the same cycle sets; through BAR2 a write to a block that is not delegated has no effect;
Felade writes the RW fields of a register and clears its W1C bits by 1. -/
def Obligations.RegisterAccesses : Prop :=
  ∀ (s : State) (bus : Machine.Bus) (a at_ : Nat) (ev w : Word), s.blk.dev.has 1 = true → bus = .bar2 ∨ bus = .felade →
    a % 4 = 0 → a < 0x2000000 →
    (∀ v, pairValue s.blk.dev a = some v →
      exec (.loRegisterRead bus a 4 at_) s = .next (s.withDev { s.blk.dev.setReg (a + 4) (BitVec.ofNat 32 (sfield 48 v / 2 ^ 32)) with
        rd := sfield 48 v % 2 ^ 32 })) ∧
    (accMask a (fun c => decide (c = .rc)) ≠ 0 → pairValue s.blk.dev a = none → canWindow s.blk.dev a = none → a ≠ 0x700008 →
      ¬ (0x701000 ≤ a ∧ a < 0x702000 ∧ a = (ETH_TXTS_ID_ID ((a - 0x701000) / 0x400)).addr) →
      ∃ d : Dev, exec (.readClear bus a 4 ev at_) s = .next (s.withDev d) ∧
        d.rd = ((s.blk.dev.reg a) &&& ~~~accMask a (fun c => decide (c = .wo))).toNat ∧
        d.reg a = ((s.blk.dev.reg a &&& ~~~accMask a (fun c => decide (c = .rc))) ||| (ev &&& accMask a (fun c => decide (c = .rc)))) ∧
        s.blk.dev.sameRegsBut d [a]) ∧
    (busMay s.blk.dev .bar2 a = false → ¬ (0x900000 ≤ a ∧ a < 0xA00000) →
      exec (.registerWrite .bar2 a 4 (w.setWidth 64) at_) s = .next s) ∧
    exec (.registerWrite .felade (RMT_LOG_CFG_EN).addr 4 (w.setWidth 64) at_) s =
      .next (s.withDev (s.blk.dev.setReg (RMT_LOG_CFG_EN).addr ((s.blk.dev.reg (RMT_LOG_CFG_EN).addr &&& ~~~7#32) ||| (w &&& 7#32))))

/-- R46, R47, R71, R73, R75, R76: in a time base a request without LINK that passes the transport checks of Table 3-4 is stamped and enters,
on each of the three transports; a doorbell that names more than 64 requests has no effect but RING_ERR and its record. -/
def Obligations.RequestsEnter : Prop :=
  ∀ (s : State) (ses : Fin 32) (at_ : Nat) (raw : List Byte) (r : Request), s.blk.dev.running = true → notReady s.blk.dev = false →
    r.raw = raw → r.stamp = at_ → r.arr = s.blk.dev.esc.maj → r.tok = (s.blk.dev.session ses).nextTok →
    r.held = false → r.lost = false → r.replay = false → r.ses = ses → r.hello = false → r.link = false →
    (s.blk.dev.session ses).wait = [] → 32 ≤ raw.length → raw.length = 32 + r.len →
    (s.blk.dev.has 1 = true → r.via = .spi → (s.blk.dev.session ses).order.length < 64 → transportCheck s.blk.dev ses r true [] = .pass →
      ∃ d : Dev, exec (.spiWriteRequest raw at_) s = .next (s.withDev d) ∧ s.blk.dev.entered d ses r []) ∧
    (∀ (port : Fin 4) (addr : Nat) (tag : List Byte), s.blk.dev.has 8 = true → r.via = .eth port addr → tag.length = 32 →
      sesPort s.blk.dev port = true → (s.blk.dev.session ses).order.length < 64 → transportCheck s.blk.dev ses r true tag = .pass →
      ∃ d : Dev, exec (.ethernetRequest port addr (raw ++ tag) at_) s = .next (s.withDev d) ∧ s.blk.dev.entered d ses r []) ∧
    (∀ tail : BitVec 16, s.blk.dev.has 1 = true → r.via = .pcie → (s.blk.dev.session ses).order = [] →
      s.blk.dev.f (SES_RSP_TAIL_TAIL ses) = s.blk.dev.f (SES_RSP_HEAD_HEAD ses) →
      tail.toNat = (s.blk.dev.f (SES_REQ_HEAD_HEAD ses) + 1) % 65536 → transportCheck s.blk.dev ses r true [] = .pass →
      ∃ d : Dev, exec (.pcieDoorbell ses tail [raw] at_) s = .next (s.withDev d) ∧
        s.blk.dev.entered d ses r [(SES_REQ_TAIL_TAIL ses).addr, (SES_REQ_HEAD_HEAD ses).addr] ∧
        d.f (SES_REQ_TAIL_TAIL ses) = tail.toNat ∧ d.f (SES_REQ_HEAD_HEAD ses) = tail.toNat)

/-- R70, R71, R76: a refused doorbell; the host's response head; the two SPI reads. -/
def Obligations.RingsAndReads : Prop :=
  ∀ (s : State) (ses : Fin 32) (v : BitVec 16) (slots : List (List Byte)) (at_ n : Nat), s.blk.dev.has 1 = true →
    (64 < (v.toNat + 65536 - s.blk.dev.f (SES_REQ_HEAD_HEAD ses)) % 65536 →
      exec (.pcieDoorbell ses v slots at_) s = .next (s.withDev ((s.blk.dev.setB (SES_XFAIL_RING_ERR ses) true).raise
        0xA021 ses ses v.toNat (s.blk.dev.f (SES_REQ_HEAD_HEAD ses))))) ∧
    (s.blk.dev.running = true → s.blk.dev.f (SES_REQ_TAIL_TAIL ses) = s.blk.dev.f (SES_REQ_HEAD_HEAD ses) →
      exec (.rspHeadWrite ses v slots at_) s = .next (s.withDev (s.blk.dev.setF (SES_RSP_HEAD_HEAD ses) v.toNat))) ∧
    (∀ l rest, (s.blk.dev.session ses).spiRsp = l :: rest →
      ∃ d : Dev, exec (.spiReadResponse ses n) s = .next (s.withDev d) ∧ Out.spi (l.take n) ∈ d.out ∧
        (d.session ses).spiRsp = (if l.length ≤ n then rest else l :: rest) ∧ s.blk.dev.sameRegsBut d []) ∧
    ((s.blk.dev.session ses).spiRsp = [] →
      exec (.spiReadResponse ses n) s = .next (s.withDev (s.blk.dev.emit (.spi ((le 32 0).take n))))) ∧
    ∃ (d : Dev) (x y : Nat), exec .spiReadStatus s = .next (s.withDev d) ∧ s.blk.dev.sameRegsBut d [] ∧
      d.out = .spi (le 1 s.blk.dev.state ++ [0] ++ le 2 (s.blk.dev.f HOST_READY_EST_EST_MS) ++ le 4 x ++ le 4 y) :: s.blk.dev.out ∧
      (∀ k < 32, x.testBit k = !(s.blk.dev.session k).spiRsp.isEmpty ∧ y.testBit k = (s.blk.dev.session k).spiDiscard ∧
        (d.session k).spiDiscard = false ∧ (d.session k).spiRsp = (s.blk.dev.session k).spiRsp)

/-- R77, R78, Tables 3-6 and 3-8: `session.hello` with a common version opens the session under the highest; without one it is
answered VERSION; `session.close` closes it; `session.ping` returns the frame. Mailbox rows act in the present frame (the
model's reading, log entry 2). -/
def Obligations.SessionsOpenAndClose : Prop :=
  ∀ (s : State) (ses : Fin 32) (lo hi : BitVec 16) (policy key : BitVec 8) (nonce : BitVec 64) (seq : Word), s.takes 0x0101 →
    policy = 1 ∨ policy = 2 → (s.blk.dev.sesCfg ses).transport = 1 ∨ (key = 0 ∧ nonce = 0) →
    (∀ v, chooseVersion lo.toNat hi.toNat = v → v ≠ 0 → sesOpen s.blk.dev ses = false →
      ∃ d : Dev, exec (.sessionHello ses lo hi policy key nonce seq) s = .next (s.withDev d) ∧ sesOpen d ses = true ∧ sesVersion d ses = v ∧
        (d.session ses).seq = seq.toNat ∧ (d.session ses).policy = policy.toNat ∧ d.ans.1 = ses ∧ d.ans.2.status = 0 ∧
        leAt d.ans.2.payload 0 2 = v ∧ s.blk.dev.sameRegsBut d ((SES_STATE_OPEN ses).addr :: (RMT_STATUS_PENDING).addr :: recordRegs)) ∧
    (chooseVersion lo.toNat hi.toNat = 0 → exec (.sessionHello ses lo hi policy key nonce seq) s =
      .next (s.withDev (s.blk.dev.settle ses 0x0101 s.blk.dev.now { status := 0x30 }))) ∧
    (s.takes 0x0102 → sesOpen s.blk.dev ses = true →
      ∃ d : Dev, exec (.sessionClose ses) s = .next (s.withDev d) ∧ sesOpen d ses = false ∧ sesVersion d ses = 0 ∧
        (d.session ses).wait = [] ∧ (∀ h ∈ d.rmt.pending, ∀ r ∈ h.reqs, r.ses ≠ ses) ∧ d.ans = (ses.val, { effect := s.blk.dev.now })) ∧
    (s.takes 0x0103 → exec (.sessionPing ses) s = .next (s.withDev (s.blk.dev.settle ses 0x0103 s.blk.dev.now
      { payload := le 6 s.blk.dev.now })))

/-- R79, R82, R83, Table 3-8: an expired session closes and its lost stops go into the next batch; a chain whose first member
arrived eight frames ago waits no longer; a held command whose frame is next leaves the pending store. Event rows act where
their condition holds (the model's reading, log entry 4). -/
def Obligations.SessionTimeouts : Prop :=
  ∀ (s : State) (ses : Fin 32), 
    (s.blk.dev.has 1 = true → s.blk.dev.running = true → liveExpired s.blk.dev ses = true →
      ∃ d : Dev, exec (.livenessTimeout ses) s = .next (s.withDev d) ∧ sesOpen d ses = false ∧
        d.rmt.lost = s.blk.dev.rmt.lost ++ ((List.range 12).filter (fun g => (s.blk.dev.sesCfg ses).lost.testBit g)).map (fun g => (ses.val, g))) ∧
    (s.blk.dev.has 1 = true → (∀ r ∈ (s.blk.dev.session ses).wait, r.arr + 8 ≤ s.blk.dev.esc.maj) →
      ∃ d : Dev, exec (.chainTimeout ses) s = .next (s.withDev d) ∧ (d.session ses).wait = [] ∧ d.rmt.reqs = s.blk.dev.rmt.reqs) ∧
    (∀ (h : Held) (seq : Word) (at_ : Nat), s.blk.dev.has 2 = true → s.blk.dev.running = true → s.blk.dev.rec_.fatal = none →
      s.blk.dev.rmt.sealed = none → h ∈ s.blk.dev.rmt.pending → h.frame = s.blk.dev.esc.maj + 1 →
      (∃ r ∈ h.reqs, r.ses = ses ∧ r.seq = seq.toNat) →
      ∃ d : Dev, exec (.heldCommandTaken ses seq at_) s = .next (s.withDev d) ∧
        ∀ x ∈ d.rmt.pending, x.frame = s.blk.dev.esc.maj + 1 → ∀ r ∈ x.reqs, ¬ (r.ses = ses ∧ r.seq = seq.toNat))

/-- R45 and R80: a batch sealed at the cutoff holds at most 64 commands, held ones included, the lost actions of R79 apart, however many
requests wait. -/
def Obligations.BatchIsBounded : Prop :=
  ∀ (s t : State) (at_ room : Nat) (ok : Bool) (x : Batch), exec (.cutoff at_ room ok) s = .next t → s.blk.dev.has 2 = true →
    s.blk.dev.running = true → s.blk.dev.rec_.fatal = none → s.blk.dev.rmt.sealed = none → s.blk.dev.rmt.taken = [] →
    t.blk.dev.rmt.sealed = some x → (x.reqs.filter (fun a => !a.req.lost)).length ≤ 64

/-! ### Images (chapter 04) -/

/-- R97: the parts of an image arrive in ascending, gap-free order in the buffer of one session; VALIDATE and STORE begin,
ABORT frees the buffer, and a part of another session is answered STATE, detail 0x0003. Mailbox rows act in the present frame
(the model's reading, log entry 2). -/
def Obligations.ImagesAreStaged : Prop :=
  ∀ (s : State) (ses : Fin 32) (ofs total : Word) (data : List Byte), s.takes 0x0202 → data ≠ [] → data.length ≤ 212 →
    total.toNat ≤ 2 ^ 24 → ofs.toNat + data.length ≤ total.toNat →
    (stagingFree s.blk.dev ses = true → ofs = 0 →
      exec (.loadImageData ses ofs total data) s = .next (s.withDev ((s.blk.dev.setImg { s.blk.dev.img with
        owner := some ses, total := total.toNat, bytes := data, validating := false, validated := false }).settle ses 0x0202 s.blk.dev.now {}))) ∧
    (s.blk.dev.img.owner = some ses.val → total.toNat = s.blk.dev.img.total →
      (ofs ≠ 0 → ofs.toNat = s.blk.dev.img.bytes.length →
        exec (.loadImageData ses ofs total data) s = .next (s.withDev ((s.blk.dev.setImg { s.blk.dev.img with
          bytes := s.blk.dev.img.bytes ++ data, validating := false, validated := false }).settle ses 0x0202 s.blk.dev.now {}))) ∧
      (s.blk.dev.img.bytes.length = s.blk.dev.img.total →
        exec (.loadImageValidate ses total) s = .next (s.withDev ((s.blk.dev.setImg { s.blk.dev.img with
          validating := true, validated := false }).settle ses 0x0202 s.blk.dev.now { status := 1 }))) ∧
      (s.blk.dev.img.validated = true → (storeCheck s.blk.dev).1 = 1 →
        ∃ d : Dev, exec (.loadImageStore ses total) s = .next (s.withDev d) ∧ d.img.storing = some (storeSlot s.blk.dev) ∧
          d.img.storeBytes = s.blk.dev.img.bytes ∧ d.ans.2.status = 1 ∧ s.blk.dev.sameRegsBut d []) ∧
      exec (.loadImageAbort ses total) s = .next (s.withDev ((s.blk.dev.setImg { s.blk.dev.img with
        owner := none, total := 0, bytes := [], validating := false, validated := false }).settle ses 0x0202 s.blk.dev.now {}))) ∧
    (∀ k, s.blk.dev.img.owner = some k → k ≠ ses.val → Refuses (.loadImageData ses ofs total data) s ses 0x0202 0x21 3)

/-- R96 and R97: the result of VALIDATE is that of the checks of Table 4-4 and changes neither running image nor ownership nor
sessions; a finished STORE holds the image in its slot; a query of the cell answers from the state at the start of the present
frame. Mailbox rows act in the present frame and event rows where their condition holds (the model's readings, log entries 2
and 4). -/
def Obligations.ImageResults : Prop :=
  ∀ (s : State) (ses : Fin 32), s.blk.dev.has 1 = true →
    (s.blk.dev.img.validating = true →
      ∃ d : Dev, exec .validateResult s = .next (s.withDev d) ∧ d.img.validating = false ∧
        d.img.validated = ((checkImage s.blk.dev s.blk.dev.img.bytes).isNone || s.blk.dev.img.validated) ∧
        d.img.run = s.blk.dev.img.run ∧ d.ses = s.blk.dev.ses ∧ s.blk.dev.sameRegsBut d recordRegs) ∧
    (∀ k, s.blk.dev.img.storing = some k →
      ∃ d : Dev, exec .imageStored s = .next (s.withDev d) ∧ (if k = 0 then d.img.flash0 else d.img.flash1) = s.blk.dev.img.storeBytes ∧
        (if k = 0 then d.img.flash1 = s.blk.dev.img.flash1 else d.img.flash0 = s.blk.dev.img.flash0) ∧ d.img.storing = none ∧
        d.out = .flashWrite k s.blk.dev.img.storeBytes :: s.blk.dev.out ∧ s.blk.dev.sameRegsBut d recordRegs) ∧
    (s.takes 0x0201 → exec (.cellStatus ses) s = .next (s.withDev (s.blk.dev.settle ses 0x0201 s.blk.dev.now
      { payload := Machine.cellStatus s.blk.view })))

/-- R95, R98 and Table 4-7: an image that has passed its checks and whose class's condition holds becomes the running image,
from the buffer, from flash on command, or from flash by itself; the buffer is free then. Mailbox rows act in the present
frame and event rows where their condition holds (the model's readings, log entries 2 and 4). -/
def Obligations.ImagesTakeEffect : Prop :=
  ∀ (s : State) (ses : Fin 32) (total : Word) (at_ : Nat) (l : List Byte), s.blk.dev.has 1 = true → changeClass s.blk.dev l ≠ 0 →
    classCondition s.blk.dev (changeClass s.blk.dev l) = 0 → s.blk.dev.esc.maj < 2 ^ 48 → (s.blk.dev.running = true → s.blk.dev.esc.maj ≠ 0) →
    (stateCheck s.blk.dev 0x0202 = none → s.blk.dev.img.owner = some ses.val → total.toNat = s.blk.dev.img.total →
      s.blk.dev.img.validated = true → s.blk.dev.img.bytes = l →
      ∃ t, exec (.loadImageActivate ses total) s = .next t ∧ t.blk.dev.img.run = some (loadImage l) ∧ t.blk.dev.img.runBytes = l ∧
        t.blk.dev.img.owner = none ∧ t.blk.saf = s.blk.saf ∧ t.pending = s.pending ∧ t.blk.dev.ans.2.status = 0) ∧
    (flashPick s.blk.dev = some l → checkImage s.blk.dev l = none →
      (stateCheck s.blk.dev 0x0202 = none →
        ∃ t, exec (.loadImageActivateFlash ses) s = .next t ∧ t.blk.dev.img.run = some (loadImage l) ∧ t.blk.dev.img.runBytes = l ∧
          t.blk.saf = s.blk.saf ∧ t.pending = s.pending ∧ t.blk.dev.ans.2.status = 0) ∧
      (s.blk.dev.state = 4 → (loadImage l).autostart = true →
        ∃ t, exec (.autostart at_) s = .next t ∧ t.blk.dev.img.run = some (loadImage l) ∧ t.blk.dev.img.runBytes = l ∧
          t.blk.saf = s.blk.saf ∧ t.pending = s.pending))


/-! ### Groups, arms and segments (chapters 05 and 06) -/

/-- R106, R107, R118, R119, R127, Table 5-9: the commands of an arm. `arm.enable` energises every axis at rest; `arm.disable`
acts at standstill and otherwise stops first; `arm.stop` discards the queue and begins the STOP ramp; `arm.home` starts
homing; `arm.override` sets the override. Nothing but the group and its axes changes. Mailbox rows act in the present frame
(the model's reading, log entry 2). -/
def Obligations.ArmsObey : Prop :=
  ∀ (s : State) (ses : Fin 32) (g : BitVec 8) (mask v : BitVec 16) (d : Dev) (k : Nat), d = s.blk.dev → k = g.toNat → known d k = true →
    (s.takes 0x0301 → (d.group k).st = .disabled → (∀ n ∈ (d.gcfg k).axes, axReady d n = true) → d.state ≠ 7 → armGated d k = false →
      ∃ e, exec (.armEnable ses g) s = .next (s.withDev e) ∧ d.onlyGroup e k ∧ (e.group k).st = .standstill ∧
        (∀ n ∈ (d.gcfg k).axes, (e.axis n).st = .enabled ∧ (e.axis n).outputsOn = true ∧
          (e.axis n).brakeWait = some (d.acfg n).brakeFrames ∧ (e.axis n).vSet = 0) ∧ e.ans = (ses.val, { effect := d.now })) ∧
    (s.takes 0x0302 →
      ((d.group k).st = .standstill ∨ (d.group k).st = .faulted →
        ∃ e, exec (.armDisable ses g) s = .next (s.withDev e) ∧ d.onlyGroup e k ∧ (e.group k).st = .disabled ∧
          (∀ n ∈ (d.gcfg k).axes, (e.axis n).st = .disabled ∧ (e.axis n).brakeOn = true ∧ (e.axis n).fault = 0) ∧
          e.ans = (ses.val, { effect := d.now })) ∧
      ((d.group k).st = .moving ∨ (d.group k).st = .homing →
        ∃ e, exec (.armDisable ses g) s = .next (s.withDev e) ∧ d.onlyGroup e k ∧ (e.group k).st = .stopping ∧
          (e.group k).pendDisable = true ∧ (e.group k).queue = [] ∧ (e.group k).ramp = .stop ∧
          e.ans = (ses.val, { status := 1, effect := d.now }))) ∧
    (s.takes 0x0303 →
      ((d.group k).st = .moving ∨ (d.group k).st = .homing →
        ∃ e, exec (.armStop ses g) s = .next (s.withDev e) ∧ d.onlyGroup e k ∧ (e.group k).st = .stopping ∧
          (e.group k).queue = [] ∧ (e.group k).ramp = .stop ∧ (e.group k).pendDisable = (d.group k).pendDisable ∧
          e.ans = (ses.val, { status := 1, effect := d.now })) ∧
      ((d.group k).st = .disabled ∨ (d.group k).st = .faulted →
        exec (.armStop ses g) s = .next (s.withDev (d.settle ses 0x0303 d.now {})))) ∧
    (s.takes 0x0304 → (d.group k).st = .standstill → (d.group k).queue = [] → mask.toNat < 2 ^ (d.gcfg k).axes.length →
      (∀ x ∈ (d.gcfg k).axes.zipIdx, mask.toNat.testBit x.2 = true → (d.acfg x.1).kind = .virtual ∨ (d.acfg x.1).home ≠ .none) →
      ∃ e, exec (.armHome ses g mask) s = .next (s.withDev e) ∧ d.onlyGroup e k ∧ (e.group k).st = .homing ∧
        (e.group k).homeMask = mask.toNat ∧ e.ans = (ses.val, { status := 1, effect := d.now })) ∧
    (s.takes 0x0305 → v.toNat ≤ 20000 → exec (.armOverride ses g v) s =
      .next (s.withDev ((d.setGroup k { d.group k with override_ := v.toNat }).settle ses 0x0305 d.now {})))

/-- R108, R119, R129, Tables 5-2 and 5-9: entries that pass every step of Table 5-2 join the queue and draw their credits;
`seg.flush` leaves no entry that has not begun; the two queries answer from the start of the present frame. Mailbox rows act
in the present frame (the model's reading, log entry 2). -/
def Obligations.SegmentsQueue : Prop :=
  ∀ (s : State) (ses : Fin 32) (g count : BitVec 8) (entries : List Byte) (l : List Entry) (d w : Dev) (k : Nat),
    d = s.blk.dev → w = s.blk.view → k = g.toNat → known d k = true →
    (s.takes 0x0501 → appendEntries d ([g, count, 0, 0] ++ entries) = some l → appendState d k l = true →
      (l.map Entry.size).sum ≤ d.rmt.credits → (l.map Entry.size).sum ≤ storeFree d →
      (d.group k).entries + (l.map Entry.size).sum ≤ (d.gcfg k).segCap →
      ∃ e, exec (.segAppend ses g count entries) s = .next (s.withDev e) ∧ (e.group k).queue = (d.group k).queue ++ l ∧
        (e.group k).st = (d.group k).st ∧ (e.group k).cur = (d.group k).cur ∧ (∀ j, j ≠ k → e.group j = d.group j) ∧
        e.rmt = { d.rmt with credits := d.rmt.credits - (l.map Entry.size).sum } ∧ e.ax = d.ax ∧ e.regs = d.regs ∧
        e.ans = (ses.val, { effect := d.now })) ∧
    (s.takes 0x0502 →
      ∃ e, exec (.segFlush ses g) s = .next (s.withDev e) ∧ (e.group k).queue = [] ∧ d.onlyGroup e k ∧
        e.ans = (ses.val, { status := if (d.group k).st = .moving then 1 else 0, effect := d.now })) ∧
    (s.takes 0x0503 →
      ∃ p, exec (.segStatus ses g) s = .next (s.withDev (d.settle ses 0x0503 d.now { payload := p })) ∧ p.length = 8 ∧
        leAt p 0 2 = storeFree w % 65536 ∧ leAt p 2 2 = ((w.group k).entries - (w.group k).freeing) % 65536 ∧
        leAt p 4 2 = w.rmt.credits % 65536) ∧
    (s.takes 0x0306 →
      ∃ p, exec (.armStatus ses g) s = .next (s.withDev (d.settle ses 0x0306 d.now { payload := p })) ∧ p.length = 20 ∧
        leAt p 0 1 = (w.group k).st.code ∧ (leAt p 1 1).testBit 2 = (w.group k).held.isSome ∧
        (leAt p 1 1).testBit 4 = (w.group k).starved ∧ leAt p 4 4 = (w.group k).tag % 2 ^ 32 ∧
        leAt p 8 2 = (w.group k).override_ % 65536)

/-- R106, R107, R108, R110, R117, R123: what ends. A path without a further entry at standstill; an entry that has ended, a
dwell; a wait whose limit has passed opens its gate and, with option 1, discards the queue; an engagement fixes p0 and m0.
Event rows act where their condition holds (the model's reading, log entry 4). -/
def Obligations.EntriesEnd : Prop :=
  ∀ (s : State) (g : Fin 12) (d : Dev) (x : Group), d = s.blk.dev → x = d.group g → d.has 2 = true →
    (x.st = .moving → x.cur = none → x.queue = [] → axesStill d g = true →
      ∃ e, exec (.pathEnd g) s = .next (s.withDev e) ∧ d.onlyGroup e g ∧ (e.group g).st = .standstill ∧ (e.group g).claims = [] ∧
        (d.running = true → e.rec_.now = d.rec_.now ++ [mkRecord d.esc.maj 0x3000 g g 3 2, mkRecord d.esc.maj 0x3010 g g x.tag 0])) ∧
    (∀ y, x.cur = some y →
      (entryEnded d g = true →
        ∃ e, exec (.segDone g) s = .next (s.withDev e) ∧ d.onlyGroup e g ∧ (e.group g).cur = none ∧
          (e.group g).freeing = x.freeing + y.size ∧ (e.group g).queue = x.queue ∧
          (d.running = true → e.rec_.now = d.rec_.now ++ (if y.flag 2 then [mkRecord d.esc.maj 0x3013 g g y.tag 0] else []))) ∧
      (y.ty = 5 → leAt y.raw 16 4 ≤ x.dwelled → x.st = .moving →
        ∃ e, exec (.dwellEnd g) s = .next (s.withDev e) ∧ d.onlyGroup e g ∧ (e.group g).cur = none ∧ (e.group g).queue = x.queue) ∧
      (y.ty = 8 → 0 < leAt y.raw 24 4 → leAt y.raw 24 4 ≤ x.waited → x.gateOpen = false →
        ∃ e, exec (.waitTimeout g) s = .next (s.withDev e) ∧ d.onlyGroup e g ∧ (e.group g).gateOpen = true ∧
          (e.group g).queue = (if leAt y.raw 28 1 = 1 then [] else x.queue) ∧
          (d.running = true → e.rec_.now = d.rec_.now ++ [mkRecord d.esc.maj 0x3014 g g y.tag (leAt y.raw 28 1 : Nat)])) ∧
      (y.ty = 7 → x.engaged = false → x.engage = 1 → exec (.gearEngagementEnd g) s = .next (s.withDev (d.setGroup g { x with
        engaged := true, gearM0 := (masterAt d (leAt y.raw 16 1) (leAt y.raw 17 1)).1,
        gearP0 := (d.gcfg g).axes.map (fun n => (d.axis n).pNext) }))))

/-- R106, R119, R127, R128, R139: a stopping group at rest goes where its pending marks say, a disable first, then a fault;
homing ends with its last stage, or fails and stops on the QUICK ramp; a diverged solution faults the group on the QUICK ramp.
Event rows act where their condition holds (the model's reading, log entry 4). -/
def Obligations.StopsAndHomingsEnd : Prop :=
  ∀ (s : State) (g : Fin 12) (n : Fin 96) (d : Dev) (x : Group), d = s.blk.dev → x = d.group g → d.has 2 = true → g.val = n.val →
    (stopStill d g = true → ∃ e, exec (.standstillReached false n) s = .next (s.withDev e) ∧ d.onlyGroup e g ∧
      (e.group g).st = (if x.pendDisable then .disabled else if x.pendFault then .faulted else if x.pendSs1 then .stopping else .standstill) ∧
      (x.pendDisable = true → ∀ m ∈ (d.gcfg g).axes, (e.axis m).st = .disabled)) ∧
    ((d.axis n).disablePend = true → (d.axis n).ramping = false → (d.axis n).vSet = 0 →
      ∃ e, exec (.standstillReached true n) s = .next (s.withDev e) ∧ (e.axis n).st = .disabled ∧ (e.axis n).disablePend = false ∧
        (e.axis n).brakeOn = true ∧ (∀ m, m ≠ n.val → e.axis m = d.axis m)) ∧
    (x.st = .homing → (∀ z ∈ stageAxes d g, (d.axis z.1).homePhase = 6) →
      (∀ z ∈ (d.gcfg g).axes.zipIdx, x.homeMask.testBit z.2 = true → (d.acfg z.1).homeStage ≤ x.homeStage) →
      ∃ e, exec (.homingDone g) s = .next (s.withDev e) ∧ d.onlyGroup e g ∧ (e.group g).st = .standstill ∧
        (∀ m ∈ (d.gcfg g).axes, e.axis m = { d.axis m with homePhase := 0 })) ∧
    (x.st = .homing → (∃ z ∈ stageAxes d g, (d.axis z.1).homePhase = 9) →
      ∃ e, exec (.homingFailed g) s = .next (s.withDev e) ∧ d.onlyGroup e g ∧ (e.group g).st = .stopping ∧ (e.group g).ramp = .quick ∧
        ∀ m ∈ (d.gcfg g).axes, (e.axis m).homePhase = 0 ∧ (e.axis m).homed = (d.axis m).homed) ∧
    (0 < (d.gcfg g).ikFaultFrames → (d.gcfg g).ikFaultFrames ≤ x.ikOver → x.st = .moving →
      ∃ e, exec (.ikDiverged g) s = .next (s.withDev e) ∧ d.onlyGroup e g ∧ (e.group g).st = .stopping ∧ (e.group g).pendFault = true ∧
        (e.group g).ramp = .quick ∧ (e.group g).queue = [])

/-- R112, R149: a planning boundary of a time base leaves Lynx's results for the frame, none while Lynx is gated. R152 and
R153: LYNX_HOLD once in an episode that has lasted long enough; LYNX_INPUT_STALE once for a silent source or an old member.
Event rows act where their condition holds (the model's reading, log entry 4). -/
def Obligations.LynxReports : Prop :=
  ∀ (s : State) (g : Fin 8) (k : BitVec 8) (im : Image) (d : Dev), d = s.blk.dev → d.has 7 = true → d.img.run = some im →
    (d.has 2 = true → d.running = true → d.rec_.fatal = none → d.pwr.selftest = none →
      ∃ e, exec .planningFrameBoundary s = .next { s with blk := owlTrace { s.blk with dev := e } 2 d.esc.majAt } ∧
        e.lynx.next.isSome = !d.pwr.gated.testBit 4 ∧ e.esc = d.esc ∧ e.img = d.img ∧ e.dl = d.dl) ∧
    (im.holdFrames ≤ tget 0 d.lynx.held g → 0 < tget 0 d.lynx.held g → tget false d.lynx.holdRaised g = false →
      exec (.lynxHold g) s = .next (s.withDev ((Dev.setB { d with lynx := { d.lynx with
        holdRaised := tset false d.lynx.holdRaised g true } } LYNX_FLAGS_HOLD true).raise 0x3062 g g (tget 0xFF d.lynx.other g : Nat)
          (tget 0 d.lynx.held g : Nat)))) ∧
    ((∃ z ∈ im.sources, z.1 = k.toNat) → im.trackTtl ≤ tget 0 d.lynx.silent k.toNat → tget false d.lynx.stale k.toNat = false →
      exec (.lynxInputStale false k) s = .next (s.withDev ((Dev.setB { d with lynx := { d.lynx with
        stale := tset false d.lynx.stale k.toNat true } } LYNX_FLAGS_STALE true).raise 0x3060 k.toNat k.toNat 1 d.planNo))) ∧
    ((∃ m ∈ d.lynx.members, m.member = k.toNat ∧ m.plan + 2 < d.planNo) → tget false d.lynx.staleArms k.toNat = false →
      exec (.lynxInputStale true k) s = .next (s.withDev ((Dev.setB { d with lynx := { d.lynx with
        staleArms := tset false d.lynx.staleArms k.toNat true } } LYNX_FLAGS_STALE true).raise 0x3060 k.toNat k.toNat 2 d.planNo)))

/-- R124, R125, R126, Table 5-6: the exchange of a joined start. A request holds ready groups and answers READY or REFUSE;
replies are noted with the issuer; four frames after the commit the decision is GO where every member is ready, else ABORT; GO
keeps what is held, ABORT releases it; at S the gates open. A start of this device alone is held with its decision made.
Mailbox rows act in the present frame and event rows where their condition holds (the model's readings, log entries 2 and 4). -/
def Obligations.JoinedStarts : Prop :=
  ∀ (s : State) (ses : Fin 32) (m : Fin 8) (start : BitVec 48) (names : List (Byte × Byte)) (groups : List (Fin 12)) (g : Fin 12) (d : Dev),
    d = s.blk.dev →
    (s.takes 0x0203 → d.esc.maj < 2 ^ 48 → 1 ≤ names.length → names.length ≤ 16 → (∀ p ∈ names, p.1 = 0xFF ∧ known d p.2.toNat = true ∧
        startReady d p.2.toNat = true) → (d.now / max 1 d.P + 2) * max 1 d.P ≤ start.toNat →
      ∃ e, exec (.cellStartTogether ses start names) s = .next (s.withDev e) ∧ e.ans = (ses.val, { status := 1, effect := d.now }) ∧
        (∀ p ∈ names, (e.group p.2.toNat).held = some (start.toNat, d.cellId, true)) ∧
        (∀ j, (∀ p ∈ names, p.2.toNat ≠ j) → e.group j = d.group j)) ∧
    (d.has 2 = true →
      (∃ e, exec (.startReq m start groups) s = .next (s.withDev e) ∧ e.regs = d.regs ∧
        (if ∀ j ∈ groups, known d j = true ∧ startReady d j = true
         then (∀ j ∈ groups, (e.group j).held = some (start.toNat, m.val, false)) ∧ ∃ b, e.cl.peerTx = d.cl.peerTx ++ [{ cls := 5, index := 1, data := b }]
         else e.grp = d.grp ∧ ∃ b, e.cl.peerTx = d.cl.peerTx ++ [{ cls := 5, index := 2, data := b }])) ∧
      exec (.startReady m start) s = .next (s.withDev { d with issue := d.issue.map (fun z =>
        if z.s = start.toNat ∧ m.val ∈ z.members then { z with ready := z.ready ++ [m.val] } else z) }) ∧
      exec (.startRefuse m start) s = .next (s.withDev { d with issue := d.issue.map (fun z =>
        if z.s = start.toNat ∧ m.val ∈ z.members then { z with refused := z.refused ++ [m.val] } else z) }) ∧
      (∀ z, d.issue = [z] → z.from_ + 4 ≤ d.esc.maj →
        ∃ e, exec .startDecision s = .next (s.withDev e) ∧ e.issue = [] ∧
          ∀ j : Fin 12, (d.group j).held = some (z.s, d.cellId, false) →
            (e.group j).held = (if (∀ q ∈ z.members, q ∈ z.ready ∧ q ∉ z.refused) then some (z.s, d.cellId, true) else none)) ∧
      (∃ e, exec (.startGo m start) s = .next (s.withDev e) ∧ e.regs = d.regs ∧ ∀ j : Fin 12,
        e.group j = (if ∃ b, (d.group j).held = some (start.toNat, m.val, b) then { d.group j with held := some (start.toNat, m.val, true) } else d.group j)) ∧
      (∃ e, exec (.startAbort m start) s = .next (s.withDev e) ∧ ∀ j : Fin 12,
        e.group j = (if ∃ b, (d.group j).held = some (start.toNat, m.val, b) then { d.group j with held := none } else d.group j)) ∧
      (∀ z, (d.group g).held = some (start.toNat, z, true) → start.toNat ≤ d.esc.maj → (d.group g).st = .standstill →
        (d.group g).queue ≠ [] → (d.gcfg g).startMode = 1 → groupHomed d g = true →
        ∃ e, exec (.startDone g) s = .next (s.withDev e) ∧ (e.group g).st = .moving ∧ (e.group g).held = none ∧
          (∀ j, j ≠ g.val → e.group j = d.group j)))


/-! ### Axes (chapter 07) -/

/-- R158, R159, R179, R180, R183, R184, Table 7-9: the commands of an axis. A free axis is energised at its actual position;
it is disabled at once at rest or in a fault, and after its ramp while it moves; a law takes effect, its current law from the
next boundary; a calibration starts; the status query clears the saturation flags it names. A grouped axis is answered STATE,
detail 0x0002. Mailbox rows act in the present frame (the model's reading, log entry 2). -/
def Obligations.AxesObey : Prop :=
  ∀ (s : State) (ses : Fin 32) (n cur outer law : BitVec 8) (target : BitVec 64) (frames : BitVec 16) (clear : Word) (d : Dev) (k : Nat)
    (c : AxisCfg), d = s.blk.dev → k = n.toNat → d.axCfg k = some c →
    (s.takes 0x0401 → c.group = none → (d.axis k).st = .disabled → axReady d k = true → d.state ≠ 7 → axisGated d k = false →
      ∃ e, exec (.axisEnable ses n) s = .next (s.withDev e) ∧ d.onlyAxis e k ∧ (e.axis k).st = .enabled ∧
        (e.axis k).outputsOn = true ∧ (e.axis k).brakeWait = some c.brakeFrames ∧ (e.axis k).pSet = axActual d k ∧
        (e.axis k).vSet = 0 ∧ (e.axis k).loop = {} ∧ e.ans = (ses.val, { effect := d.now })) ∧
    (s.takes 0x0402 →
      (c.group.isSome = true → Refuses (.axisDisable ses n) s ses 0x0402 0x21 2) ∧
      (c.group = none → (d.axis k).st = .enabled → axMoving d k = true →
        ∃ e, exec (.axisDisable ses n) s = .next (s.withDev e) ∧ d.onlyAxis e k ∧ (e.axis k).st = .enabled ∧
          (e.axis k).disablePend = true ∧ (e.axis k).ramping = true ∧ e.ans = (ses.val, { status := 1, effect := d.now })) ∧
      (c.group = none → (d.axis k).st = .enabled → axMoving d k = false →
        ∃ e, exec (.axisDisable ses n) s = .next (s.withDev e) ∧ d.onlyAxis e k ∧ (e.axis k).st = .disabled ∧
          (e.axis k).brakeOn = true ∧ e.ans = (ses.val, { effect := d.now })) ∧
      (c.group = none → (d.axis k).st = .faulted ∨ (d.axis k).st = .faultHold →
        ∃ e, exec (.axisDisable ses n) s = .next (s.withDev e) ∧ d.onlyAxis e k ∧ (e.axis k).st = .disabled ∧
          (e.axis k).fault = 0 ∧ e.ans = (ses.val, { effect := d.now }))) ∧
    (s.takes 0x0403 → lawOk d k cur.toNat outer.toNat law.toNat target.toInt = true → (d.axis k).newFault = false →
      (d.axis k).st = .disabled ∨ (d.axis k).st = .enabled →
      ∃ e, exec (.axisLaw ses n cur outer law target) s = .next (s.withDev e) ∧ d.onlyAxis e k ∧ (e.axis k).outer = outer.toNat ∧
        (e.axis k).curLaw = (d.axis k).curLaw ∧
        (e.axis k).lawPend = some (cur.toNat, if cur = 2 ∨ outer = 4 then law.toNat else 0) ∧ e.ans = (ses.val, { effect := d.now })) ∧
    (s.takes 0x0404 → frames.toNat ≤ 1000 → (d.axis k).st = .disabled → (d.axis k).outputsOn = false →
      exec (.axisCalibrateOffset ses n frames) s = .next (s.withDev ((d.setAxis k { d.axis k with
        calLeft := some (if frames = 0 then 64 else frames.toNat), calSum := (0, 0, 0), calNum := 0 }).settle ses 0x0404 d.now { status := 1 }))) ∧
    (s.takes 0x0405 →
      ∃ (e : Dev) (p : List Byte), exec (.axisStatus ses n clear) s = .next (s.withDev e) ∧
        e.ans = (ses.val, { payload := p, effect := d.now }) ∧ p.length = 32 ∧ leAt p 0 1 = (s.blk.view.axis k).st.code ∧
        leAt p 3 1 = (s.blk.view.axis k).fault % 256 ∧
        leAt p 8 4 = ((s.blk.view.reg (AX_SAT_VCMD k).addr) ||| BitVec.ofNat 32 (s.blk.view.axis k).satAcc).toNat ∧
        e.reg (AX_SAT_VCMD k).addr = d.reg (AX_SAT_VCMD k).addr &&& ~~~clear ∧
        d.sameRegsBut e [(AX_SAT_VCMD k).addr] ∧ (∀ m, m ≠ k → e.axis m = d.axis m) ∧ (e.axis k).st = (d.axis k).st)

/-- R159, R166, R172, R174, R175, R178, R181, R183, Tables 7-2, 7-4, 7-5: what happens at an axis. The offsets of a finished
measurement are its averages; brake and torque follow BRAKE_FRAMES later; a ramp fault leaves control, a torque-off fault
takes torque and engages the brake; a missing sample ages; a law that broke its sandbox gives way to PI and FOLLOW. Event rows
act where their condition holds (the model's reading, log entry 4). -/
def Obligations.AxisEvents : Prop :=
  ∀ (s : State) (n : Fin 96) (d : Dev) (a : Axis) (c : AxisCfg), d = s.blk.dev → a = d.axis n → c = d.acfg n → d.has 2 = true →
    (a.calLeft = some 0 ∨ a.calLeft = some 1 → a.calNum ≠ 0 →
      exec (.axisCalDone n) s = .next (s.withDev ((d.setAxis n { a with
        calLeft := none, calSum := (0, 0, 0), calNum := 0, calOfs := calMean a, calValid := true }).raise 0x2020 n
          (roundEven (calMean a).1) (roundEven (calMean a).2.1) (roundEven (calMean a).2.2)))) ∧
    (a.brakeWait = some 0 → a.live = true →
      ∃ e, exec (.brakeRelease n) s = .next (s.withDev e) ∧ d.onlyAxis e n ∧ e.axis n = { a with brakeWait := none, brakeOn := false }) ∧
    (a.torqueWait = some 0 →
      ∃ e, exec (.torqueRemoval n) s = .next (s.withDev e) ∧ d.onlyAxis e n ∧ e.axis n = { a with torqueWait := none, outputsOn := false }) ∧
    (c.kind ≠ .virtual → a.st = .enabled → a.outer ≠ 3 → 0 < feLimit d n → c.feTime < a.feTimer →
      ∃ e, exec (.followingError n) s = .next (s.withDev e) ∧ d.onlyAxis e n ∧ (e.axis n).st = .faultHold ∧
        (e.axis n).outputsOn = a.outputsOn ∧ (e.axis n).fault = (if a.fault = 0 then 1 else a.fault) ∧ (e.axis n).newFault = true ∧
        (c.feReact = true → e.bad.ss1Req = d.bad.ss1Req ||| 2 ^ c.stoGroup)) ∧
    (c.kind ≠ .virtual → a.live = true → 2 ≤ a.overI →
      ∃ e, exec (.overcurrent n) s = .next (s.withDev e) ∧ d.onlyAxis e n ∧ (e.axis n).st = .faulted ∧
        (e.axis n).outputsOn = false ∧ (e.axis n).brakeOn = true ∧ (e.axis n).fault = (if a.fault = 0 then 0x12 else a.fault)) ∧
    (c.noFeedback = false → a.fresh = false → a.counted = false →
      ∃ e, exec (.uplinkMissing n) s = .next (s.withDev e) ∧ d.onlyAxis e n ∧ (e.axis n).age = min 255 (a.age + 1) ∧
        (e.axis n).counted = true ∧ (e.axis n).sample = a.sample ∧
        (e.axis n).st = (if a.live = true ∧ c.kind ≠ .virtual ∧ c.ageLimit < min 255 (a.age + 1) ∧ 2 ≤ min 255 (a.age + 1)
          then .faulted else a.st)) ∧
    (c.kind ≠ .virtual → a.live = true → c.ageLimit < a.age →
      ∃ e, exec (.sampleAge n) s = .next (s.withDev e) ∧ d.onlyAxis e n ∧ (e.axis n).st = .faulted ∧
        (e.axis n).outputsOn = false ∧ (e.axis n).brakeOn = true ∧ (e.axis n).fault = (if a.fault = 0 then 0x10 else a.fault)) ∧
    (∀ k cause, a.fallback = some (k, cause) →
      ∃ e, exec (.lawFallback n) s = .next (s.withDev e) ∧ d.onlyAxis e n ∧ (e.axis n).curLaw = 0 ∧ (e.axis n).outer = 0 ∧
        (e.axis n).lawIdx = 0 ∧ (e.axis n).fallback = none ∧ (e.axis n).st = a.st ∧
        (d.running = true → e.rec_.now = d.rec_.now ++ [mkRecord d.esc.maj 0x2011 n n k cause]))


/-! ### Loop tiles (chapter 08) -/

/-- R189, R190, R191, R193, R194, Table 8-6: the arithmetic of the data registers. The exact result goes to the destination
one cycle later, saturated with S, wrapped without; Z and N follow the data result, SAT a saturation; nothing else of the tile
changes. The row's instruction is the one that issues (the model's reading, log entry 81). -/
def Obligations.TileArithmetic : Prop :=
  ∀ (s : State) (n : Fin 16) (dd x y : Fin 8) (sat : Bool) (k : Fin 24) (src : Fin 2) (sh : Fin 10), s.tileReady n →
    TileAlu (.add n dd sat x y) s n dd sat (fun c => (rdD c x).toInt + (rdD c y).toInt) ∧
    TileAlu (.sub n dd sat x y) s n dd sat (fun c => (rdD c x).toInt - (rdD c y).toInt) ∧
    TileAlu (.neg n dd sat x) s n dd sat (fun c => -(rdD c x).toInt) ∧
    TileAlu (.abs n dd sat x) s n dd sat (fun c => max (rdD c x).toInt (-(rdD c x).toInt)) ∧
    TileAlu (.min n dd sat x y) s n dd sat (fun c => min (rdD c x).toInt (rdD c y).toInt) ∧
    TileAlu (.max n dd sat x y) s n dd sat (fun c => max (rdD c x).toInt (rdD c y).toInt) ∧
    TileAlu (.shl n dd sat x k) s n dd sat (fun c => (rdD c x).toInt * 2 ^ k.val) ∧
    TileAlu (.shr n dd sat x k) s n dd sat (fun c => (rdD c x).toInt / 2 ^ k.val) ∧
    TileAlu (.mva n dd src sat sh) s n dd sat (fun c => (rdA c src).toInt * 2 ^ sh.val / 2 ^ 23)

/-- Table 8-6, R190, R194: the bitwise instructions and MOV set Z and N and never SAT; CLIP with a bound that is not negative
clamps to it; CMP sets the flags of the exact difference (log entry 12) and writes no register; LDI, LDIQ and MOVS set no
flag. The row's instruction is the one that issues (the model's reading, log entry 81). -/
def Obligations.TileMoves : Prop :=
  ∀ (s : State) (n : Fin 16) (dd x y : Fin 8) (imm : BitVec 16) (u : Tile), u = (s.blk.tile n).land → s.tileReady n →
    TileAlu (.and n dd x y) s n dd false (fun c => (rdD c x &&& rdD c y).toInt) ∧
    TileAlu (.or n dd x y) s n dd false (fun c => (rdD c x ||| rdD c y).toInt) ∧
    TileAlu (.xor n dd x y) s n dd false (fun c => (rdD c x ^^^ rdD c y).toInt) ∧
    TileAlu (.mov n dd x) s n dd false (fun c => (rdD c x).toInt) ∧
    (0 ≤ (rdD u.ctx y).toInt →
      TileAlu (.clip n dd x y) s n dd false (fun c => min (rdD c y).toInt (max (-(rdD c y).toInt) (rdD c x).toInt))) ∧
    TileDoes (.cmp n x y) s n 1 { u.ctx with z := decide (rdD u.ctx x = rdD u.ctx y), n := (rdD u.ctx x).slt (rdD u.ctx y) } [] u.data ∧
    TileDoes (.ldi n dd imm) s n 1 u.ctx [u.writeD 1 dd (imm.signExtend 24)] u.data ∧
    TileDoes (.ldiq n dd imm) s n 1 u.ctx [u.writeD 1 dd (imm ++ 0#8)] u.data ∧
    ∃ v : DWord, TileDoes (.movs n dd) s n 1 u.ctx [u.writeD 1 dd v] u.data ∧ v.getLsbD 0 = u.ctx.z ∧ v.getLsbD 1 = u.ctx.n ∧
      v.getLsbD 2 = u.ctx.sat ∧ v.getLsbD 3 = u.inEvent ∧ v.getLsbD 4 = u.ctx.l0act ∧ v.getLsbD 5 = u.ctx.l1act ∧ v.toNat < 64

/-- R189 to R191, Table 8-6: the accumulators. Products are exact; the sum saturates to 56 bits with S and wraps without. The
row's instruction is the one that issues (the model's reading, log entry 81). -/
def Obligations.TileAccumulators : Prop :=
  ∀ (s : State) (n : Fin 16) (ad src : Fin 2) (x y : Fin 8) (sat : Bool) (k : BitVec 6), s.tileReady n →
    TileAcc (.mpy n ad sat x y) s n ad sat (fun c => (rdD c x).toInt * (rdD c y).toInt) ∧
    TileAcc (.mac n ad sat x y) s n ad sat (fun c => (rdA c ad).toInt + (rdD c x).toInt * (rdD c y).toInt) ∧
    TileAcc (.msu n ad sat x y) s n ad sat (fun c => (rdA c ad).toInt - (rdD c x).toInt * (rdD c y).toInt) ∧
    TileAcc (.lda n ad x) s n ad false (fun c => (rdD c x).toInt * 2 ^ 23) ∧
    TileAcc (.adda n ad src sat) s n ad sat (fun c => (rdA c ad).toInt + (rdA c src).toInt) ∧
    TileAcc (.suba n ad src sat) s n ad sat (fun c => (rdA c ad).toInt - (rdA c src).toInt) ∧
    TileAcc (.sha n ad sat k) s n ad sat (fun c =>
      if 0 ≤ k.toInt then (rdA c ad).toInt * 2 ^ k.toInt.toNat else (rdA c ad).toInt / 2 ^ (-k.toInt).toNat)

/-- R189, R191 to R193, R205, Table 8-6: loads. The word at the pointer, or the double word at an even one, reaches its
register two cycles later, and the pointer is seen modified by the next instruction. The row's instruction is the one that
issues (the model's reading, log entry 81). -/
def Obligations.TileLoads : Prop :=
  ∀ (s : State) (n : Fin 16) (dd x : Fin 8) (ad : Fin 2) (sat : Bool) (o : MemOp) (u : Tile) (a : Nat),
    u = (s.blk.tile n).land → a = (rdP u.ctx o.p).toNat → s.tileReady n → mayLoad u.run a = true →
    TileDoes (.ld n dd o) s n 1 u.ctx (u.writeD 2 dd (u.peek a) :: u.modify o.p o.mode o.m 1) u.data ∧
    TileDoes (.ldaw n ad o) s n 1 u.ctx (u.write 2 (.a ad) (BitVec.ofInt 56 ((u.peek a).toInt * 2 ^ 23)) :: u.modify o.p o.mode o.m 1) u.data ∧
    (∀ v : Int, v = (rdA u.ctx ad).toInt + (rdD u.ctx x).toInt * (u.peek a).toInt →
      TileDoes (.macr n ad sat x o) s n 1 (u.ctx.accFlags 56 sat v) (u.write 2 (.a ad) (inRange 56 sat v) :: u.modify o.p o.mode o.m 1) u.data) ∧
    (a % 2 = 0 → mayLoad u.run (a + 1) = true → ∀ w : Int, w = (u.peek (a + 1) ++ u.peek a : BitVec 48).toInt →
      TileDoes (.ldda n ad o) s n 1 u.ctx (u.write 2 (.a ad) (BitVec.ofInt 56 w) :: u.modify o.p o.mode o.m 2) u.data ∧
      TileDoes (.addd n ad sat o) s n 1 (u.ctx.accFlags 56 sat ((rdA u.ctx ad).toInt + w))
        (u.write 2 (.a ad) (inRange 56 sat ((rdA u.ctx ad).toInt + w)) :: u.modify o.p o.mode o.m 2) u.data ∧
      TileDoes (.subd n ad sat o) s n 1 (u.ctx.accFlags 56 sat ((rdA u.ctx ad).toInt - w))
        (u.write 2 (.a ad) (inRange 56 sat ((rdA u.ctx ad).toInt - w)) :: u.modify o.p o.mode o.m 2) u.data)

/-- R190 to R193, Table 8-6: stores and the instructions of two memory operands. A store changes exactly its word, or its two
words, and is seen at once; LDST reads before it writes; STDA takes two cycles and with S set first saturates to 48 bits. The
row's instruction is the one that issues (the model's reading, log entry 81). -/
def Obligations.TileStores : Prop :=
  ∀ (s : State) (n : Fin 16) (dd de ds : Fin 8) (ad src : Fin 2) (sat : Bool) (o : MemOp) (o2 : MemOp2) (u : Tile) (a p q : Nat),
    u = (s.blk.tile n).land → a = (rdP u.ctx o.p).toNat → p = (rdP u.ctx o2.p).toNat → q = (rdP u.ctx o2.q).toNat → s.tileReady n →
    (mayStore u.run a = true →
      TileDoes (.st n ds o) s n 1 u.ctx (u.modify o.p o.mode o.m 1) (tset 0 u.data a (rdD u.ctx ds))) ∧
    (a % 2 = 0 → mayStore u.run a = true → mayStore u.run (a + 1) = true → ∀ v, v = inRange 48 sat (rdA u.ctx src).toInt →
      TileDoes (.stda n src sat o) s n 2 (u.ctx.accFlags 48 sat (rdA u.ctx src).toInt) (u.modify o.p o.mode o.m 2)
        (tset 0 (tset 0 u.data a (v.setWidth 24)) (a + 1) ((v >>> 24).setWidth 24))) ∧
    (o2.p ≠ o2.q → mayLoad u.run p = true →
      (mayLoad u.run q = true → dd ≠ de →
        TileDoes (.ld2 n dd de o2) s n 1 u.ctx ([u.writeD 2 dd (u.peek p), u.writeD 2 de (u.peek q)] ++
          u.modify o2.p o2.pmode o2.m 1 ++ u.modify o2.q o2.qmode o2.m 1) u.data) ∧
      (mayStore u.run q = true →
        TileDoes (.ldst n dd ds o2) s n 1 u.ctx ([u.writeD 2 dd (u.peek p)] ++ u.modify o2.p o2.pmode o2.m 1 ++
          u.modify o2.q o2.qmode o2.m 1) (tset 0 u.data q (rdD u.ctx ds))) ∧
      (mayLoad u.run q = true → ∀ v : Int, v = (rdA u.ctx ad).toInt + (u.peek p).toInt * (u.peek q).toInt →
        TileDoes (.macm n ad sat o2) s n 1 (u.ctx.accFlags 56 sat v) ([u.write 2 (.a ad) (inRange 56 sat v)] ++
          u.modify o2.p o2.pmode o2.m 1 ++ u.modify o2.q o2.qmode o2.m 1) u.data))

/-- R193, R196, Table 8-6: pointers, modifiers and circular buffers take 15 bits two cycles later; TRIG gives sine and cosine
12 cycles later, within 2^-22 of the exact values (`sinTurn`, in units of 2^-64). The row's instruction is the one that issues
(the model's reading, log entry 81). -/
def Obligations.TilePointers : Prop :=
  ∀ (s : State) (n : Fin 16) (pd ps x : Fin 8) (md c pair : Fin 4) (imm : BitVec 16) (u : Tile) (v : BitVec 15),
    u = (s.blk.tile n).land → v = (rdD u.ctx x).setWidth 15 → s.tileReady n →
    TileDoes (.lea n pd ps imm) s n 1 u.ctx [u.write 2 (.p pd) ((rdP u.ctx ps + imm.setWidth 15).setWidth 56)] u.data ∧
    TileDoes (.movp n pd x) s n 1 u.ctx [u.write 2 (.p pd) (v.setWidth 56)] u.data ∧
    TileDoes (.movm n md x) s n 1 u.ctx [u.write 2 (.m md) (v.setWidth 56)] u.data ∧
    TileDoes (.ldip n pd imm) s n 1 u.ctx [u.write 2 (.p pd) ((imm.setWidth 15).setWidth 56)] u.data ∧
    TileDoes (.ldim n md imm) s n 1 u.ctx [u.write 2 (.m md) ((imm.setWidth 15).setWidth 56)] u.data ∧
    TileDoes (.setc n c x) s n 1 u.ctx [u.write 2 (.c c) (v.setWidth 56)] u.data ∧
    ∃ (even odd : Fin 8) (r r' : DWord), even.val = 2 * pair.val ∧ odd.val = 2 * pair.val + 1 ∧
      TileDoes (.trig n pair x) s n 1 u.ctx [u.writeD 12 even r, u.writeD 12 odd r'] u.data ∧
      (∀ z : Int, z = sinTurn (rdD u.ctx x).toNat → z.natAbs ≤ 2 ^ 64 → (r.toInt * 2 ^ 41 - z).natAbs ≤ 2 ^ 42) ∧
      (∀ z : Int, z = sinTurn ((rdD u.ctx x).toNat + 2 ^ 22) → z.natAbs ≤ 2 ^ 64 → (r'.toInt * 2 ^ 41 - z).natAbs ≤ 2 ^ 42)

/-- R194: a branch that is taken, a LOOP with count 0 and END have two delay slots; a branch that is not taken goes on; LOOP
starts its body at the next instruction. At the end of an outer loop's body control returns to its start until the counter is
1. The row's instruction is the one that issues (the model's reading, log entry 81). -/
def Obligations.TileControl : Prop :=
  ∀ (s : State) (n : Fin 16) (x : Fin 8) (target last : BitVec 13) (u : Tile) (c : TCtx) (k : BitVec 16), u = (s.blk.tile n).land →
    c = u.ctx → k = (rdD c x).setWidth 16 → s.tileReady n →
    TileDoes (.nop n) s n 1 c [] u.data ∧ TileDelays (.br n target) s n c (.jump target) ∧
    (if c.z then TileDelays (.bz n target) s n c (.jump target) ∧ TileDoes (.bnz n target) s n 1 c [] u.data
     else TileDoes (.bz n target) s n 1 c [] u.data ∧ TileDelays (.bnz n target) s n c (.jump target)) ∧
    (if c.n then TileDelays (.bn n target) s n c (.jump target) ∧ TileDoes (.bnn n target) s n 1 c [] u.data
     else TileDoes (.bn n target) s n 1 c [] u.data ∧ TileDelays (.bnn n target) s n c (.jump target)) ∧
    (k = 0 → TileDelays (.loop n false x last) s n { c with lc0 := 0 } (.jump (last + 1)) ∧
      TileDelays (.loop n true x last) s n { c with lc1 := 0 } (.jump (last + 1))) ∧
    (k ≠ 0 →
      TileDoes (.loop n false x last) s n 1 { c with lc0 := k, l0act := true, l0start := c.pc + 1, l0end := last } [] u.data ∧
      TileDoes (.loop n true x last) s n 1 { c with lc1 := k, l1act := true, l1start := c.pc + 1, l1end := last } [] u.data) ∧
    TileDelays (.slotEnd n) s n c .slotEnd ∧
    (c.l0act = true → c.l1act = false → c.pc = c.l0end →
      Completes (.nop n) s (fun t => ((t.blk.tile n).ctx.pc, (t.blk.tile n).ctx.lc0, (t.blk.tile n).ctx.l0act) =
        (if c.lc0 = 1 then (c.pc + 1, 0, false) else (c.l0start, c.lc0 - 1, true))))

/-- R194, R206: the second delay slot of END, whatever instruction stands in it, ends the slot: TSR.SAT is handed on and cleared; the slot
of a custom law that published leaves its cycles in CLAWk_LAST. Stated for the last slot of the main list. -/
def Obligations.TileSlotEnds : Prop :=
  ∀ (s : State) (n : Fin 16) (u : Tile) (c : TCtx) (r : TRun) (k : Nat), u = (s.blk.tile n).land → c = u.ctx →
    s.blk.dev.has (3 + n / 4) = true → u.inEvent = false → u.brokenBefore = 0 → c.delay = 1 → c.after = .slotEnd →
    u.mainRun = some r → r.slot.law = some k → r.published = true → k < 64 → u.mainNext = [] → u.heldTrig = [] →
    Completes (.nop n) s (fun t => (t.blk.tile n).main.sat = false ∧ (t.blk.tile n).mainRun = none ∧
      (t.blk.dev.axis r.slot.axis).satAcc = (if c.sat then (s.blk.dev.axis r.slot.axis).satAcc ||| 128
        else (s.blk.dev.axis r.slot.axis).satAcc) ∧
      t.blk.dev.f (CLAW_LAST_LAST k) = (r.count + 1) % 2 ^ 20 ∧ (t.blk.dev.axis r.slot.axis).fallback = (s.blk.dev.axis r.slot.axis).fallback ∧
      ∀ m, m ≠ n.val → t.blk.tile m = s.blk.tile m)

/-- R181, R188, R199, R205: PUB of grant 0 takes the output block as it stands; an access outside its windows ends a custom law's slot with
cause 1 and nothing stored; the declared count ends it with cause 3; a trigger that falls in the event context is held. -/
def Obligations.TileSandboxActs : Prop :=
  ∀ (s : State) (n entry : Fin 16) (ds : Fin 8) (o : MemOp) (u : Tile) (r : TRun) (k : Nat), u = (s.blk.tile n).land →
    s.blk.dev.has (3 + n / 4) = true → k < 64 → r.slot.law = some k →
    (s.tileReady n → u.run = some r → r.slot.current = true →
      ∃ w : List DWord, w = (List.range 8).map (fun i => u.peek (0x7010 + 0x20 * r.port + i)) ∧
        Completes (.pub n 0) s (fun t => t.blk.dev = pubCurrent s.blk.dev r.slot.axis w ∧
          (t.blk.tile n).run = some { r with published := true, count := r.count + 4 } ∧ (t.blk.tile n).data = u.data)) ∧
    (u.inEvent = false → u.mainRun = some r → u.mainNext = [] → u.heldTrig = [] →
      (s.tileReady n → mayStore (some r) (rdP u.ctx o.p).toNat = false →
        Completes (.st n ds o) s (fun t => (t.blk.tile n).data = u.data ∧ (t.blk.tile n).mainRun = none ∧
          (t.blk.dev.axis r.slot.axis).fallback = some (k, 1) ∧ t.blk.dev.b (TILE_SBX_VIOL n) = true ∧
          t.blk.dev.f (TILE_SBX_CAUSE n) = 1 ∧ t.blk.dev.f (TILE_SBX_LAW n) = k)) ∧
      (r.progBase ≤ u.ctx.pc.toNat → u.ctx.pc.toNat < r.progBase + r.progLen → r.declared ≤ r.count → u.ctx.delay = 0 →
        Completes (.declaredCountReached n) s (fun t => (t.blk.tile n).mainRun = none ∧ (t.blk.tile n).data = u.data ∧
          (t.blk.dev.axis r.slot.axis).fallback = some (k, 3) ∧ t.blk.dev.f (TILE_SBX_CAUSE n) = 3))) ∧
    ((s.blk.tile n).inEvent = true →
      Completes (.tileEvent n entry) s (fun t => t.blk.dev = s.blk.dev ∧ t.blk.tile n = { s.blk.tile n with
        heldTrig := sortBy (fun (x y : Nat) => decide (x < y)) ((s.blk.tile n).heldTrig ++ [entry.val]) } ∧ s.onlyTile t n)) ∧
    (∀ (en : TEntry), (s.blk.tile n).inEvent = false → (s.blk.tile n).main.delay = 0 → tget none (s.blk.tile n).events entry = some en →
      (s.blk.tile n).heldTrig = [] → (s.blk.tile n).eventRun = none → en.chain = [] → (s.blk.tile n).mainRun.isSome = true →
        Completes (.tileEvent n entry) s (fun t => (t.blk.tile n).inEvent = false ∧ (t.blk.tile n).main = (s.blk.tile n).main ∧
          1 ≤ t.blk.dev.f (TILE_ENTRY_PEAK n)))

/-- R195: circular addressing. P6 of the main context and P7 of the event context wrap by one length at B + L and below B; double-word
instructions step by 2. -/
def Obligations.TileCircularAddressing : Prop :=
  ∀ (s : State) (n : Fin 16) (dd : Fin 8) (ad : Fin 2) (o : MemOp) (u : Tile) (step : Nat) (b l : Nat) (x : Int),
    u = (s.blk.tile n).land → s.tileReady n → mayLoad u.run (rdP u.ctx o.p).toNat = true → mayLoadD u.run (rdP u.ctx o.p).toNat = true →
    step = 1 ∨ step = 2 → o.mode ≠ .none →
    b = (if u.inEvent then u.b1.toNat else u.b0.toNat) →
    l = (if u.inEvent then (if o.p = 7 then u.l1.toNat else 0) else (if o.p = 6 then u.l0.toNat else 0)) →
    x = (rdP u.ctx o.p).toNat + (match o.mode with | .inc => (step : Int) | .dec => -(step : Int) | _ => (rdM u.ctx o.m).toInt) →
    ∃ v, v = u.write 1 (.p o.p) ((BitVec.ofInt 15 (if l = 0 then x else if (b + l : Nat) ≤ x then x - l else if x < b then x + l else x)).setWidth 56) ∧
      (step = 1 → Completes (.ld n dd o) s (fun t => v ∈ (t.blk.tile n).pipe)) ∧
      (step = 2 → Completes (.ldda n ad o) s (fun t => v ∈ (t.blk.tile n).pipe))

/-! ### The drive link (chapter 09) -/

/-- R215, R217, R221, R237: a returned marker copy gives HOP, and on lane 1 of a whole ring the ring delay; two cycles without a copy on
a lane break the ring, 64 whole ones restore it; the command frame leaves on both lanes, alike, with one record of 40 bytes a module. -/
def Obligations.RingIsWatched : Prop :=
  ∀ (s : State) (p : Fin 4) (lane : Fin 2) (cmdOk : Bool) (hop r : Nat) (d : Dev) (x : Port), d = s.blk.dev → x = d.port p →
    d.has 9 = true →
    (d.b (DL_STATUS_MARKERS p) = true → exec (.markerReturn p lane false cmdOk hop r) s = .next (s.withDev (d.setPort p
      (if lane = 0 then { x with ret0 := some (false, cmdOk) } else { x with ret1 := some (false, cmdOk) })))) ∧
    (d.b (DL_STATUS_MARKERS p) = true → x.broken = false → hop < 16 → r < 65536 →
      ∃ e, exec (.markerReturn p 1 true cmdOk hop r) s = .next (s.withDev e) ∧ e.f (DL_STATUS_HOP_RET p) = hop ∧
        e.f (DL_RING_R p) = r ∧ r ≤ e.f (DL_RING_R_PEAK p) ∧ e.b (DL_STATUS_SLOW p) = decide (d.f (DL_CFG_RING_MAX p) < r) ∧
        e.b (DL_FLAGS_RING_SLOW p) = (d.b (DL_FLAGS_RING_SLOW p) || (decide (d.f (DL_CFG_RING_MAX p) < r) && !x.slow)) ∧
        (e.port p).ret1 = some (true, cmdOk) ∧ (e.port p).ret0 = x.ret0 ∧ ∀ q, q ≠ p.val → e.port q = d.port q) ∧
    (x.broken = false → 2 ≤ x.miss0 ∨ 2 ≤ x.miss1 → exec (.ringBreak p) s = .next (s.withDev ((((d.setPort p { x with
      broken := true, both := 0, brokenFor := 0 }).setB (DL_STATUS_R_VALID p) false).setB (DL_FLAGS_RING_BREAK p) true).raise 0x4020 p p
        (d.f (DL_RING_R p)) 0))) ∧
    (x.broken = true → 64 ≤ x.both → exec (.ringRestored p) s = .next (s.withDev (((d.setPort p { x with broken := false }).setB
      (DL_STATUS_R_VALID p) true).raise 0x4021 p p (d.f (DL_RING_R p)) x.brokenFor))) ∧
    (d.b (DL_STATUS_MARKERS p) = true → ∀ m, m = d.f (DL_CFG_NMOD p) →
      ∃ (e : Dev) (f : List Byte) (rest : List Out), exec (.commandFrame p) s = .next (s.withDev e) ∧
        e.out = .dlFrame p f :: .dlFrame p f :: rest ∧ f.length = 11 + 40 * m ∧ leAt f 0 1 = 2 ∧ leAt f 1 4 = d.minorNo % 2 ^ 32 ∧
        leAt f 5 1 = m ∧ f.drop (7 + 40 * m) = le 4 (crc32c (f.take (7 + 40 * m))) ∧ (e.port p).cmdSent = true)

/-- R52, R157, R183, R227 to R229, R232, R234: an uplink copy. Every copy's safe fields go to the Badgers; a copy with a
failed CRC is counted; one outside its window is discarded; the first accepted copy of the cycle is used and logged: a sample
for the axes of a joined module, a capability record for the image's checks, averages for a calibration, a fault report. Three
discards unsynchronise a module. Event rows act where their condition holds (the model's reading, log entry 4). -/
def Obligations.UplinksAreTaken : Prop :=
  ∀ (s : State) (p : Fin 4) (slot : Fin 16) (lane : Fin 2) (ps : Int) (code : Bool) (l : List Byte) (k : Nat) (d : Dev) (x : Pos)
    (good : Nat → Prop), d = s.blk.dev → x = d.posn p k → d.has 9 = true → d.b (DL_STATUS_MARKERS p) = true → k < 12 →
    slotPos d p slot = some k → l.length = 48 →
    (∀ ty, good ty ↔ code = true ∧ leAt l 46 2 = crc16 (0xFFFF ^^^ ((0x80 + k) * 256 + d.minorNo % 256)) (l.take 46) ∧
      -24000 ≤ ps ∧ ps ≤ 24000 ∧ leAt l 0 1 = ty * 16 + k) →
    (∀ c ∈ [Instr.sampleRecord p slot lane ps code l, .capRecord p slot lane ps code l, .calRecord p slot lane ps code l,
        .faultRecord p slot lane ps code l],
      (code = false ∨ leAt l 46 2 ≠ crc16 (0xFFFF ^^^ ((0x80 + k) * 256 + d.minorNo % 256)) (l.take 46) →
        ∃ e, exec c s = .next (s.withDev e) ∧ e.f (DL_CRC_CNT_UPLINK p) = min 65535 (d.f (DL_CRC_CNT_UPLINK p) + 1) ∧
          e.ax = d.ax ∧ e.bad.fields.length = d.bad.fields.length + 2 ∧ d.sameRegsBut e [(DL_CRC_CNT_UPLINK p).addr]) ∧
      (code = true → leAt l 46 2 = crc16 (0xFFFF ^^^ ((0x80 + k) * 256 + d.minorNo % 256)) (l.take 46) → ps < -24000 ∨ 24000 < ps →
        ∃ e, exec c s = .next (s.withDev e) ∧ e.f (DL_POS_EDGE_COUNT p k) = min 65535 (d.f (DL_POS_EDGE_COUNT p k) + 1) ∧
          e.b (DL_FLAGS_SLOT_EDGE p) = true ∧ e.ax = d.ax ∧ e.bad.fields.length = d.bad.fields.length + 2 ∧
          (e.posn p k).edge = true ∧ (x.used = none → x.edge = false →
            e.f (DL_POS_EDGE_RUN p k) = min 3 (d.f (DL_POS_EDGE_RUN p k) + 1)))) ∧
    (x.used = none → x.joined = true → good 1 → ∀ n c, (d.modCfg p k).axis0 = some n → (d.modCfg p k).axis1 = none → d.acfg n = c →
      axFrameMissing d c = false →
      ∃ e, exec (.sampleRecord p slot lane ps code l) s = .next (s.withDev e) ∧ e.f (DL_POS_EDGE_RUN p k) = 0 ∧ (e.axis n).age = 0 ∧
        (e.axis n).fresh = true ∧ (e.axis n).sample.vbus = (leAt l 2 2 : Rat) * 25 ∧ (e.axis n).sample.cmdAge = leAt l 1 1 % 8 ∧
        (∀ m, m ≠ n → e.axis m = d.axis m) ∧ e.bad.fields.length = d.bad.fields.length + 2 ∧
        ∃ y ∈ e.rmt.samples, y.cls = 3 ∧ y.minor = d.minor ∧ y.source = p * 16 + (d.modCfg p k).slot ∧ y.body = l) ∧
    (x.used = none → x.joined = false → x.rejoining = false → addressing d p = true → good 2 →
      ∃ e, exec (.capRecord p slot lane ps code l) s = .next (s.withDev e) ∧ (e.posn p k).joined = false ∧
        e.f (DL_POS_ID_VENDOR p k) = leAt l 2 2 ∧ e.f (DL_POS_ID_PRODUCT p k) = leAt l 4 2 ∧
        (if capCause d p k (parseCap l) = 0 then (e.posn p k).offer = .config ∧ e.f (DL_POS_STATE_STATE p k) = 1
         else (e.posn p k).offer = .refuse (capCause d p k (parseCap l)) ∧ e.f (DL_POS_STATE_STATE p k) = 2)) ∧
    (x.used = none → x.joined = true → good 3 → ∀ n, (d.modCfg p k).axis0 = some n → (d.modCfg p k).axis1 = none → (d.axis n).calLeft = some 0 →
      ∃ e, exec (.calRecord p slot lane ps code l) s = .next (s.withDev e) ∧ (e.axis n).calLeft = none ∧ (e.axis n).calValid = true ∧
        (e.axis n).calOfs.1 = (sleAt l 4 2 : Rat) * ((x.cap.curLsb : Rat) / 1000)) ∧
    (x.used = none → x.joined = true → good 4 → d.running = true →
      ∃ e, exec (.faultRecord p slot lane ps code l) s = .next (s.withDev e) ∧ e.rec_.now.getLast? =
        some (mkRecord d.esc.maj 0x4014 (modNo p k) (modNo p k) (leAt l 2 2) (sleAt l 4 2)) ∧ ∀ n, (e.axis n).sample = (d.axis n).sample) ∧
    (∀ j : Fin 12, j.val = k → 3 ≤ d.f (DL_POS_EDGE_RUN p k) → d.f (DL_POS_STATE_STATE p k) ≠ 4 →
      ∃ e, exec (.moduleUnsync p j) s = .next (s.withDev e) ∧ (e.posn p k).joined = false ∧ (e.posn p k).rejoining = true ∧
        e.f (DL_POS_STATE_STATE p k) = 4 ∧ e.b (DL_FLAGS_UNSYNC p) = true ∧
        ∀ b ∈ boundAxes d p k, (d.acfg b.2).kind ≠ .virtual → (d.axis b.2).live = true → (e.axis b.2).st = .faulted)

/-- R218, R220, R222, R223, R225 to R227, R231, R233, Table 9-9: a module. It listens after power-on; a valid marker gives its position; it
keeps the first good record of a cycle; at the deadline the record comes into force, or the previous one is repeated until AGE_MAX, then
SAFE; three markers missed return it to LISTEN; at the sample instant it sends an uplink of 48 bytes with the next sequence number. -/
def Obligations.ModulesFollow : Prop :=
  ∀ (s : State) (p : Fin 4) (k : Fin 12) (d : Dev) (j : Nat) (m : Module), d = s.blk.dev → j = modNo p k → m = d.modl j →
    (∀ cap a b, exec (.modulePowerOn p k cap a b) s = .next (s.withDev (d.setModl j { st := .listen, cap := cap, safeId0 := a, safeId1 := b }))) ∧
    (∀ (v : Bool) (minor hop nmod ring at_ : Nat) (rv : Bool), exec (.moduleMarker p k v false minor hop nmod ring rv at_) s = .next s ∧
      (m.st = .listen ∨ m.st = .announce → m.cycleMinor ≠ some minor →
        ∃ y, exec (.moduleMarker p k v true minor hop nmod ring rv at_) s = .next (s.withDev (d.setModl j y)) ∧
          y.position = (if v then nmod - 1 - hop else hop) ∧ y.minor = some minor ∧ y.missed = 0 ∧ y.en = m.en ∧ y.brk = m.brk)) ∧
    (∀ (minor at_ : Nat) (l : List Byte) (ok : Bool), m.st = .joined → m.cycleMinor = some minor → minor < 2 ^ 32 → m.bCount < 2 →
      m.nextRec = none → l.length = 40 →
      ∃ y, exec (.moduleCommandRecord p k minor l ok at_) s = .next (s.withDev (d.setModl j y)) ∧
        y.nextRec = (if leAt l 38 2 = crc16 (0xFFFF ^^^ ((m.position * 256 + minor % 256) % 65536)) (l.take 38) then some l else none) ∧
        y.en = m.en ∧ y.st = .joined) ∧
    (m.st = .joined → m.cycleMinor.isSome = true →
      (m.nextRec = none → ∃ y, exec (.moduleApplyDeadline p k) s = .next (s.withDev (d.setModl j y)) ∧ y.age = min 7 (m.age + 1) ∧
        (if m.age + 1 ≤ m.ageMax then y.st = .joined ∧ y.en = m.en ∧ y.phases = m.phases ∧ y.duties = m.duties
         else y.st = .safe ∧ y.en = 0 ∧ y.brk = 3)) ∧
      (∀ l, m.nextRec = some l → leAt l 0 1 / 16 = 1 → (leAt l 1 1).testBit 6 = false →
        ∃ y, exec (.moduleApplyDeadline p k) s = .next (s.withDev (d.setModl j y)) ∧ y.age = 0 ∧ y.rec_ = l ∧ y.nextRec = none ∧
          y.brk = leAt l 1 1 / 4 % 4 ∧ y.en = (if (leAt l 1 1).testBit 4 then 0 else leAt l 1 1 % 4))) ∧
    (m.st = .joined ∨ m.st = .safe ∨ m.st = .announce → 3 ≤ m.missed →
      ∃ y, exec (.moduleMarkersMissed p k) s = .next (s.withDev (d.setModl j y)) ∧ y.st = .listen ∧ y.en = 0 ∧ y.brk = 3 ∧ y.nextRec = none) ∧
    (∀ sm, m.st = .joined → m.withheld = false → m.fault = none → m.calSend = false →
      ∃ (e : Dev) (b : List Byte), exec (.moduleSampleInstant p k sm) s = .next (s.withDev e) ∧ e.out = .dlUplink p m.position b :: d.out ∧
        b.length = 48 ∧ (e.modl j).safeSeq = (m.safeSeq + 1) % 65536 ∧ (m.position < 16 → leAt b 0 1 = 16 + m.position) ∧
        leAt b 32 2 = m.safeSeq % 65536) ∧
    (∀ code, m.st = .joined ∨ m.st = .safe → exec (.moduleFault p k code true) s = .next (s.withDev (d.setModl j { m with
      fault := some code, faultCause := true, faultSent := m.faultSent && decide (m.fault = some code) })))


/-! ### Local power stages and sampling (chapter 10) -/

/-- R245, R246: at a reload whose transfer is armed PER and the edges move to live, an edge above the new PER as PER with FINE 0 and CLAMP
set, the staging copy keeps its values; the third reload in a row with a difference and no transfer sets STALE. Of R244 and Table 10-2: a
staging write changes the staging copy alone and disarms a transfer; COMMIT arms one, late in the reload cycle where none was armed. -/
def Obligations.PwmStagedUpdates : Prop :=
  ∀ (s : State) (g : Fin 16) (reg : StagedReg) (v : Word) (at_ ended : Nat) (d : Dev) (a : Nat) (m : Word), d = s.blk.dev →
    a = 0x200000 + 64 * g + reg.offset → m = accMask a (fun c => decide (c = .rw)) → d.has 10 = true →
    (∃ e, exec (.stagingWrite g reg v) s = .next (s.withDev e) ∧ e.reg a = ((d.reg a &&& ~~~m) ||| (v &&& m)) ∧
      e.b (PWM_GRP_UPD_PENDING g) = false ∧ e.b (PWM_GRP_UPD_DIFF g) = pwmDiff e g ∧
      d.sameRegsBut e [a, (PWM_GRP_UPD_PENDING g).addr] ∧ e = { d with regs := e.regs }) ∧
    (d.running = false ∨ at_ ≠ d.esc.t0 ∨ (d.pwm g).moved = true →
      exec (.pwmCommit g at_) s = .next (s.withDev (d.setB (PWM_GRP_UPD_PENDING g) true))) ∧
    (d.running = true → at_ = d.esc.t0 → (d.pwm g).moved = false → exec (.pwmCommit g at_) s = .next (s.withDev
      (((d.setB (PWM_GRP_UPD_PENDING g) true).setB (PWM_GRP_FLAGS_LATE_COMMIT g) true).setPwm g { d.pwm g with newLate := true }))) ∧
    (∀ e, e = pwmReload d g ended →
      e.b (PWM_GRP_UPD_PENDING g) = false ∧ e.f (PWM_GRP_PER_PER g) = d.f (PWM_GRP_PER_PER g) ∧
      e.f (PWM_LIVE_PER_PER g) = (if d.b (PWM_GRP_UPD_PENDING g) then d.f (PWM_GRP_PER_PER g) else d.f (PWM_LIVE_PER_PER g)) ∧
      e.f (PWM_GRP_UPD_STALE_CNT g) = (if d.b (PWM_GRP_UPD_PENDING g) || !pwmDiff d g then 0
        else min 3 (d.f (PWM_GRP_UPD_STALE_CNT g) + 1)) ∧
      e.b (PWM_GRP_FLAGS_STALE g) = (d.b (PWM_GRP_FLAGS_STALE g) ||
        (!d.b (PWM_GRP_UPD_PENDING g) && pwmDiff d g && decide (d.f (PWM_GRP_UPD_STALE_CNT g) = 2))) ∧
      e.b (PWM_GRP_FLAGS_CLAMP g) = (d.b (PWM_GRP_FLAGS_CLAMP g) || (d.b (PWM_GRP_UPD_PENDING g) && (List.range 6).any (fun c =>
        decide (8 * d.f (PWM_GRP_PER_PER g) < edgeSteps d (PWM_GRP_RISE_COARSE g c) (PWM_GRP_RISE_FINE g c)) ||
        decide (8 * d.f (PWM_GRP_PER_PER g) < edgeSteps d (PWM_GRP_FALL_COARSE g c) (PWM_GRP_FALL_FINE g c))))) ∧
      (∀ c, c < 6 → ∀ x ∈ [(PWM_GRP_RISE_COARSE g c, PWM_GRP_RISE_FINE g c, PWM_LIVE_RISE_COARSE g c, PWM_LIVE_RISE_FINE g c),
          (PWM_GRP_FALL_COARSE g c, PWM_GRP_FALL_FINE g c, PWM_LIVE_FALL_COARSE g c, PWM_LIVE_FALL_FINE g c)],
        e.f x.1 = d.f x.1 ∧ e.f x.2.1 = d.f x.2.1 ∧ (d.b (PWM_GRP_UPD_PENDING g) = true →
          if 8 * d.f (PWM_GRP_PER_PER g) < edgeSteps d x.1 x.2.1 then e.f x.2.2.1 = d.f (PWM_GRP_PER_PER g) ∧ e.f x.2.2.2 = 0
          else e.f x.2.2.1 = d.f x.1 ∧ e.f x.2.2.2 = d.f x.2.1)))

/-- R241 to R243, R250 to R253, R441: the switches of a channel are never on together, whatever shaping acts; a trip that acts takes
its groups, and no other, to their safe levels and latches; TRIP_CLR acts only with every input inactive; loss of CLK_TIME forces every
channel off; a pad that differs from its expected level trips its group. -/
def Obligations.PwmSafeStates : Prop :=
  (∀ (rise fall per dlh dhl minp : Nat) (stretch : Bool) (boot : Option Nat), (shapeWave rise fall per dlh dhl minp stretch boot).1.apart) ∧
  ∀ (s : State) (t : Fin 8) (g : Fin 16) (ch : Fin 6) (level : Bool) (cycles : Nat) (d : Dev), d = s.blk.dev →
    (d.has 10 = true → level = d.b (PWM_TRIP_CFG_POL t) →
      exec (.pwmTrip t level cycles) s = .next (s.withDev (d.setB (PWM_TRIP_CFG_LEVEL t) false))) ∧
    (d.has 10 = true → level ≠ d.b (PWM_TRIP_CFG_POL t) → d.b (PWM_TRIP_CFG_MODE t) = true → cycles < d.f (PWM_TRIP_CFG_FLT t) →
      exec (.pwmTrip t level cycles) s = .next (s.withDev ((d.setB (PWM_TRIP_CFG_LEVEL t) true).setB (PWM_TRIP_CFG_SEEN t) true))) ∧
    (d.has 10 = true → level ≠ d.b (PWM_TRIP_CFG_POL t) → d.b (PWM_TRIP_CFG_MODE t) = false ∨ d.f (PWM_TRIP_CFG_FLT t) ≤ cycles →
      ∃ e, exec (.pwmTrip t level cycles) s = .next (s.withDev e) ∧ d.onlyIo e ∧ e.b (PWM_TRIP_CFG_LEVEL t) = true ∧
        ∀ k : Fin 16, if (d.f (PWM_GCFG_TRIP_MASK k)).testBit t then
            e.b (PWM_GCTL_TRIPPED k) = true ∧ e.b (PWM_GCTL_SAFE k) = true ∧ (e.pwm k).live = false ∧
            ∀ c, c < d.f (PWM_GCFG_COUNT k) → e.wave (d.f (PWM_GCFG_FIRST k) + c) = .off ∨ e.wave (d.f (PWM_GCFG_FIRST k) + c) = .lowOn
          else e.pwm k = d.pwm k ∧ e.b (PWM_GCTL_TRIPPED k) = d.b (PWM_GCTL_TRIPPED k)) ∧
    (d.has 10 = true → (∀ x : Fin 8, (d.f (PWM_GCFG_TRIP_MASK g)).testBit x = true → d.b (PWM_TRIP_CFG_LEVEL x) = false) →
      exec (.tripClr g) s = .next (s.withDev (d.setB (PWM_GCTL_TRIPPED g) false))) ∧
    (d.has 10 = true → (d.f (PWM_GCFG_TRIP_MASK g)).testBit t = true → d.b (PWM_TRIP_CFG_LEVEL t) = true → exec (.tripClr g) s = .next s) ∧
    (d.has 0 = true → ∃ e, exec .clkTimeLoss s = .next (s.withDev e) ∧ d.onlyIo e ∧ e.b PWM_FORCE_CLK_LOSS = true ∧ (∀ c, e.wave c = .off) ∧
      (∀ k : Fin 16, (e.pwm k).live = false ∧ e.b (PWM_GCTL_SAFE k) = true) ∧ ∀ k : Fin 16, e.b (CMP_PIN_CFG_LEVEL k) = false) ∧
    (d.has 10 = true → d.running = true → ∃ e, exec (.pwmReadback g ch level) s = .next (s.withDev e) ∧ e.b (PWM_GCTL_TRIPPED g) = true ∧
      (e.pwm g).live = false ∧ e.pwr.readback = d.pwr.readback + 1 ∧ (∀ k, k ≠ g.val → e.pwm k = d.pwm k) ∧
      e.rec_ = { d.rec_ with now := d.rec_.now ++ [mkRecord d.esc.maj 0x9013 g g ch level.toNat] })

/-- R255 to R257: the result of a sigma-delta input from its raw sum, clamped, invalid while no window holds a transition; the local
sample block of a group is logged, and its axes take their samples; an input without transitions reports SD_FAULT. -/
def Obligations.LocalSamples : Prop :=
  ∀ (s : State) (g inp : Fin 16) (at_ i x : Nat) (tr : Bool) (d : Dev) (k : Nat) (z : Int), d = s.blk.dev → d.has 10 = true → i < 16 →
    k = sdK d i → z = ((x : Int) - (2 ^ (3 * k - 1) : Nat)) * 65536 →
    (d.replaying = false → blockSds d g = [i] → (∀ n ∈ d.axisList, axBlock d (d.acfg n) ≠ some g.val) →
      ∃ (e : Dev) (r : Int) (y : LogEntry), exec (.localSampleBlockReady g at_ [(x, tr)]) s = .next (s.withDev e) ∧
        r = max (-32768) (min 32767 (z.fdiv (2 ^ (3 * k) : Nat))) ∧ e.f (SD_RESULT_RESULT i) = sfield 16 r ∧
        e.b (SD_RESULT_FAULT i) = (d.b (SD_RESULT_FAULT i) && !tr) ∧ e.b (SD_RESULT_VALID i) = !(d.b (SD_RESULT_FAULT i) && !tr) ∧
        e.b (SD_FLAGS_CLIP i) = (d.b (SD_FLAGS_CLIP i) || decide (r ≠ z.fdiv (2 ^ (3 * k) : Nat))) ∧
        e.rmt.samples = d.rmt.samples ++ [y] ∧ y.cls = 4 ∧ y.minor = d.minor ∧ y.source = g ∧ y.body = le 1 i ++ sle 2 r ∧
        d.sameRegsBut e [(SD_RESULT_RESULT i).addr, (SD_FLAGS_CLIP i).addr]) ∧
    (∀ n, d.replaying = false → blockSds d g = [] → d.axisList.filter (fun m => decide (axBlock d (d.acfg m) = some g.val)) = [n] →
      axFrameMissing d (d.acfg n) = false →
      ∃ e, exec (.localSampleBlockReady g at_ []) s = .next (s.withDev e) ∧ (e.axis n).age = 0 ∧ (e.axis n).fresh = true ∧
        (e.axis n).sampleAt = at_ ∧ (e.axis n).sample.pos = (axFeedback d (d.acfg n) (0, 0)).1 ∧ ∀ m, m ≠ n → e.axis m = d.axis m) ∧
    (d.replaying = true → exec (.localSampleBlockReady g at_ [(x, tr)]) s = .next s) ∧
    (exec (.sdFault inp) s = .next (s.withDev ((((d.setB (SD_RESULT_FAULT inp) true).setB (SD_RESULT_VALID inp) false).setB
      (SD_FLAGS_FAULT inp) true).raiseNext 0x2054 inp inp (d.f (SD_CFG_GROUP inp)) 0)))

/-! ### Feedback, latches, compare units, steppers (chapters 11 and 12) -/

/-- R260, R262 to R266, R269, R473: an edge counts one up or down, modulo 2^48; both levels at once leave the count and, at
the limit, clear VALID and fault the bound axes; the index captures the count; a serial frame follows the raw value modulo
2^BITS, or is invalid and leaves the count; the sample takes count and speed; REVALID restores the channel. The direction that
counts up is presumed (log entry 20). -/
def Obligations.EncodersCount : Prop :=
  ∀ (s : State) (ch : Fin 24) (x y : Bool) (at_ : Nat) (d : Dev) (c : FbCh), d = s.blk.dev → c = d.fb ch → d.has 10 = true →
    (d.f (FB_CFG_MODE ch) = 2 →
      (x = true → c.a = false → ∃ (e : Dev) (rev : Bool), exec (.fbEdge ch x y at_) s = .next (s.withDev e) ∧ d.onlyIo e ∧
        rev = (y != d.b (FB_CFG_INV ch)) ∧ (e.fb ch).pos = (BitVec.ofInt 48 (c.pos + if rev then -1 else 1)).toInt ∧
        e.b (FB_STAT_DIR ch) = rev ∧ (e.fb ch).a = x ∧ (e.fb ch).b = y ∧ ∀ k, k ≠ ch.val → e.fb k = d.fb k) ∧
      (x = false ∨ c.a = true → exec (.fbEdge ch x y at_) s = .next (s.withDev (d.setFb ch { c with a := x, b := y })))) ∧
    (d.f (FB_CFG_MODE ch) = 1 → (x = c.a ∧ y ≠ c.b) ∨ (x ≠ c.a ∧ y = c.b) →
      ∃ e, exec (.fbEdge ch x y at_) s = .next (s.withDev e) ∧ d.onlyIo e ∧ e.b (FB_FLAGS_QUAD_ERR ch) = d.b (FB_FLAGS_QUAD_ERR ch) ∧
        ((e.fb ch).pos = (BitVec.ofInt 48 (c.pos + 1)).toInt ∨ (e.fb ch).pos = (BitVec.ofInt 48 (c.pos - 1)).toInt)) ∧
    (d.f (FB_CFG_MODE ch) = 1 → x ≠ c.a → y ≠ c.b → d.b (FB_STAT_VALID ch) = true → c.stBad = false → d.f (FB_CFG_QERR_LIMIT ch) ≠ 0 →
      ∃ e, exec (.fbEdge ch x y at_) s = .next (s.withDev e) ∧ (e.fb ch).pos = c.pos ∧ e.b (FB_FLAGS_QUAD_ERR ch) = true ∧
        e.f (FB_STAT_QERR_CNT ch) = min 255 (d.f (FB_STAT_QERR_CNT ch) + 1) ∧
        e.b (FB_STAT_VALID ch) = decide (e.f (FB_STAT_QERR_CNT ch) < d.f (FB_CFG_QERR_LIMIT ch)) ∧
        (e.b (FB_STAT_VALID ch) = false → ∀ n ∈ d.axisList, (d.acfg n).kind ≠ .virtual → (d.acfg n).noFeedback = false →
          (d.acfg n).fbMotor = ch.val → (d.axis n).st = .enabled → (e.axis n).st = .faulted)) ∧
    (fbInvalidCause d ch = 0 → exec (.fbInvalid ch) s = .next s) ∧
    (fbInvalidCause d ch ≠ 0 → ∃ e, exec (.fbInvalid ch) s = .next (s.withDev e) ∧ e.b (FB_STAT_VALID ch) = false ∧
      e.b (FB_FLAGS_INVALID ch) = true ∧ (e.fb ch).newInvalid = true ∧
      ∀ u, u < 32 → d.f (CMP_CFG_CHAN u) = ch.val → (e.cmp u).armed = false ∧ (e.cmp u).staged = none) ∧
    (1 ≤ d.f (FB_CFG_MODE ch) → d.f (FB_CFG_MODE ch) ≤ 3 → d.f (FB_CFG_IDX_GATE ch) = 0 → x ≠ d.b (FB_CFG_IDX_POL ch) →
      c.z = d.b (FB_CFG_IDX_POL ch) →
      exec (.indexCapture ch x) s = .next (s.withDev ((d.setFb ch { c with z := x, idx := c.pos }).setB (FB_STAT_IDX_NEW ch) true))) ∧
    (∀ (j : Nat) (bits : List Bool) (raw : Int), j = ch.val - 16 → d.f (FB_CFG_MODE ch) = 4 → d.f (FB_SER_STATUS j) = 0 →
      d.b (FB_SER_PARITY j) = false → d.b (FB_SER_GRAY j) = false → bits.length = d.f (FB_SER_SKIP j) + d.f (FB_SER_BITS j) →
      raw = bitsVal (bits.drop (d.f (FB_SER_SKIP j))) →
      (∃ e, exec (.serialFrame ch true bits at_) s = .next (s.withDev e) ∧ d.onlyIo e ∧ (e.fb ch).raw = raw ∧
        e.b (FB_STAT_SER_OK ch) = true ∧ (e.fb ch).rawPrev = some raw ∧ (e.fb ch).pos = (BitVec.ofInt 48 (match c.rawPrev with
          | none => raw | some r => c.pos + (BitVec.ofInt (d.f (FB_SER_BITS j)) (raw - r)).toInt)).toInt) ∧
      (∃ e, exec (.serialFrame ch false bits at_) s = .next (s.withDev e) ∧ (e.fb ch).pos = c.pos ∧ (e.fb ch).rawPrev = c.rawPrev ∧
        e.b (FB_STAT_SER_OK ch) = false ∧ e.b (FB_FLAGS_SER_ERR ch) = true ∧ e.f (FB_FLAGS_SER_CAUSE ch) = 2)) ∧
    (d.f (FB_CFG_MODE ch) = 0 → exec (.fbSample ch at_) s = .next s) ∧
    (d.f (FB_CFG_MODE ch) ≠ 0 → ∃ e, exec (.fbSample ch at_) s = .next (s.withDev e) ∧ (e.fb ch).sample.count = c.pos ∧
      (e.fb ch).sample.at_ = at_ ∧ (e.fb ch).pos = c.pos ∧ e.b (FB_STAT_IDX_NEW ch) = false ∧
      sfield 32 (e.fb ch).sample.speed = e.f (FB_SPEED_SPEED ch) ∧
      (d.f (FB_CFG_MODE ch) ≠ 4 → stillCycles d ch ≤ at_ - c.since →
        (e.fb ch).sample.speed = 0 ∧ e.b (FB_STAT_STANDSTILL ch) = true ∧ e.b (FB_STAT_DIR ch) = d.b (FB_STAT_DIR ch)) ∧
      d.sameRegsBut e [(FB_SPEED_SPEED ch).addr, (FB_STAT_VALID ch).addr] ∧ e = { d with regs := e.regs, io := e.io }) ∧
    exec (.revalid ch) s = .next (s.withDev (((d.setB (FB_STAT_VALID ch) true).setF (FB_STAT_QERR_CNT ch) 0).setFb ch { c with stBad := false }))

/-- R271 to R274, R277, R281: a latch event of a pin is delivered with the count at its capture, once a batch, the next one
overruns; a target is staged in two writes or by `io.compare_set`; a firing latches its instant and starts a pulse of PW × 5
ns, which then ends. Mailbox rows act in the present frame and event rows where their condition holds (the model's readings,
log entries 2 and 4). -/
def Obligations.LatchesAndCompares : Prop :=
  ∀ (s : State) (src : Fin 24) (at_ n : Nat) (level : Bool) (ses u : Fin 32) (pin : Fin 16) (v : Word) (target : BitVec 48) (d : Dev),
    d = s.blk.dev → n = d.f (LAT_CFG_SRC src) → d.has 10 = true →
    (d.b (LAT_CFG_EN src) = false ∨ (d.f (LAT_CFG_EDGE src)).testBit (if level then 0 else 1) = false →
      exec (.latchEvent src at_ level) s = .next s) ∧
    (d.b (LAT_CFG_EN src) = true → (d.f (LAT_CFG_EDGE src)).testBit (if level then 0 else 1) = true → src.val < 16 →
      d.b (LAT_CFG_KIND src) = false → d.b (FB_STAT_VALID n) = true →
      (latchWaits d src at_ = false → d.f (FB_CFG_MODE n) ≠ 4 →
        ∃ (e : Dev) (p : Int), exec (.latchEvent src at_ level) s = .next (s.withDev e) ∧ p = countAt (d.fb n).pos (d.fb n).hist at_ ∧
          e.rmt.inputs = d.rmt.inputs ++ [{ stamp := at_, frame := (d.locate at_).1, input := .latch src p at_ level }] ∧
          tget 0 e.io.latPos src.val = p ∧ e.f (LAT_TIME_OFS src) = (d.locate at_).2.2 % 65536 ∧ e.b (LAT_TIME_LEVEL src) = level ∧
          e.b (LAT_STAT_NEW src) = true ∧ e.b (LAT_STAT_OVR src) = d.b (LAT_STAT_OVR src) ∧ e.io.fb = d.io.fb) ∧
      (latchWaits d src at_ = true → d.running = true →
        ∃ e, exec (.latchEvent src at_ level) s = .next (s.withDev e) ∧ d.onlyIo e ∧ e.b (LAT_STAT_OVR src) = true ∧
          e.f (LAT_STAT_OVR_CNT src) = min 65535 (d.f (LAT_STAT_OVR_CNT src) + 1) ∧ e.rmt.inputs = d.rmt.inputs ∧
          d.raisedNext e 0x2070 src src 1 0)) ∧
    (∃ e, exec (.cmpTgtHiWrite u v) s = .next (s.withDev e) ∧ (e.cmp u).staged = some
        ((BitVec.ofNat 48 (d.f (CMP_TGT_LO_TGT_LO u) + 2 ^ 32 * (v.toNat % 65536))).toInt, v.getLsbD 16) ∧
      e.b (CMP_TGT_HI_STAGED u) = true ∧ (∀ k, k ≠ u.val → e.cmp k = d.cmp k) ∧ d.sameRegsBut e [(CMP_TGT_HI_STAGED u).addr]) ∧
    (∀ w, w = BitVec.ofNat 8 u.val → s.takes 0x0603 → cmpConfigured d u = true → d.f (CMP_CFG_MODE u) ≠ 2 →
      (cmpOwned d u = true → Refuses (.ioCompareSetArm ses w target) s ses 0x0603 0x21 2 ∧
        Refuses (.ioCompareSetCancel ses w target) s ses 0x0603 0x21 2) ∧
      (cmpOwned d u = false → d.b (FB_STAT_VALID (d.f (CMP_CFG_CHAN u))) = true →
        exec (.ioCompareSetArm ses w target) s = .next (s.withDev ((cmpStageTarget d u target.toInt true).settle ses 0x0603 d.now { status := 1 })) ∧
        exec (.ioCompareSetCancel ses w target) s = .next (s.withDev ((cmpStageTarget d u target.toInt false).settle ses 0x0603 d.now {})))) ∧
    ((∀ t, cmpDue d u = some t → at_ < t) → exec (.compareFire u at_) s = .next s) ∧
    (∀ t, cmpDue d u = some t → t ≤ at_ →
      ∃ e, exec (.compareFire u at_) s = .next (s.withDev e) ∧ (e.cmp u).armed = false ∧ e.f (CMP_STAT_STATE u) = 2 ∧
        e.b (CMP_STAT_FIRED u) = true ∧ e.f (CMP_FIRE_OFS u) = (d.locate at_).2.2 % 65536 ∧ e.f (CMP_FMAJ_MAJ u) = (d.locate at_).1 % 2 ^ 32 ∧
        (d.forced = false → d.replaying = false → pin.val = d.f (CMP_CFG_PIN u) → d.f (CMP_PIN_CFG_PW pin) ≠ 0 →
          e.b (CMP_PIN_CFG_LEVEL pin) = true ∧ tget 0 e.io.pinUntil pin.val = at_ + d.f (CMP_PIN_CFG_PW pin) * 4) ∧
        (∀ k, k ≠ u.val → e.cmp k = d.cmp k) ∧ e.io.fb = d.io.fb) ∧
    (tget 0 d.io.pinUntil pin.val ≤ at_ → ∃ e, exec (.cmpPulseEnd pin at_) s = .next (s.withDev e) ∧ e.b (CMP_PIN_CFG_LEVEL pin) = false ∧
      d.sameRegsBut e [(CMP_PIN_CFG_LEVEL pin).addr] ∧ e.io.cmp = d.io.cmp) ∧
    (at_ < tget 0 d.io.pinUntil pin.val → exec (.cmpPulseEnd pin at_) s = .next s)

/-- R279, R280, R289, R290, R292, Table 10-2: COMMIT arms the transfer of a step pair, late in the reload cycle; the reload
emits the commanded steps and POS counts those emitted; a phase that has decayed 32 minor frames reports once an episode;
AMP_HOLD follows HOLD_FRAMES at rest; the applied angle at a level lies at the middle of its step. Event rows act where their
condition holds (the model's reading, log entry 4). -/
def Obligations.SteppersAct : Prop :=
  ∀ (s : State) (n : Fin 16) (c : Fin 12) (at_ per ended : Nat) (d : Dev) (x : Stepper), d = s.blk.dev → x = d.stp c →
    (d.has 10 = true →
      (d.running = false ∨ at_ ≠ d.esc.t0 ∨ (d.pair n).moved = true →
        exec (.stepCommit n at_) s = .next (s.withDev (d.setB (STEP_UPD_PENDING n) true))) ∧
      (d.running = true → at_ = d.esc.t0 → (d.pair n).moved = false →
        exec (.stepCommit n at_) s = .next (s.withDev ((d.setB (STEP_FLAGS_LATE_COMMIT n) true).setB (STEP_UPD_PENDING n) true))) ∧
      (32 ≤ x.decayA → x.starvedA = false → d.running = true →
        ∃ e, exec (.stepChopStarved c false) s = .next (s.withDev e) ∧ e.stp c = { x with starvedA := true } ∧
          e.b (STP_FLAGS_CHOP_STARVED c) = true ∧ d.onlyIo e ∧ d.raisedNext e 0x20A0 (d.stpCfg c).axis (d.stpCfg c).axis 0 (truncR x.vfs)) ∧
      (32 ≤ x.decayB → x.starvedB = false → d.running = true →
        ∃ e, exec (.stepChopStarved c true) s = .next (s.withDev e) ∧ e.stp c = { x with starvedB := true } ∧
          e.b (STP_FLAGS_CHOP_STARVED c) = true ∧ d.onlyIo e ∧ d.raisedNext e 0x20A0 (d.stpCfg c).axis (d.stpCfg c).axis 1 (truncR x.vfs)) ∧
      (x.decayA < 32 ∨ x.starvedA = true → exec (.stepChopStarved c false) s = .next s) ∧
      ((d.stpCfg c).holdFrames ≤ x.still → d.b (STP_STAT_STRONG c) = false →
        exec (.ampHold c) s = .next (s.withDev (d.setB (STP_STAT_HOLD c) true))) ∧
      (x.still < (d.stpCfg c).holdFrames → exec (.ampHold c) s = .next s)) ∧
    (∀ (e : Dev) (k : Nat), e = stepReload d n per ended → k = (e.pair n).pulses.length →
      e.b (STEP_UPD_PENDING n) = false ∧
      (e.pair n).pos = (BitVec.ofInt 48 ((d.pair n).pos + if (e.pair n).rev then -(k : Int) else k)).toInt ∧
      (d.b (STEP_UPD_PENDING n) = false ∨ d.forced = true → k = 0 ∧ (e.pair n).rev = (d.pair n).rev) ∧
      (k ≤ (BitVec.ofNat 16 (d.f (STEP_CMD_N n))).toInt.natAbs) ∧
      (∀ t ∈ (e.pair n).pulses, t + d.f (STEP_CFG_PW n) ≤ per) ∧ ∀ m, m ≠ n.val → e.pair m = d.pair m) ∧
    (∀ (m : Int) (l : Nat), l ≤ 8 → appliedAngle m l < 1024 ∧ (l = 0 → (appliedAngle m l : Int) = m % 1024) ∧
      (0 < l → appliedAngle m l % 2 ^ l = 2 ^ (l - 1)))

/-! ### The safety channel (chapters 13 and 14) -/

/-- R299 to R303, R307, R464: a safety cycle latches at its start and switches nothing before its evaluation ends; while the STO request
line is asserted, or a channel is not ACTIVE, it leaves every group in STO; at the end of evaluation each Badger sets its own switches,
and the motion die learns the demands and what the cycle reports; two lost ticks demand SS1; differing frames, or two comparison messages missing, fault both channels; without VSOUT no output is on. -/
def Obligations.SafetyCycle : Prop :=
  ∀ (s : State) (at_ : Nat) (edm : BitVec 8) (ch : Fin 2) (level : Bool) (d : Dev) (f : Safety) (x : Badger), d = s.blk.dev → f = s.blk.saf →
    x = f.ch ch → d.alive = true →
    (f.staged = none → ∃ (e : Dev) (g : Safety), exec (.badgerCycle at_ edm) s = .next (s.withSaf g e) ∧ e.bad.ss1Req = 0 ∧
      g.a.sw = f.a.sw ∧ g.b.sw = f.b.sw ∧ g.a.st = f.a.st ∧ g.b.st = f.b.st ∧
      (f.a.on = true → g.a.cycle = f.a.cycle + 1 ∧ g.a.frame = d.esc.maj ∧ g.a.start = at_ ∧ g.a.edm = edm.toNat) ∧
      (d.bad.line = true ∨ f.a.st ≠ .active ∨ f.b.st ≠ .active → ∀ k : Fin 9, (g.a.g k).st = .sto ∧ (g.b.g k).st = .sto)) ∧
    (∃ (e : Dev) (y : Badger), exec (.evaluationEnd ch at_) s = .next (s.withSaf (f.setCh ch y) e) ∧ d.onlyBad e ∧
      y.sw = (if x.st = .active ∧ d.replaying = false then x.want else 0) ∧ y.st = x.st ∧ y.grp = x.grp ∧ y.want = x.want ∧
      (∀ o : Fin 8, x.sw.testBit o = true → y.sw.testBit o = false → tget 0 y.offAt o.val = at_ + 1) ∧
      (∀ k : Fin 9, e.bad.released.testBit k = decide (f.applied k = .released) ∧ e.bad.sto.testBit k = decide (f.applied k = .sto)) ∧
      e.bad.reports = [] ∧ (∀ a, a / 0x100000 ≠ 0xE → a ∉ recordRegs → e.reg a = d.reg a)) ∧
    (d.has 1 = true → exec (.stoRequestLine level) s = .next (s.withDev { d with bad := { d.bad with line := level || decide (d.state = 3) } })) ∧
    (x.on = false → exec (.tickLost ch) s = .next s) ∧
    (x.on = true → d.running = true → ∃ e, exec (.tickLost ch) s = .next (s.withSaf (f.setCh ch { x with
        lost := x.lost + 1, inTime := 0, lostNow := true, tickHold := x.tickHold || decide (1 ≤ x.lost) }) e) ∧
      e.b Fld.SAFE_FLAGS_TICK_LOST = true ∧ e.b (Fld.SAFE_CH_STATUS_TICK_OK ch) = false ∧ d.raisedNext e 0x5030 ch ch (x.lost + 1) 0) ∧
    (f.a.talks → f.b.talks →
      (f.a.frame = f.b.frame → f.a.set.map (·.sig) = f.b.set.map (·.sig) → exec (.crossCompare true true) s = .next (s.withSaf
        { f with a := { f.a with cmpMiss := 0 }, b := { f.b with cmpMiss := 0 } } d)) ∧
      (f.a.frame ≠ f.b.frame → ∃ (e : Dev) (g : Safety), exec (.crossCompare true true) s = .next (s.withSaf g e) ∧ d.onlyBad e ∧
        g.a.faulted 1 ∧ g.b.faulted 1) ∧
      (1 ≤ f.a.cmpMiss → ∃ (e : Dev) (g : Safety), exec (.crossCompare false true) s = .next (s.withSaf g e) ∧ d.onlyBad e ∧
        g.a.faulted 3 ∧ g.b.faulted 3)) ∧
    (exec (.vsoutUndervoltage level) s = .next (s.withSaf { f with vsoutLow := level } d) ∧
      (level = true → ∀ o, Safety.outputOn { f with vsoutLow := level } o = false))

/-- R305, R310, R311: a safe-input channel passes a level held for SI_FLT, and no other; differing states for DISC_T latch DISCREPANCY for
the input's MASK; a test pulse opens the Badger's own switch and closes it again, a failed check or a switch that stays open keeps it off
and latches TEST_PULSE; an EDM input that does not read open in time latches EDM. -/
def Obligations.SafeInputsAndOutputs : Prop :=
  ∀ (s : State) (ch : Fin 2) (inp o : Fin 8) (level closed : Bool) (us at_ k : Nat) (on : BitVec 8) (d : Dev) (f : Safety) (x : Badger) (S : SafeSet),
    d = s.blk.dev → f = s.blk.saf → x = f.ch ch → d.alive = true → x.set = some S →
    (us < S.nat 0x20 inp .siFlt 200 → exec (.safeInputChange inp ch level us) s = .next s) ∧
    (S.nat 0x20 inp .siFlt 200 ≤ us → ∃ y, exec (.safeInputChange inp ch level us) s = .next (s.withSaf (f.setCh ch y) d) ∧
      y = { x with level := y.level } ∧ y.level.testBit inp = level ∧ ∀ j, j ≠ inp.val → y.level.testBit j = x.level.testBit j) ∧
    (x.st = .active → x.disc.testBit inp = false → (d.tm at_).cyclesOf (S.nat 0x20 inp .discT 50) ≤ tget 0 x.discRun inp.val →
      BadgerDoes (.discrepancy ch inp at_) s ch (fun y => y.disc.testBit inp = true ∧ y.sw = x.sw ∧ y.si inp = false ∧
        ∀ g, (S.nat 0x20 inp .mask 0).testBit g = true → g < 9 → (y.g g).faults.disc = true ∧ (y.g g).needReset = true)) ∧
    (x.st = .active → x.sw.testBit o = true →
      exec (.testPulseStart ch o) s = .next (s.withSaf (f.setCh ch { x with pulse := x.pulse ||| 2 ^ o.val }) d)) ∧
    (x.st ≠ .active ∨ x.sw.testBit o = false → exec (.testPulseStart ch o) s = .next s) ∧
    (x.pulse.testBit o = false → exec (.testPulseCheck ch o on) s = .next s ∧ exec (.testPulseEnd ch o closed) s = .next s) ∧
    (x.pulse.testBit o = true → f.vsoutLow = false →
      (on.toNat.testBit o = false → (∀ j : Fin 8, j ≠ o → f.a.sw.testBit j = true → f.b.sw.testBit j = true → on.toNat.testBit j = true) →
        exec (.testPulseCheck ch o on) s = .next s) ∧
      (exec (.testPulseEnd ch o true) s = .next (s.withSaf (f.setCh ch { x with pulse := x.pulse - 2 ^ o.val }) d)) ∧
      (on.toNat.testBit o = true → S.nat 0x21 o .outGroup 0xFF = k → k ≤ 8 → d.running = true →
        ∀ c ∈ [Instr.testPulseCheck ch o on, .testPulseEnd ch o false], BadgerDoes c s ch (fun y => y.stuck.testBit o = true ∧
          y.sw.testBit o = false ∧ y.pulse.testBit o = false ∧ (y.g k).faults.tp = true ∧ (y.g k).needReset = true ∧
          (∀ j, j ≠ o.val → y.sw.testBit j = x.sw.testBit j) ∧ ∀ j, j ≠ k → y.g j = x.g j))) ∧
    (x.st = .active → S.nat 0x21 o .outGroup 0xFF = k → k ≤ 8 → S.nat 0x21 o .edmEn 1 = 1 → x.edm.testBit o = false → x.sw.testBit o = false →
      (x.g k).faults.edm = false → tget 0 x.offAt o.val ≠ 0 →
      (tget 0 x.offAt o.val - 1 + S.nat 0x21 o .edmT 20 * 800000 ≤ at_ →
        BadgerDoes (.edmFault ch o at_) s ch (fun y => y = x.setG k { x.g k with faults := { (x.g k).faults with edm := true }, needReset := true })) ∧
      (at_ < tget 0 x.offAt o.val - 1 + S.nat 0x21 o .edmT 20 * 800000 → BadgerDoes (.edmFault ch o at_) s ch (fun y => y = x)))

/-- R312, R315, R317, R320, R338, R339: SS1 completes in STO, when standstill is confirmed or SS1_TMAX elapses; an axis
without a field goes stale; a lowering limit takes effect after SLS_DELAY; a watchdog that runs out expires and needs a reset;
REDUCED with V_RED exceeded demands SS1; STOP is left after SEP_CLEAR cycles, to the zone that the margin gives. Event rows
act where their condition holds (the model's reading, log entry 4). -/
def Obligations.SafetyMonitors : Prop :=
  ∀ (s : State) (ch : Fin 2) (g : Fin 9) (axis : Fin 96) (c : Fin 32) (at_ n due : Nat) (d : Dev) (x : Badger) (S : SafeSet) (y : SGrp),
    d = s.blk.dev → x = s.blk.saf.ch ch → d.alive = true → x.set = some S → x.st = .active → y = x.g g →
    (y.st = .ss1 →
      (y.ss1At + S.nat 0x22 g .ss1Tmax 2000 * 800000 ≤ at_ → BadgerDoes (.ss1Tmax ch g at_) s ch (fun z => z = x.setG g { y with st := .sto })) ∧
      (at_ < y.ss1At + S.nat 0x22 g .ss1Tmax 2000 * 800000 → BadgerDoes (.ss1Tmax ch g at_) s ch (fun z => z = x)) ∧
      (S.nat 0x22 g .stillFrames 2 ≤ y.still → BadgerDoes (.standstillConfirmed ch g) s ch (fun z => z = x.setG g { y with st := .sto })) ∧
      (y.still < S.nat 0x22 g .stillFrames 2 → BadgerDoes (.standstillConfirmed ch g) s ch (fun z => z = x))) ∧
    (y.st ≠ .ss1 → BadgerDoes (.ss1Tmax ch g at_) s ch (fun z => z = x) ∧ BadgerDoes (.standstillConfirmed ch g) s ch (fun z => z = x)) ∧
    (S.nat 0x23 axis .axGroup 0 = g.val → (x.axis axis).stale = false → S.nat 0x22 g .sposMiss 2 ≤ (x.axis axis).miss →
      BadgerDoes (.sposStale ch axis) s ch (fun z => (z.axis axis).stale = true ∧ (z.axis axis).last = none ∧ (z.g g).faults.spos = true ∧
        (z.g g).needReset = true ∧ (z.g g).st = y.st ∧ ∀ k, k ≠ g.val → z.g k = x.g k)) ∧
    (y.slsWait = some (n, due) →
      (due ≤ at_ → BadgerDoes (.slsDelay ch g at_) s ch (fun z => z = x.setG g { y with sls := n, slsWait := none })) ∧
      (at_ < due → BadgerDoes (.slsDelay ch g at_) s ch (fun z => z = x))) ∧
    ((x.cn c).expired = false → (d.tm at_).cyclesOf (S.nat 0x24 c .wdT 20) ≤ (x.cn c).idle →
      BadgerDoes (.connTimeout ch c at_) s ch (fun z => (z.cn c).expired = true ∧ (z.cn c).last = none ∧ z.sw = x.sw ∧
        ∀ k, k < 9 → (z.g k).st = (x.g k).st ∧ ((S.nat 0x24 c .groupMask 0).testBit k = true → (z.g k).needReset = true))) ∧
    ((x.cn c).idle < (d.tm at_).cyclesOf (S.nat 0x24 c .wdT 20) → BadgerDoes (.connTimeout ch c at_) s ch (fun z => z = x)) ∧
    (y.zoneIn = .reduced → S.nat 0x22 g .vRed 250 ≠ 0 → y.redAt + S.nat 0x22 g .redDelay 100 * 800000 ≤ at_ →
      (S.nat 0x22 g .vRed 250 : Rat) < y.vcart → y.own = .none →
      BadgerDoes (.redDelay ch g at_) s ch (fun z => z = x.setG g { y with own := .ss1, ownRow := 7, rows := y.rows ||| 2 ^ 7, needReset := true })) ∧
    (y.zone = .stop → S.nat 0x22 g .sepClear 4 ≤ y.clr →
      BadgerDoes (.sepClear ch g) s ch (fun z => z = x.setG g { y with zone := zoneOf S g y.margin, clr := 0 })) ∧
    (y.zone = .stop → y.clr < S.nat 0x22 g .sepClear 4 → BadgerDoes (.sepClear ch g) s ch (fun z => z = x))

/-- R303, R323 to R325, Tables 13-12 to 13-14: a die out of reset is in INIT with its switches off; the power-on self-test
takes it to WAIT-SET or FAULT; a supply or oscillator fault faults that channel and leaves the other; the set held in flash is
delivered in CONFIG-WAIT and activates a channel whose stored signature matches; the parts of a set are staged in order,
dropped by an abort; a set that cannot be taken is refused with its step, and the active sets stay. Mailbox rows act in the
present frame and event rows where their condition holds (the model's readings, log entries 2 and 4). -/
def Obligations.SafetySets : Prop :=
  ∀ (s : State) (ses : Fin 32) (ch : Fin 2) (osc : Bool) (ofs total sig : Word) (data : List Byte) (d : Dev) (f : Safety) (x : Badger),
    d = s.blk.dev → f = s.blk.saf → x = f.ch ch →
    (d.alive = true →
      (∃ e, exec (.safetyDieResetRelease ch) s = .next (s.withSaf (f.setCh ch { on := true, stored := x.stored }) e) ∧ d.onlyBad e) ∧
      (x.on = true → x.st = .init →
        (∃ e, exec (.badgerSelftestEnd ch true) s = .next (s.withSaf (f.setCh ch { x with st := .waitSet }) e) ∧ d.onlyBad e) ∧
        BadgerDoes (.badgerSelftestEnd ch false) s ch (fun y => y.faulted 6)) ∧
      (x.st ≠ .init ∨ x.on = false → exec (.badgerSelftestEnd ch true) s = .next s) ∧
      (x.st ≠ .fault → BadgerDoes (.badgerFault ch osc) s ch (fun y => y.faulted (if osc then 5 else 4)))) ∧
    (d.has 1 = true → d.f Fld.HOST_STATUS_DEV_STATE = 4 → ∀ t, t = parseSet d.bad.flash → d.bad.flash ≠ [] → rangesDetail (d.tm 0) t = none →
      f.a.st = .waitSet → f.b.st = .waitSet → f.a.stored = some t.sig →
      ∃ (e : Dev) (g : Safety), exec .setDelivered s = .next (s.withSaf g e) ∧ d.onlyBad e ∧ g.a.st = .active ∧ g.a.set = some t ∧ g.a.sw = 0 ∧
        (∀ k : Fin 9, (g.a.g k).st = .sto ∧ (g.a.g k).needReset = true) ∧
        (f.b.stored = some t.sig → g.b.st = .active ∧ g.b.set = some t) ∧ (f.b.stored ≠ some t.sig → g.b = f.b)) ∧
    (d.has 1 = true → d.f Fld.HOST_STATUS_DEV_STATE ≠ 4 ∨ d.bad.flash = [] → exec .setDelivered s = .next s) ∧
    (s.takes 0x0902 → data ≠ [] → data.length ≤ 212 → total.toNat ≤ 65536 →
      (ofs = 0 → d.bad.owner = none ∨ d.bad.owner = some ses.val → data.length ≤ total.toNat →
        ∃ b, b = { d.bad with owner := some ses.val, total := total.toNat, bytes := data } ∧
          exec (.safetyParamPutData ses ofs total data) s = .next (s.withDev (({ d with bad := b } : Dev).settle ses 0x0902 d.now {}))) ∧
      (0 < ofs.toNat → d.bad.owner = some ses.val → ofs.toNat = d.bad.bytes.length → total.toNat = d.bad.total → ofs.toNat + data.length ≤ total.toNat →
        ∃ b, b = { d.bad with bytes := d.bad.bytes ++ data } ∧
          exec (.safetyParamPutData ses ofs total data) s = .next (s.withDev (({ d with bad := b } : Dev).settle ses 0x0902 d.now {}))) ∧
      (∀ n, d.bad.owner = some n → n ≠ ses.val → Refuses (.safetyParamPutData ses ofs total data) s ses 0x0902 0x21 3)) ∧
    (s.takes 0x0902 → d.bad.owner = some ses.val → total.toNat = d.bad.total → ∃ b, b = { d.bad with owner := none, total := 0, bytes := [] } ∧
      exec (.safetyParamPutAbort ses total) s = .next (s.withDev (({ d with bad := b } : Dev).settle ses 0x0902 d.now {}))) ∧
    (s.takes 0x0903 → commitCheck s.blk sig.toNat = none → ∃ e, exec (.safetyParamCommit ses sig) s =
      .next (s.withSaf { f with staged := some (parseSet d.bad.bytes) } e) ∧ e.bad.flash = d.bad.bytes ∧ e.bad.owner = none ∧
      e.ans = (ses.val, { status := 1, effect := d.now }) ∧ (e.ax = d.ax ∧ e.grp = d.grp ∧ e.img = d.img)) ∧
    (s.takes 0x0903 → d.running = true → ∀ r, commitCheck s.blk sig.toNat = some r → r.status ≠ 0 → r.status ≠ 1 → ∃ e, exec (.safetyParamCommit ses sig) s =
      .next (s.withDev e) ∧ e.ans = (ses.val, { status := r.status, detail := r.detail }) ∧ e.bad = d.bad ∧
      e.rec_ = { d.rec_ with now := d.rec_.now ++ [mkRecord d.esc.maj 0x5041 0xFFFF r.step r.info r.chan] }) ∧
    (s.takes 0x0901 → exec (.safetyStatus ses) s = .next (s.withDev (d.settle ses 0x0901 d.now { payload := safetyStatus s.blk.view })) ∧
      (safetyStatus s.blk.view).length = 32)

/-- R301, R318, R319, R342: an outbound connection sends copy A on P3 and copy B on P4 with one SEQ, where both channels compute one
payload, else neither; a safe frame on P3 or P4 enters with its stamp for the Badgers, whatever it holds. -/
def Obligations.SafeMessages : Prop :=
  ∀ (s : State) (c : Fin 32) (p4 : Bool) (at_ : Nat) (l pdu : List Byte) (d : Dev) (f : Safety) (S : SafeSet) (k n : Nat) (pa : List Byte),
    d = s.blk.dev → f = s.blk.saf →
    (d.alive = true → f.a.set = some S → f.b.set = some S → S.outbound c = true → c.val ∈ S.conns → f.a.st = .active → f.b.st = .active →
      (f.a.cn c).txCycle = 0 ∨ (f.a.cn c).txCycle + S.nat 0x24 c .txPer 4 ≤ f.a.cycle → S.nat 0x24 c .kind 0 = 1 →
      k = (f.a.cn c).txSeq → outPayload f f.a c = some pa →
      (outPayload f f.b c = some pa → ∃ (e : Dev) (g : Safety) (A B : List Byte), exec (.safeMessageSend c) s = .next (s.withSaf g e) ∧
        e = { d with out := .safeCopy 3 c B :: .safeCopy 2 c A :: d.out } ∧ A = safeFrameBytes S (safePdu S c k false pa) ∧
        B = safeFrameBytes S (safePdu S c k true pa) ∧ (g.a.cn c).txSeq = (k + 1) % 65536 ∧ (g.a.cn c).txCycle = f.a.cycle ∧
        g.a.sw = f.a.sw ∧ g.a.grp = f.a.grp ∧ (safePdu S c k false pa).length = 12 + pa.length) ∧
      (∀ pb, outPayload f f.b c = some pb → pb ≠ pa → ∃ g, exec (.safeMessageSend c) s = .next (s.withSaf g d) ∧
        (g.a.cn c).txSeq = (k + 1) % 65536)) ∧
    (d.has 8 = true → n = (if p4 then 3 else 2) → d.b (Fld.ETH_CFG_EN n) = true → etherType l = (0x88B5, k) → pdu = l.drop k →
      ((d.ethp n).safe < 64 → ∃ e, exec (.safeFrame p4 at_ l) s = .next (s.withDev e) ∧
        e = { d with net := e.net, rmt := { d.rmt with inputs := e.rmt.inputs } } ∧
        e.net = (d.setEth n { d.ethp n with safe := (d.ethp n).safe + 1 }).net ∧ e.rmt.inputs = d.rmt.inputs ++
          [{ stamp := at_, frame := d.esc.maj, input := .safe n (leAt pdu 0 4) (leAt pdu 4 2) pdu l }]) ∧
      (64 ≤ (d.ethp n).safe → d.running = true → ∃ e, exec (.safeFrame p4 at_ l) s = .next (s.withDev e) ∧ e.rmt = d.rmt ∧
        e.f (Fld.ETH_RX_OVF_SAFE n) = min (2 ^ ((Fld.ETH_RX_OVF_SAFE n).hi - (Fld.ETH_RX_OVF_SAFE n).lo + 1) - 1) (d.f (Fld.ETH_RX_OVF_SAFE n) + 1) ∧
        d.raisedNext e 0x6012 n (n + 1 : Nat) 2 0)) ∧
    (d.has 8 = true → n = (if p4 then 3 else 2) → d.b (Fld.ETH_CFG_EN n) = false → exec (.safeFrame p4 at_ l) s = .next s)

/-! ### Network time, Ethernet ports, the cell link (chapter 15) -/

/-- R348, R351 to R355, R372, Table 15-2: without an image no measurement counts; four measurements that agree step a FREE
clock by their mean; a measurement within JUMP_THR corrects the rate alone, within ±200 ppm, and ends HOLDOVER; one above it
is refused and moves nothing; the 16th refusal in a row, or HOLD_TMO without one, enters HOLDOVER; a permit is given at rest
and ends with a record. Event rows act where their condition holds (the model's reading, log entry 4). -/
def Obligations.NetworkTimeIsDisciplined : Prop :=
  ∀ (s : State) (ses : Fin 32) (p : Fin 2) (ofs : Int) (gm at_ : Nat) (limit : BitVec 64) (d : Dev) (st thr : Nat), d = s.blk.dev →
    st = d.timeState → thr = d.f Fld.TIME_CFG_JUMP_THR →
    (d.has 8 = true → d.img.run = none → exec (.ptpMeasurement p ofs gm at_) s = .next s) ∧
    (d.has 8 = true → d.img.run.isSome = true →
      (∀ x y z, st = 0 → d.net.window = [x, y, z] → agree [ofs, x, y, z] = true →
        ∃ e, exec (.ptpMeasurement p ofs gm at_) s = .next (s.withDev e) ∧ e.timeState = 1 ∧ e.b Fld.TIME_FLAGS_STEP = true ∧
          e.netTime at_ = d.netTime at_ - (((ofs + x + y + z) / 4 : Int) : Rat) / 65536 ∧ e.rate = d.rate ∧ e.net.window = [] ∧
          e.f Fld.TIME_STATE_STEPS = min 65535 (d.f Fld.TIME_STATE_STEPS + 1) ∧ e.net.anchorDue = true) ∧
      (st ≠ 0 → ofs.natAbs ≤ thr * 65536 →
        ∃ e, exec (.ptpMeasurement p ofs gm at_) s = .next (s.withDev e) ∧ e.netTime at_ = d.netTime at_ ∧ e.f Fld.TIME_STATE_REFUSALS = 0 ∧
          -219902325 ≤ e.rate ∧ e.rate ≤ 219902325 ∧ e.timeState = (if st = 3 then 2 else if st = 1 ∧ ofs.natAbs ≤ d.f Fld.TIME_CFG_LOCK_THR * 65536 ∧
            15 ≤ d.net.good then 2 else st) ∧ e.f Fld.TIME_STATE_PARENT = p.val + 1) ∧
      (st = 1 ∨ st = 2 → thr * 65536 < ofs.natAbs → d.b Fld.TIME_STATE_PERMIT = false → d.f Fld.TIME_STATE_REFUSALS ≠ 15 → d.running = true →
        ∃ e, exec (.ptpMeasurement p ofs gm at_) s = .next (s.withDev e) ∧ (∀ t, e.netTime t = d.netTime t) ∧ e.timeState = st ∧
          e.f Fld.TIME_STATE_REFUSALS = min 31 (d.f Fld.TIME_STATE_REFUSALS + 1) ∧ e.b Fld.TIME_FLAGS_JUMP_REFUSED = true ∧
          d.raisedNext e 0x6002 0xFFFF (ofs / 65536) (d.f Fld.TIME_STATE_REFUSALS + 1) (p.val + 1)) ∧
      (st = 1 ∨ st = 2 → thr * 65536 < ofs.natAbs → d.b Fld.TIME_STATE_PERMIT = false → d.f Fld.TIME_STATE_REFUSALS = 15 →
        ∃ e, exec (.ptpMeasurement p ofs gm at_) s = .next (s.withDev e) ∧ e.timeState = 3 ∧ e.b Fld.TIME_FLAGS_HOLDOVER = true ∧
          e.netTime at_ = d.netTime at_)) ∧
    (d.has 8 = true → ∀ t, t = (match d.img.run with | some i => i.holdTmo | none => 1000) →
      (st = 2 → d.net.lastMeas + t * 800000 ≤ at_ → ∃ e, exec (.holdTmo at_) s = .next (s.withDev e) ∧ e.timeState = 3 ∧
        e.b Fld.TIME_FLAGS_HOLDOVER = true ∧ e.netTime at_ = d.netTime at_) ∧
      (st ≠ 2 ∨ at_ < d.net.lastMeas + t * 800000 → exec (.holdTmo at_) s = .next s)) ∧
    (s.takes 0x0702 →
      (permitOk d = false → Refuses (.timePermitStep ses limit) s ses 0x0702 0x21 2) ∧
      (permitOk d = true → exec (.timePermitStep ses limit) s = .next (s.withDev ((permitStep d limit.toNat).settle ses 0x0702 d.now { status := 1 })) ∧
        (permitStep d limit.toNat).b Fld.TIME_STATE_PERMIT = true ∧ (permitStep d limit.toNat).net.permitFrom = d.esc.maj ∧
        (permitStep d limit.toNat).net.limit = limit.toNat)) ∧
    (d.has 8 = true →
      (d.b Fld.TIME_STATE_PERMIT = false → exec .timePermitExpired s = .next s) ∧
      (d.b Fld.TIME_STATE_PERMIT = true → anyGroupIn d [.moving, .homing] = true → exec .timePermitExpired s = .next (s.withDev
        ((d.setB Fld.TIME_STATE_PERMIT false).raise 0x6003 0xFFFF 2 0 0))) ∧
      (∀ i, d.b Fld.TIME_STATE_PERMIT = true → anyGroupIn d [.moving, .homing] = false → d.img.run = some i →
        (d.net.permitFrom + i.permitFrames ≤ d.esc.maj → exec .timePermitExpired s = .next (s.withDev
          ((d.setB Fld.TIME_STATE_PERMIT false).raise 0x6003 0xFFFF 1 0 0))) ∧
        (d.esc.maj < d.net.permitFrom + i.permitFrames → exec .timePermitExpired s = .next s))) ∧
    (s.takes 0x0701 → exec (.timeStatus ses) s = .next (s.withDev (d.settle ses 0x0701 d.now { payload := timeStatus s.blk.view })) ∧
      (timeStatus s.blk.view).length = 36)

/-- R347, R349, R350, R361 to R363: a frame joins the receive ring with its stamp, or is dropped and counted when the ring is full; a frame
at the head of a queue leaves when its gate is open and its launch time has come, waits before, is counted when late or more than 1 s
ahead; the gates follow the list; a read of the stamp queue takes the oldest. -/
def Obligations.EthernetPorts : Prop :=
  ∀ (s : State) (n : Fin 4) (q : Fin 8) (kind : Fin 16) (at_ : Nat) (l : List Byte) (fr : TxFrame) (d : Dev) (p : EthPort), d = s.blk.dev →
    p = d.ethp n → d.has 8 = true →
    (d.img.run = none → exec (.ptpTransmit n kind) s = .next s) ∧
    (∀ i, d.img.run = some i → n.val < 2 → i.ptpPorts.testBit n = true → exec (.ptpTransmit n kind) s = .next (s.withDev
      (d.emit (.ptp n kind (if kind = 0xB then announceTlv d else []))))) ∧
    (d.b (Fld.ETH_CFG_EN n) = false → exec (.ethernetFrameReceive n at_ l) s = .next s ∧ exec (.queueHead n q fr at_) s = .next s) ∧
    (d.b (Fld.ETH_CFG_EN n) = true → (etherType l).1 ≠ 0x88B5 → announceOf d l = none →
      (p.rx.length < 256 → ∃ e, exec (.ethernetFrameReceive n at_ l) s = .next (s.withDev e) ∧ (e.ethp n).rx = p.rx ++
          [(l, d.netTime at_ - (d.f (Fld.ETH_LAT_ING n) : Rat) / 16)] ∧ e.rmt = d.rmt ∧ e.regs = d.regs ∧ ∀ m, m ≠ n.val → e.ethp m = d.ethp m) ∧
      (256 ≤ p.rx.length → ∃ e, exec (.ethernetFrameReceive n at_ l) s = .next (s.withDev e) ∧ e.net = d.net ∧ e.rmt = d.rmt ∧
        e.f (Fld.ETH_RX_OVF_RING n) = min 65535 (d.f (Fld.ETH_RX_OVF_RING n) + 1))) ∧
    (d.b (Fld.ETH_CFG_EN n) = true → (∀ j, tget none p.heads j = none) → gclEntries d n = [] → p.gates.testBit q = true → fr.stampId = none →
      (fr.launch = none → ∃ e, exec (.queueHead n q fr at_) s = .next (s.withDev e) ∧
        e.out = .ethFrame n q fr.bytes (d.netTime at_ + (d.f (Fld.ETH_LAT_EGR n) : Rat) / 16) :: d.out ∧ (∀ j, tget none (e.ethp n).heads j = none) ∧
        e.regs = d.regs) ∧
      (∀ t : Nat, fr.launch = some t → d.netTime at_ < (t : Rat) - 8 → (t : Rat) ≤ d.netTime at_ + 1000000000 →
        ∃ e, exec (.queueHead n q fr at_) s = .next (s.withDev e) ∧ e.out = d.out ∧ tget none (e.ethp n).heads q.val = some fr ∧ e.regs = d.regs) ∧
      (∀ t : Nat, fr.launch = some t → (t : Rat) < d.netTime at_ → d.b (Fld.ETH_Q_LATE_POLICY n q) = false → d.running = true →
        ∃ e, exec (.queueHead n q fr at_) s = .next (s.withDev e) ∧ e.out = d.out ∧ e.net = d.net ∧ e.b (Fld.ETH_Q_LATE n q) = true ∧
          e.f (Fld.ETH_Q_LATE_CNT n q) = min 65535 (d.f (Fld.ETH_Q_LATE_CNT n q) + 1) ∧ d.raisedNext e 0x6011 n (n.val + 1) q 1) ∧
      (∀ t : Nat, fr.launch = some t → (t : Rat) < d.netTime at_ → d.b (Fld.ETH_Q_LATE_POLICY n q) = true →
        ∃ e, exec (.queueHead n q fr at_) s = .next (s.withDev e) ∧ e.b (Fld.ETH_Q_LATE n q) = true ∧ e.out =
          .ethFrame n q fr.bytes (d.netTime at_ + (d.f (Fld.ETH_LAT_EGR n) : Rat) / 16) :: d.out) ∧
      (∀ t : Nat, fr.launch = some t → d.netTime at_ + 1000000000 < (t : Rat) →
        ∃ e, exec (.queueHead n q fr at_) s = .next (s.withDev e) ∧ e.out = d.out ∧ e.net = d.net ∧ e.b (Fld.ETH_Q_FAR n q) = true ∧
          e.b (Fld.ETH_Q_LATE n q) = d.b (Fld.ETH_Q_LATE n q))) ∧
    (∀ t : Nat, tget none p.heads q.val = some fr → (∀ j, j ≠ q.val → tget none p.heads j = none) → gclEntries d n = [] →
      p.gates.testBit q = true → fr.stampId = none → fr.launch = some t →
      ((t : Rat) - 8 ≤ d.netTime at_ → ∃ e, exec (.launchTime n q at_) s = .next (s.withDev e) ∧ tget none (e.ethp n).heads q.val = none ∧
        e.out = .ethFrame n q fr.bytes (d.netTime at_ + (d.f (Fld.ETH_LAT_EGR n) : Rat) / 16) :: d.out) ∧
      (d.netTime at_ < (t : Rat) - 8 → exec (.launchTime n q at_) s = .next s)) ∧
    (∀ ph i w, (∀ j, tget none p.heads j = none) → gclEntries d n ≠ [] → gclPhase d n (d.netTime at_) = some ph →
      gclWalk (d.f (Fld.ETH_GCL_CYCLE_CYCLE n)) (gclEntries d n) 0 0 ph = some (i, w) →
      exec (.gateControlInterval n at_) s = .next (s.withDev (d.setEth n { p with gates := ((gclEntries d n).getD i (255, 0)).1 }))) ∧
    (p.txts = [] → ∃ e, exec (.txtsIdRead n) s = .next (s.withDev e) ∧ e.b (Fld.ETH_TXTS_ID_VALID n) = false ∧ e.net = d.net) ∧
    (∀ x r, p.txts = x :: r → ∃ e, exec (.txtsIdRead n) s = .next (s.withDev e) ∧ e.rd = x.1 % 65536 + 65536 ∧ (e.ethp n).txts = r ∧
      e.b (Fld.ETH_TXTS_ID_VALID n) = true ∧ e.f (Fld.ETH_TXTS_NS_NS n) = nanosOf x.2 ∧ e.f (Fld.ETH_TXTS_SEC_LO_SEC n) = secsOf x.2 % 2 ^ 32 ∧
      e.f (Fld.ETH_TXTS_STAT_COUNT n) = r.length % 32)

/-- R365 to R371, Table 15-4: a frame that fails its CRC is counted and nothing else; a valid one of another device is
forwarded; a member follows a TICK of its master or of a higher EPOCH and ignores another TBASE; a device listens, forms,
joins, loses a member, takes over by its rank, and stops as a whole when isolated; a PEER record is committed by the frame it
was sent in, or is late. Event rows act where their condition holds (the model's reading, log entry 4). -/
def Obligations.CellLinkJoinsDevices : Prop :=
  ∀ (s : State) (p : Fin 2) (k : Fin 8) (at_ : Nat) (l : List Byte) (d : Dev) (st : Nat) (own : Nat), d = s.blk.dev → st = d.clState →
    own = d.cellId → d.has 9 = true →
    (st = 0 → ∀ c ∈ [Instr.cellTick p at_ l, .clStatusFrame p l, .peerFrame p at_ l, .clSafeFrame p at_ l], exec c s = .next s) ∧
    (st ≠ 0 → clValid l = false → ∀ c ∈ [Instr.cellTick p at_ l, .clStatusFrame p l, .peerFrame p at_ l, .clSafeFrame p at_ l],
      exec c s = .next (s.withDev (d.setF Fld.CL_CNT_CRC (min 65535 (d.f Fld.CL_CNT_CRC + 1))))) ∧
    (st ≠ 0 → clValid l = true → clSrc l ≠ own →
      (leAt l 0 1 = 2 → ∃ e, exec (.clStatusFrame p l) s = .next (s.withDev e) ∧ e.out = .clForward (1 - p.val) (clForward l) :: d.out ∧
        (e.member (clSrc l)).got = true ∧ (e.member (clSrc l)).fwd = leAt l 12 1 ∧ (e.member (clSrc l)).eF = leAt l 16 2 ∧
        (e.member (clSrc l)).eV = leAt l 18 2 ∧ e.clState = st ∧ e.cl.anyFrame = true ∧ e.cl.silent = 0) ∧
      (leAt l 0 1 = 1 → 3 ≤ st → st ≤ 4 → clTbase l ≠ d.cl.tbase → ∃ e, exec (.cellTick p at_ l) s = .next (s.withDev e) ∧
        e.out = .clForward (1 - p.val) (clForward l) :: d.out ∧ e.b Fld.CL_FLAGS_SPLIT = true ∧ e.clState = st ∧
        e.f Fld.CL_STATUS_MASTER = d.f Fld.CL_STATUS_MASTER ∧ e.f Fld.CL_STATUS_EPOCH = d.f Fld.CL_STATUS_EPOCH ∧ e.cl.measured = d.cl.measured) ∧
      (leAt l 0 1 = 1 → 3 ≤ st → st ≤ 4 → clTbase l = d.cl.tbase → epochAbove (clEpoch l) (d.f Fld.CL_STATUS_EPOCH) = true →
        clSrc l < 8 → ∃ e, exec (.cellTick p at_ l) s = .next (s.withDev e) ∧ e.clState = 3 ∧ e.f Fld.CL_STATUS_MASTER = clSrc l ∧
          e.f Fld.CL_STATUS_EPOCH = clEpoch l ∧ e.b Fld.CL_FLAGS_HANDOVER = true ∧ e.cl.tickSeen = true ∧ e.cl.missRun = 0) ∧
      (leAt l 0 1 = 1 → st = 3 → clTbase l = d.cl.tbase → clEpoch l = d.f Fld.CL_STATUS_EPOCH → clSrc l = d.f Fld.CL_STATUS_MASTER →
        tickMiss d p at_ ≤ (d.f Fld.CL_CFG_TICK_WIN : Rat) → d.b Fld.CL_STATUS_R_VALID = false → (leAt l 19 1).testBit 0 = false →
        ∃ e, exec (.cellTick p at_ l) s = .next (s.withDev e) ∧ e.clState = 3 ∧ e.cl.tickSeen = true ∧ e.cl.missRun = 0 ∧
          e.f Fld.CL_RING_R = leAt l 16 2 ∧ e.cl.eF = d.cl.eF ∧ e.cl.eV = d.cl.eV ∧
          (p = 1 → e.cl.measured = some ((at_ : Rat) - d.cl.eF))) ∧
      (leAt l 0 1 = 1 → st = 2 → (leAt l 18 1).testBit own = true → ∃ e, exec (.cellTick p at_ l) s = .next (s.withDev e) ∧ e.clState = 3) ∧
      (leAt l 0 1 = 3 → 3 ≤ st → clSrc l < 8 → d.present.testBit (clSrc l) = true → clLate d l = false →
        d.rmt.inputs = [] → ∃ (e : Dev) (x : Stamped), exec (.peerFrame p at_ l) s = .next (s.withDev e) ∧ e.rmt.inputs = [x] ∧
          x.stamp = at_ ∧ x.frame = clSent d l + 1 ∧
          x.input = .peer (clSrc l) (leAt l 14 2) (clSent d l) ((l.take (l.length - 4)).drop 12)) ∧
      (leAt l 0 1 = 3 ∨ leAt l 0 1 = 4 → 3 ≤ st → d.present.testBit (clSrc l) = true → clLate d l = true → d.running = true →
        ∃ e, exec (if leAt l 0 1 = 3 then .peerFrame p at_ l else .clSafeFrame p at_ l) s = .next (s.withDev e) ∧ e.rmt = d.rmt ∧
          e.f Fld.CL_CNT_LATE = min 255 (d.f Fld.CL_CNT_LATE + 1) ∧ e.b Fld.CL_FLAGS_LATE = true ∧
          d.raisedNext e 0x6025 0xFFFF (clSrc l) (leAt l 0 1) (clMinor l % 2 ^ 32 : Nat)) ∧
      (leAt l 0 1 = 4 → 3 ≤ st → d.present.testBit (clSrc l) = false → ∃ e, exec (.clSafeFrame p at_ l) s = .next (s.withDev e) ∧ e.rmt = d.rmt ∧
        e.out = .clForward (1 - p.val) (clForward l) :: d.out)) ∧
    (st = 2 ∨ st = 3 → d.cl.tickSeen = false → d.esc.t0 + d.f Fld.CL_CFG_TICK_WIN ≤ at_ → ∃ e, exec (.tickMissing at_) s = .next (s.withDev e) ∧
      e.cl.missRun = d.cl.missRun + 1 ∧ e.b Fld.CL_FLAGS_TICK_MISS = true ∧ e.f Fld.CL_CNT_TICK_MISS = min 255 (d.f Fld.CL_CNT_TICK_MISS + 1)) ∧
    (d.cl.tickSeen = true → exec (.tickMissing at_) s = .next s) ∧
    (st = 3 → 1 ≤ clRank d → clRank d ≤ d.cl.missRun → d.b Fld.CL_STATUS_ISOLATED = false → ∃ e, exec .masterHandover s = .next (s.withDev e) ∧
      e.clState = 4 ∧ e.f Fld.CL_STATUS_MASTER = own ∧ e.f Fld.CL_STATUS_EPOCH = (d.f Fld.CL_STATUS_EPOCH + 1) % 256 ∧
      e.b Fld.CL_STATUS_R_VALID = false ∧ e.b Fld.CL_FLAGS_HANDOVER = true) ∧
    (d.cl.missRun < clRank d → exec .masterHandover s = .next s) ∧
    (∀ i j, d.img.run = some i → j = ((maskIds (d.f Fld.CL_CFG_MEMBERS)).filter (fun x => decide (x < own))).length →
      (st = 1 → d.cl.fullMask = none → d.cl.since + j * i.formTmo * 800000 + 8 * d.tMajor ≤ at_ → ∃ e, exec (.cellForm at_) s = .next (s.withDev e) ∧
        e.clState = 4 ∧ e.f Fld.CL_STATUS_MASTER = own ∧ e.f Fld.CL_STATUS_EPOCH = 0 ∧ e.present = 2 ^ own ∧
        e.cl.tbase = own * 2 ^ 24 + (d.esc.tbCount + 1) % 2 ^ 24) ∧
      (at_ < d.cl.since + j * i.formTmo * 800000 + 8 * d.tMajor → exec (.cellForm at_) s = .next s)) ∧
    (3 ≤ st → k.val ≠ own → d.present.testBit k = true → 2 ≤ (d.member k).missing → d.running = true → ∃ e, exec (.memberLost k) s = .next (s.withDev e) ∧
      e.present.testBit k = false ∧ (∀ j, j ≠ k.val → e.present.testBit j = d.present.testBit j) ∧ e.b Fld.CL_FLAGS_MEMBER_LOST = true ∧
      d.raisedNext e 0x6021 0xFFFF k e.present 0) ∧
    ((d.member k).missing < 2 → exec (.memberLost k) s = .next s) ∧
    (3 ≤ st → 2 ≤ d.cl.silent → d.b Fld.CL_STATUS_ISOLATED = false → ∃ e, exec .cellIsolated s = .next (s.withDev e) ∧ e.bad.ss1Req = d.bad.ss1Req ||| 0x1FF ∧
      e.b Fld.CL_STATUS_ISOLATED = true) ∧
    (d.cl.silent < 2 → exec .cellIsolated s = .next s) ∧
    (st < 2 → exec .clWindow s = .next s) ∧
    (st = 2 → d.minor = 0 → exec .clWindow s = .next (s.withDev (d.emit (.clFrame (statusFrame d))))) ∧
    (3 ≤ st → d.minor ≠ 0 → d.bad.relay = [] → ∃ e, exec .clWindow s = .next (s.withDev e) ∧ e.cl.peerTx = [] ∧ e.out.length = d.out.length + d.cl.peerTx.length ∧
      ∀ x, d.cl.peerTx = [x] → e.out = .clFrame (peerFrame d 0 x) :: d.out)

/-! ### CAN FD controllers (chapter 16) -/

/-- R378 to R384: the first matching filter element decides a received frame; a full FIFO drops it, a full buffer is overwritten; of the
buffers requested the frame that wins arbitration starts, ties to the lower number; success and a cancel end the request, a lost
arbitration keeps it; INIT cancels what has not started; a buffer in use is not written. -/
def Obligations.CanReceivesAndSends : Prop :=
  ∀ (s : State) (c : Fin 2) (bus : Bus) (at_ : Nat) (fr : CanFrame) (mask v : Word) (buf : Fin 32) (w : Fin 21) (d : Dev) (x : CanCtl),
    d = s.blk.dev → x = d.can c → d.has 8 = true →
    (d.b (CAN_CTRL_INIT_ACK c) = true ∨ d.b (CAN_CTRL_LBK c) = true ∨ d.f (CAN_ERR_STATE c) = 2 ∨ (fr.fdf = true ∧ d.b (CAN_CTRL_FDOE c) = false) →
      exec (.canFrameReceived c at_ fr) s = .next s) ∧
    (d.b (CAN_CTRL_INIT_ACK c) = false → d.b (CAN_CTRL_LBK c) = false → d.f (CAN_ERR_STATE c) ≠ 2 → fr.fdf = false ∨ d.b (CAN_CTRL_FDOE c) = true →
      ∃ e, exec (.canFrameReceived c at_ fr) s = .next (s.withDev e) ∧ d.onlyCan e c ∧ ∀ (el : Nat) (m : CanElem),
        (List.range 128).find? (fun j => filterMatch d c j fr) = some el → m = { frame := fr, filter := el, ofs := (canStamp d at_).2, maj := (canStamp d at_).1 } →
        (d.f (FLT_CFG_ACTION c el) = 1 → x.fifo.length < 64 → (e.can c).fifo = x.fifo ++ [m] ∧ e.f (CAN_RXF_FILL c) = x.fifo.length + 1 ∧
          e.b (CAN_IR_RXF c) = true) ∧
        (d.f (FLT_CFG_ACTION c el) = 1 → 64 ≤ x.fifo.length → (e.can c).fifo = x.fifo ∧ e.b (CAN_FLAGS_RXF_OVR c) = true ∧
          e.f (CAN_CNT_RX_OVF c) = min 65535 (d.f (CAN_CNT_RX_OVF c) + 1)) ∧
        (d.f (FLT_CFG_ACTION c el) = 2 → ∀ k, k = d.f (FLT_CFG_HP c el) → k < 4 → (e.can c).fifo = x.fifo ∧ tget {} (e.can c).hp k = m ∧
          (e.f (CAN_HPSTAT_FULL c)).testBit k = true ∧ (e.f (CAN_IR_HP c)).testBit k = true ∧
          e.b (CAN_FLAGS_HP_OVR c) = (d.b (CAN_FLAGS_HP_OVR c) || (d.f (CAN_HPSTAT_FULL c)).testBit k))) ∧
    (∀ b, canPick d c = some b → b < 32 ∧ (d.f (CAN_TXREQ_REQ c)).testBit b = true ∧ (∀ j, j < 32 → (d.f (CAN_TXREQ_REQ c)).testBit j = true →
        arbKey (txFrame d c b) < arbKey (txFrame d c j) ∨ (arbKey (txFrame d c b) = arbKey (txFrame d c j) ∧ b ≤ j)) ∧
      (d.b (CAN_CTRL_INIT c) = false → d.b (CAN_CTRL_MON c) = false → d.b (CAN_CTRL_LBK c) = false → d.f (CAN_ERR_STATE c) ≠ 2 → x.started = none →
        exec (.canFrameStart c) s = .next (s.withDev ((d.setCan c { x with started := some b }).emit (.canStart c b (sentFrame d c b)))))) ∧
    (d.b (CAN_CTRL_INIT c) = true ∨ x.started.isSome = true ∨ d.f (CAN_TXREQ_REQ c) = 0 → exec (.canFrameStart c) s = .next s) ∧
    (∀ b, x.started = some b → b < 32 → tget none x.after b = none → d.b (CAN_CTRL_INIT c) = false →
      (d.b (CAN_CTRL_LBK c) = false → ∃ e, exec (.canTxSuccess c at_) s = .next (s.withDev e) ∧ d.onlyCan e c ∧ (e.can c).started = none ∧
        (e.f (CAN_TXREQ_REQ c)).testBit b = false ∧ (e.f (CAN_TXDONE_DONE c)).testBit b = true ∧ (e.f (CAN_TXCXL_CXL c)) = d.f (CAN_TXCXL_CXL c) ∧
        (∀ j, j ≠ b → (e.f (CAN_TXREQ_REQ c)).testBit j = (d.f (CAN_TXREQ_REQ c)).testBit j) ∧ e.f (CAN_ERR_ACK_RUN c) = 0 ∧
        e.f (CAN_ERR_TEC c) = d.f (CAN_ERR_TEC c) - 1) ∧
      ((d.f (CAN_TXCAN_CAN c)).testBit b = false → exec (.canArbitrationLost c) s = .next (s.withDev (d.setCan c { x with started := none }))) ∧
      ((d.f (CAN_TXCAN_CAN c)).testBit b = true → ∃ e, exec (.canArbitrationLost c) s = .next (s.withDev e) ∧ (e.can c).started = none ∧
        (e.f (CAN_TXREQ_REQ c)).testBit b = false ∧ (e.f (CAN_TXCXL_CXL c)).testBit b = true)) ∧
    (x.started = none → exec (.canTxSuccess c at_) s = .next s ∧ exec (.canArbitrationLost c) s = .next s) ∧
    (canMay d c bus = false → ∀ i ∈ [Instr.txreqWrite bus c mask, .txcanWrite bus c mask, .canInitWrite bus c, .rxfPop bus c, .hpFullClear bus c mask,
      .txBufferWrite bus c buf w v], exec i s = .next s) ∧
    (canMay d c bus = true →
      exec (.txreqWrite bus c mask) s = .next (s.withDev (d.setF (CAN_TXREQ_REQ c) (d.f (CAN_TXREQ_REQ c) ||| mask.toNat))) ∧
      (∃ e, exec (.txcanWrite bus c mask) s = .next (s.withDev e) ∧ e.can c = x ∧ ∀ b, b < 32 →
        if mask.getLsbD b ∧ (d.f (CAN_TXREQ_REQ c)).testBit b = true then
          (if x.started = some b then (e.f (CAN_TXREQ_REQ c)).testBit b = true ∧ (e.f (CAN_TXCAN_CAN c)).testBit b = true
           else (e.f (CAN_TXREQ_REQ c)).testBit b = false ∧ (e.f (CAN_TXCXL_CXL c)).testBit b = true)
        else (e.f (CAN_TXREQ_REQ c)).testBit b = (d.f (CAN_TXREQ_REQ c)).testBit b) ∧
      (∃ e, exec (.canInitWrite bus c) s = .next (s.withDev e) ∧ e.b (CAN_CTRL_INIT c) = true ∧ e.can c = x ∧
        (x.started = none → e.b (CAN_CTRL_INIT_ACK c) = true) ∧ ∀ b, b < 32 → (e.f (CAN_TXREQ_REQ c)).testBit b =
          ((d.f (CAN_TXREQ_REQ c)).testBit b && decide (x.started = some b))) ∧
      exec (.rxfPop bus c) s = .next (s.withDev ((d.setCan c { x with fifo := x.fifo.drop 1 }).setF (CAN_RXF_FILL c) (x.fifo.length - 1))) ∧
      (∃ e, exec (.hpFullClear bus c mask) s = .next (s.withDev e) ∧ e.can c = x ∧ (∀ k, k < 4 → (e.f (CAN_HPSTAT_FULL c)).testBit k =
        ((d.f (CAN_HPSTAT_FULL c)).testBit k && !mask.getLsbD k)) ∧ d.sameRegsBut e [(CAN_HPSTAT_FULL c).addr]) ∧
      ((d.f (CAN_TXREQ_REQ c)).testBit buf = true → exec (.txBufferWrite bus c buf w v) s = .next (s.withDev (d.setB (CAN_FLAGS_WR_BUSY c) true))) ∧
      ((d.f (CAN_TXREQ_REQ c)).testBit buf = false → ∃ e, exec (.txBufferWrite bus c buf w v) s = .next (s.withDev e) ∧
        (w = 0 → e.reg (CAN_TXE_ID_W c buf).addr = v) ∧ (∀ k, w.val = k + 5 → e.reg (CAN_TXE_DATA_W c buf k).addr = v) ∧
        d.sameRegsBut e [0x801000 + 0x8000 * c.val + 0x80 * buf.val + 4 * w.val]))

/-- R386 to R388, R391 to R393: TEC and REC rise by the rules of ISO 11898-1; a node alone stops at TEC 128; bus-off sets INIT
and ends after its recovery, Felade leaves it after BO_DELAY; a frame is retried, unless the limit of ACK errors cancels it;
`io.write` and `io.read` reach the objects of the image. Mailbox rows act in the present frame and event rows where their
condition holds (the model's readings, log entries 2 and 4). -/
def Obligations.CanErrorsAndObjects : Prop :=
  ∀ (s : State) (ses : Fin 32) (c : Fin 2) (lec : Fin 8) (inData dom heavy : Bool) (obj dlc flags : BitVec 8) (data : List Byte) (d : Dev) (x : CanCtl)
    (tec rec0 st : Nat), d = s.blk.dev → x = d.can c → tec = d.f (CAN_ERR_TEC c) → rec0 = d.f (CAN_ERR_REC c) → st = d.f (CAN_ERR_STATE c) →
    (d.has 8 = true → d.b (CAN_CTRL_INIT_ACK c) = true → exec (.canError c lec inData dom heavy) s = .next s) ∧
    (d.has 8 = true → d.b (CAN_CTRL_INIT_ACK c) = false → d.b (CAN_CTRL_INIT c) = false → d.b (CAN_CTRL_MON c) = false →
      (x.started = none → ∃ e, exec (.canError c lec inData dom heavy) s = .next (s.withDev e) ∧ d.onlyCan e c ∧ e.f (CAN_ERR_TEC c) = tec ∧
        e.f (CAN_ERR_REC c) = min 255 (rec0 + if heavy then 8 else 1) ∧ e.f (CAN_ERR_LEC c) = lec ∧ e.f (CAN_TXREQ_REQ c) = d.f (CAN_TXREQ_REQ c)) ∧
      (∀ b, x.started = some b → b < 32 → tget none x.after b = none → (d.f (CAN_TXCAN_CAN c)).testBit b = false →
        (lec ≠ 3 → lec ≠ 4 → tec < 248 → ∃ e, exec (.canError c lec inData dom heavy) s = .next (s.withDev e) ∧ d.onlyCan e c ∧
          e.f (CAN_ERR_TEC c) = tec + 8 ∧ (e.can c).started = none ∧ e.f (CAN_TXREQ_REQ c) = d.f (CAN_TXREQ_REQ c)) ∧
        (lec ≠ 3 → lec ≠ 4 → 248 ≤ tec → st ≠ 2 → ∃ e, exec (.canError c lec inData dom heavy) s = .next (s.withDev e) ∧ e.f (CAN_ERR_STATE c) = 2 ∧
          e.b (CAN_CTRL_INIT c) = true ∧ e.b (CAN_CTRL_INIT_ACK c) = true ∧ e.b (CAN_FLAGS_BUS_OFF c) = true ∧ e.f (CAN_TXREQ_REQ c) = 0) ∧
        (lec = 3 → st = 1 → dom = false → d.f (CAN_LIMITS_NOACK_CANCEL c) = 0 → ∃ e, exec (.canError c lec inData dom heavy) s = .next (s.withDev e) ∧
          e.f (CAN_ERR_TEC c) = tec ∧ e.f (CAN_ERR_ACK_RUN c) = min 255 (d.f (CAN_ERR_ACK_RUN c) + 1) ∧ e.f (CAN_TXREQ_REQ c) = d.f (CAN_TXREQ_REQ c)) ∧
        (lec = 3 → st = 1 → dom = false → d.f (CAN_LIMITS_NOACK_CANCEL c) ≠ 0 → tget 0 x.ackErr b + 1 = d.f (CAN_LIMITS_NOACK_CANCEL c) →
          ∃ e, exec (.canError c lec inData dom heavy) s = .next (s.withDev e) ∧ e.f (CAN_ERR_TEC c) = tec ∧
            (e.f (CAN_TXREQ_REQ c)).testBit b = false ∧ (e.f (CAN_TXCXL_CXL c)).testBit b = true) ∧
        (lec = 4 → inData = true → tec < 248 → ∃ e, exec (.canError c lec inData dom heavy) s = .next (s.withDev e) ∧ e.f (CAN_ERR_TEC c) = tec + 8 ∧
          e.f (CAN_CNT_COLL c) = min 65535 (d.f (CAN_CNT_COLL c) + 1) ∧ e.b (CAN_FLAGS_COLL c) = (d.b (CAN_FLAGS_COLL c) ||
            decide (tget 0 x.coll b + 1 = d.f (CAN_LIMITS_COLL_LIM c)))))) ∧
    (d.has 8 = true →
      (st = 2 → d.b (CAN_CTRL_INIT c) = false → ∃ e, exec (.busOffRecovery c) s = .next (s.withDev e) ∧ d.onlyCan e c ∧ e.f (CAN_ERR_STATE c) = 0 ∧
        e.f (CAN_ERR_TEC c) = 0 ∧ e.f (CAN_ERR_REC c) = 0 ∧ e.can c = { x with boLeft := none }) ∧
      (st ≠ 2 ∨ d.b (CAN_CTRL_INIT c) = true → exec (.busOffRecovery c) s = .next s) ∧
      (x.boLeft = some 0 → canDelegated d c = false → exec (.boDelay c) s = .next (s.withDev
        (((d.setCan c { x with boLeft := none }).setB (CAN_CTRL_INIT c) false).setB (CAN_CTRL_INIT_ACK c) false))) ∧
      (x.boLeft ≠ some 0 ∨ canDelegated d c = true → exec (.boDelay c) s = .next s)) ∧
    (s.takes 0x0601 → data.length = dlcLen true dlc.toNat → dlc.toNat < 16 → flags.toNat ≤ 1 →
      (canWriteOk d c obj.toNat dlc.toNat = false → Refuses (.ioWriteCan ses c obj dlc flags data) s ses 0x0601 0x22 0) ∧
      (∀ o, canWriteOk d c obj.toNat dlc.toNat = true → txObj d c obj.toNat = some o → ∃ e, exec (.ioWriteCan ses c obj dlc flags data) s = .next (s.withDev e) ∧
        e.ans = (ses.val, { effect := d.now }) ∧ e.regs = d.regs ∧ (e.can c).fifo = x.fifo ∧ tget none (e.can c).objs obj.toNat =
          some { objFrame d c o with dlc := dlc.toNat, data := data.take (dlcLen o.frame.fdf dlc.toNat) } ∧
        (e.can c).sendDue = (if flags.toNat = 1 then x.sendDue ++ [obj.toNat] else x.sendDue))) ∧
    (s.takes 0x0602 → obj.toNat < 64 → canDelegated d c = false → ∃ e, exec (.ioReadCan ses c obj) s = .next (s.withDev e) ∧
      e.ans = (ses.val, { effect := d.now, payload := (canRead s.blk.view c obj.toNat).1 }) ∧ ((canRead s.blk.view c obj.toNat).1).length = 89 ∧
      tget 0 (e.can c).recvCount obj.toNat = 0 ∧ e.regs = d.regs)

/-! ### Field inputs and outputs (chapter 17) -/

/-- R396, R399, R401 to R406: an input appears after its filter; protection switches off an output that is on, and a clear
switches a commanded one on again; commands reach the outputs of a group in use that has not expired, else they are kept; a
feed alternates; a group expires by its watchdog, by EN or by HOLD_WIN to its safe bits, and REARM applies its commands; a
supply fault switches a group off; `io.write` and `io.read`. Mailbox rows act in the present frame and event rows where their
condition holds (the model's readings, log entries 2 and 4). -/
def Obligations.FieldInputsAndOutputs : Prop :=
  ∀ (s : State) (k : Fin 32) (level ot : Bool) (cycles at_ volt : Nat) (bus : Bus) (g : Fin 4) (key : BitVec 8) (v mask states : Word) (sup : Fin 5)
    (ses : Fin 32) (d : Dev), d = s.blk.dev →
    (d.has 0 = true →
      (∃ e, exec (.fieldInputChange k level cycles) s = .next (s.withDev e) ∧ d.onlyField e ∧ e.io = d.io ∧ e.rec_ = d.rec_ ∧
        d.sameRegsBut e [FI_RAW_RAW.addr, FI_STATE_STATE.addr] ∧ ∀ j, j < 32 →
          (e.reg FI_RAW_RAW.addr).getLsbD j = (if j = k.val then level else (d.reg FI_RAW_RAW.addr).getLsbD j) ∧
          (e.reg FI_STATE_STATE.addr).getLsbD j =
            (if j = k.val ∧ d.f (FI_FLT_FLT k) * 80000 ≤ cycles then level else (d.reg FI_STATE_STATE.addr).getLsbD j)) ∧
      (d.field.level.getLsbD k = false → exec (.fieldOutFault k ot) s = .next s) ∧
      (d.field.level.getLsbD k = true → d.running = true → ∃ e, exec (.fieldOutFault k ot) s = .next (s.withDev e) ∧ d.onlyField e ∧
        (∀ j, (e.f FO_FAULT_FAULT).testBit j = (decide (j = k.val) || (d.f FO_FAULT_FAULT).testBit j)) ∧
        (∀ m ∈ setMembers d k, e.field.level.getLsbD m = false) ∧ d.raisedNext e 0x8001 k k (if ot then 2 else 1) 0) ∧
      (∃ e, exec (.foFaultClear mask) s = .next (s.withDev e) ∧ d.onlyField e ∧ ∀ j, j < 32 →
        (e.reg FO_FAULT_FAULT.addr).getLsbD j = ((d.reg FO_FAULT_FAULT.addr).getLsbD j && !mask.getLsbD j) ∧
        (d.foPlain (j / 8) → d.b (FO_GRP_CFG_EN (j / 8)) = true → d.b (FO_GRP_WD_EXPIRED (j / 8)) = false →
          e.field.level.getLsbD j = (d.field.applied.getLsbD j && !(e.reg FO_FAULT_FAULT.addr).getLsbD j))) ∧
      (∃ e, exec (.foCmdWrite bus v) s = .next (s.withDev e) ∧ d.onlyField e ∧ ∀ j, j < 32 →
        (e.reg FO_CMD_CMD.addr).getLsbD j = (if foMay d (j / 8) bus then v.getLsbD j else (d.reg FO_CMD_CMD.addr).getLsbD j) ∧
        (d.foPlain (j / 8) → foMay d (j / 8) bus = true → e.field.level.getLsbD j = (!(d.f FO_FAULT_FAULT).testBit j &&
          if d.b (FO_GRP_CFG_EN (j / 8)) && !d.b (FO_GRP_WD_EXPIRED (j / 8)) then v.getLsbD j
          else (d.f (FO_GRP_CFG_SAFE (j / 8))).testBit (j % 8)))) ∧
      (foMay d g bus = false → ∀ c ∈ [Instr.watchdogFeed bus g key at_, .rearm bus g at_, .foEnClear bus g], exec c s = .next s) ∧
      (foMay d g bus = true → ∀ want, want = (if (d.fog g).next5A then (0x5A : BitVec 8) else 0xA5) →
        (key = 0 → exec (.watchdogFeed bus g key at_) s = .next s) ∧
        (key = want → exec (.watchdogFeed bus g key at_) s = .next (s.withDev (d.setFog g { fedAt := at_, next5A := !(d.fog g).next5A }))) ∧
        (key ≠ 0 → key ≠ want → exec (.watchdogFeed bus g key at_) s = .next (s.withDev (d.setB (FO_GRP_WD_BADKEY g) true)))) ∧
      (d.b (FO_GRP_CFG_EN g) = false → exec (.rearm bus g at_) s = .next s ∧ exec (.foEnClear bus g) s = .next s) ∧
      (foMay d g bus = true → d.b (FO_GRP_CFG_EN g) = true → d.foPlain g →
        (∃ e, exec (.rearm bus g at_) s = .next (s.withDev e) ∧ d.onlyField e ∧ e.b (FO_GRP_WD_EXPIRED g) = false ∧
          e.fog g = { fedAt := at_, next5A := false } ∧ ∀ j, j / 8 = g.val →
            e.field.level.getLsbD j = ((d.reg FO_CMD_CMD.addr).getLsbD j && !(d.f FO_FAULT_FAULT).testBit j)) ∧
        (d.running = true → ∃ e, exec (.foEnClear bus g) s = .next (s.withDev e) ∧ d.onlyField e ∧ e.b (FO_GRP_CFG_EN g) = false ∧
          e.b (FO_GRP_WD_EXPIRED g) = true ∧ d.raisedNext e 0x8000 g g 3 (foCmdBits d g) ∧ ∀ j, j / 8 = g.val →
            e.field.level.getLsbD j = ((d.f (FO_GRP_CFG_SAFE g)).testBit (j % 8) && !(d.f FO_FAULT_FAULT).testBit j))) ∧
      (d.b (FO_GRP_CFG_EN g) = true → d.b (FO_GRP_WD_EXPIRED g) = false → d.foPlain g → d.running = true →
        (d.fog g).fedAt + d.f (FO_GRP_CFG_WD_T g) * 784000 ≤ at_ → ∃ e, exec (.fieldWdExpired g at_) s = .next (s.withDev e) ∧ d.onlyField e ∧
          e.b (FO_GRP_WD_EXPIRED g) = true ∧ d.raisedNext e 0x8000 g g 1 (foCmdBits d g) ∧ ∀ j, j / 8 = g.val →
            e.field.level.getLsbD j = ((d.f (FO_GRP_CFG_SAFE g)).testBit (j % 8) && !(d.f FO_FAULT_FAULT).testBit j)) ∧
      (d.b (FO_GRP_CFG_EN g) = false ∨ d.b (FO_GRP_WD_EXPIRED g) = true ∨ d.b (FO_GRP_WD_HOLD g) = true ∨
        at_ < (d.fog g).fedAt + d.f (FO_GRP_CFG_WD_T g) * 784000 → exec (.fieldWdExpired g at_) s = .next s) ∧
      (d.field.hold = none → exec (.holdWin at_) s = .next s) ∧
      (∀ cause since, d.field.hold = some (cause, since) →
        (at_ < since + d.f FIELD_HOLD_CFG_HOLD_WIN * 784000 → exec (.holdWin at_) s = .next s) ∧
        (since + d.f FIELD_HOLD_CFG_HOLD_WIN * 784000 ≤ at_ → ∃ e, exec (.holdWin at_) s = .next (s.withDev e) ∧ d.onlyField e ∧ e.field.hold = none ∧
          ∀ j, j < 4 → e.b (FO_GRP_WD_HOLD j) = false ∧ (e.b (FO_GRP_WD_EXPIRED j) = (d.b (FO_GRP_WD_EXPIRED j) || d.b (FO_GRP_WD_HOLD j))))) ∧
      (∃ e, exec (.fieldSupply sup volt) s = .next (s.withDev e) ∧ d.onlyField e ∧
        (e.f FIELD_SUPPLY_UV_WARN).testBit sup = (decide (volt < 190) || (decide (volt < 195) && (d.f FIELD_SUPPLY_UV_WARN).testBit sup)) ∧
        (e.f FIELD_SUPPLY_UV_FAULT).testBit sup = (decide (volt < 175) || (decide (volt < 180) && (d.f FIELD_SUPPLY_UV_FAULT).testBit sup)) ∧
        (e.f FIELD_SUPPLY_OV).testBit sup = (decide (320 < volt) || (decide (315 < volt) && (d.f FIELD_SUPPLY_OV).testBit sup)) ∧
        (1 ≤ sup.val → (e.f FIELD_SUPPLY_UV_FAULT).testBit sup = true → ∀ j, j / 8 + 1 = sup.val → e.field.level.getLsbD j = false) ∧
        ((∀ f ∈ [FIELD_SUPPLY_UV_WARN, FIELD_SUPPLY_UV_FAULT, FIELD_SUPPLY_OV], (e.f f).testBit sup = (d.f f).testBit sup) → e.rec_ = d.rec_))) ∧
    (s.takes 0x0601 →
      ((∃ j, j < 32 ∧ mask.getLsbD j = true ∧ (foDelegated d (j / 8) = true ∨ d.b (FO_GRP_CFG_EN (j / 8)) = false)) →
        Refuses (.ioWriteField ses mask states) s ses 0x0601 0x22 0) ∧
      ((∀ j, j < 32 → mask.getLsbD j = true → foDelegated d (j / 8) = false ∧ d.b (FO_GRP_CFG_EN (j / 8)) = true) →
        ((∃ j ∈ fieldReserved d, mask.getLsbD j = true) → Refuses (.ioWriteField ses mask states) s ses 0x0601 0x21 2) ∧
        ((∀ j ∈ fieldReserved d, mask.getLsbD j = false) → ∃ e, exec (.ioWriteField ses mask states) s = .next (s.withDev e) ∧
          e.ans = (ses.val, { effect := d.now }) ∧ ∀ j, j < 32 →
            (e.reg FO_CMD_CMD.addr).getLsbD j = (if mask.getLsbD j then states.getLsbD j else (d.reg FO_CMD_CMD.addr).getLsbD j) ∧
            (e.reg FO_FAULT_FAULT.addr).getLsbD j = ((d.reg FO_FAULT_FAULT.addr).getLsbD j && !(mask.getLsbD j || mask.getLsbD (setLead d j))) ∧
            (mask.getLsbD j = true → d.foPlain (j / 8) → e.b (FO_GRP_WD_EXPIRED (j / 8)) = false ∧ e.field.level.getLsbD j = states.getLsbD j)))) ∧
    (s.takes 0x0602 → exec (.ioReadField ses) s = .next (s.withDev (d.settle ses 0x0602 d.now { payload := fieldRead s.blk.view })) ∧
      (fieldRead s.blk.view).length = 22)

/-! ### Records, dump, fatal handling (chapter 18) -/

/-- R416: `record.read` answers RANGE outside its ranges; else it returns, oldest first, the matching records of the first
4,096 from START (or from the oldest held), at most COUNT, or the newest COUNT of the newest 4,096. R417: `record.commit_read`
returns bytes of the ring from the position asked for or the oldest. Mailbox rows act in the present frame (the model's
reading, log entry 2). -/
def Obligations.RecordsAreRead : Prop :=
  ∀ (s : State) (ses : Fin 32) (ring count : BitVec 8) (start pos : Word) (lo hi len : BitVec 16) (d : Dev) (R : List (Nat × Record)) (oldest : Nat),
    d = s.blk.dev → R = (if ring = 0 then d.rec_.dram else d.rec_.ret) → oldest = d.rec_.idx - R.length →
    (s.takes 0x0801 →
      (1 < ring.toNat ∨ count = 0 ∨ 5 < count.toNat ∨ (hi.toNat < lo.toNat) → Refuses (.recordRead ses ring count start lo hi) s ses 0x0801 0x22 0) ∧
      (ring.toNat ≤ 1 → 1 ≤ count.toNat → count.toNat ≤ 5 → lo.toNat ≤ hi.toNat →
        ∃ (es : List (Nat × Record)) (nx : Nat), exec (.recordRead ses ring count start lo hi) s = .next (s.withDev (d.settle ses 0x0801 d.now
          { payload := le 1 es.length ++ le 1 (decide (start.toNat ≠ 0xFFFFFFFF ∧ start.toNat < oldest)).toNat ++ le 2 0 ++ le 4 nx ++ le 4 0 ++
              le 4 oldest ++ le 4 (d.rec_.idx - 1) ++ le 12 0 ++ es.flatMap (fun e => le 4 e.1 ++ recordBytes e.2) })) ∧
          es.length ≤ count.toNat ∧
          (start.toNat = 0xFFFFFFFF → nx = d.rec_.idx ∧
            es = (((R.take 4096).filter (fun e => codeIn lo.toNat hi.toNat e.2.code)).take count.toNat).reverse) ∧
          (start.toNat ≠ 0xFFFFFFFF → d.rec_.idx ≤ start.toNat → es = [] ∧ nx = start.toNat) ∧
          (start.toNat < d.rec_.idx → start.toNat ≠ 0xFFFFFFFF → ∀ l, l = (R.reverse.dropWhile (fun e => decide (e.1 < max start.toNat oldest))).take 4096 →
            es = (l.filter (fun e => codeIn lo.toNat hi.toNat e.2.code)).take count.toNat ∧
            (∀ x, es.getLast? = some x → es.length = count.toNat → nx = x.1 + 1) ∧
            (∀ x, l.getLast? = some x → es.length < count.toNat → nx = x.1 + 1)))) ∧
    (s.takes 0x0802 →
      (len = 0 ∨ 192 < len.toNat → Refuses (.recordCommitRead ses pos len) s ses 0x0802 0x22 0) ∧
      (1 ≤ len.toNat → len.toNat ≤ 192 → ∃ (got : List Byte) (at_ first : Nat), exec (.recordCommitRead ses pos len) s = .next (s.withDev
          (d.settle ses 0x0802 d.now { payload := le 4 at_ ++ le 4 first ++ le 4 d.rmt.ringPos ++ le 2 got.length ++ le 2 0 ++ got })) ∧
        got.length ≤ len.toNat ∧ first = d.rmt.ringPos - d.rmt.ringBytes.length ∧ at_ = max pos.toNat (first % 2 ^ 32) ∧
        got = (d.rmt.ringBytes.drop (at_ - first % 2 ^ 32)).take len.toNat))

/-- R43, R423 to R427, R441: a fatal cause, a missed deadline of an engine among them, forces the outputs and writes
FATAL_STOP, a second one during handling only ends the dump write; a corrected error counts; the handling ends in SAFE-TALK
with the dump, complete or not, or with the one held before; `dump.read` and `dump.clear`. Mailbox rows act in the present
frame and event rows where their condition holds (the model's readings, log entries 2 and 4). -/
def Obligations.FatalStopsAndDumps : Prop :=
  ∀ (s : State) (ses : Fin 32) (ofs : Word) (len : BitVec 16) (core : Fin 8) (mem addr at_ : Nat) (pass : Bool) (tile : Fin 16)
    (engine : Fin 19) (kind : Fin 4) (d : Dev), d = s.blk.dev →
    (d.has 2 = true → d.running = true → d.rec_.fatal = none → ∃ e, exec (.frameOverrun engine kind at_) s = .next (s.withDev e) ∧
      d.fatalled e 1 engine at_ ∧ e.b ESC_FLAGS_OVERRUN = true ∧ (engine = 16 → e.lynx.next = none)) ∧
    (d.running = false → exec (.frameOverrun engine kind at_) s = .next s) ∧
    (d.has 1 = true → d.rec_.fatal = none →
      (∃ e, exec (.coreWatchdog core at_) s = .next (s.withDev e) ∧ d.fatalled e 4 core at_) ∧
      (∃ e, exec (.eccError mem at_) s = .next (s.withDev e) ∧ d.fatalled e 3 mem at_) ∧
      (∃ e x, exec (.scrub mem addr (some false) pass at_) s = .next (s.withDev e) ∧ x.fatalled e 3 mem at_ ∧
        x = d.setPwr { d.pwr with scrubs := d.pwr.scrubs + pass.toNat }) ∧
      (d.has 2 = true → ∃ e, exec (.lockstepSpotCheck false tile at_) s = .next (s.withDev e) ∧ d.fatalled e 2 tile at_)) ∧
    (d.has 1 = true → d.rec_.fatal.isSome = true →
      exec (.coreWatchdog core at_) s = .next (s.withDev { d with rec_ := { d.rec_ with dumping := false } }) ∧
      exec (.eccError mem at_) s = .next (s.withDev { d with rec_ := { d.rec_ with dumping := false } })) ∧
    (d.has 2 = true → exec (.lockstepSpotCheck true tile at_) s = .next (s.withDev (d.setPwr { d.pwr with spots := d.pwr.spots + 1 }))) ∧
    (d.has 1 = true →
      exec (.scrub mem addr none pass at_) s = .next (s.withDev (d.setPwr { d.pwr with scrubs := d.pwr.scrubs + pass.toNat })) ∧
      (d.running = true → ∃ e, exec (.scrub mem addr (some true) pass at_) s = .next (s.withDev e) ∧ e.pwr = { d.pwr with
          scrubs := d.pwr.scrubs + pass.toNat, corrected := d.pwr.corrected + 1 } ∧ e.regs = d.regs ∧ e.esc = d.esc ∧
        e.rec_ = { d.rec_ with now := d.rec_.now ++ [mkRecord d.esc.maj 0x9012 0xFFFF mem (addr % 2 ^ 32 : Nat) (d.pwr.corrected + 1 : Nat)] })) ∧
    (d.has 0 = true →
      (d.rec_.fatal = none → exec .dumpWriteComplete s = .next s ∧ exec .fatalTimer s = .next s) ∧
      (d.rec_.dumping = false → exec .dumpWriteComplete s = .next s) ∧
      (d.rec_.fatal.isSome = true → d.rec_.dumpHeld = false →
        (d.rec_.dumping = true → ∃ t, exec .dumpWriteComplete s = .next t ∧ s.inSafeTalk t ∧ t.blk.dev.rec_.dumpHeld = true ∧
          t.blk.dev.b REC_STATUS_DUMP_HELD = true ∧ t.blk.dev.f REC_STATUS_DUMP_COMPLETE = 1 ∧
          t.blk.dev.rec_.dump.take 4 = [0x4B, 0x44, 0x4D, 0x50] ∧ leAt t.blk.dev.rec_.dump 6 1 = 1) ∧
        ∃ t, exec .fatalTimer s = .next t ∧ s.inSafeTalk t ∧ t.blk.dev.rec_.dumpHeld = true ∧ leAt t.blk.dev.rec_.dump 6 1 = 0) ∧
      (d.rec_.fatal.isSome = true → d.rec_.dumpHeld = true → ∃ t, exec .fatalTimer s = .next t ∧ s.inSafeTalk t ∧
        t.blk.dev.rec_.dumpHeld = true ∧ t.blk.dev.rec_.dump = d.rec_.dump)) ∧
    (s.takes 0x0B02 →
      (len = 0 ∨ 192 < len.toNat → Refuses (.dumpRead ses ofs len) s ses 0x0B02 0x22 0) ∧
      (1 ≤ len.toNat → len.toNat ≤ 192 → ∃ got total, exec (.dumpRead ses ofs len) s = .next (s.withDev (d.settle ses 0x0B02 d.now
          { payload := le 4 ofs.toNat ++ le 4 total ++ le 2 got.length ++ le 6 0 ++ got })) ∧ got.length ≤ len.toNat ∧
        (d.rec_.dumpHeld = false → total = 0 ∧ got = []) ∧
        (d.rec_.dumpHeld = true → total = leAt d.rec_.dump 8 4 ∧ got = (d.rec_.dump.drop ofs.toNat).take len.toNat))) ∧
    (s.takes 0x0B03 → d.running = true → ∃ e, exec (.dumpClear ses) s = .next (s.withDev e) ∧ e.rec_.dumpHeld = false ∧ e.rec_.dump = [] ∧
      e.b REC_STATUS_DUMP_HELD = false ∧ e.f DUMP_LEN_LEN = 0 ∧ e.ans = (ses.val, { effect := d.now }) ∧
      e.rec_.now = d.rec_.now ++ [mkRecord d.esc.maj 0x0014 0xFFFF ses 0 0] ∧ e.img = d.img ∧ e.ax = d.ax)

/-! ### Power, start-up and self-test (chapter 19) -/

/-- R432 to R435, R431: the core voltage moves in steps of at most 10 mV, a step that times out is followed by one write of
the last confirmed value, a second time-out, a lost POWER_GOOD and 115 °C are causes of FAULT, entered with the SS1 request
for every STO group and left when the causes end; a lost clock acts as Table 19-2 says. Event rows act where their condition
holds (the model's reading, log entry 4). -/
def Obligations.PowerFaultsAndClocks : Prop :=
  ∀ (s : State) (ses : Fin 32) (mv : BitVec 16) (pg : Bool) (sensor at_ v : Nat) (temp : Int) (dom : Fin 16) (d : Dev), d = s.blk.dev →
    (s.takes 0x0A02 →
      (mv.toNat < vcoreMin ∨ 850 < mv.toNat ∨ mv.toNat % 5 ≠ 0 → Refuses (.powerVcore ses mv) s ses 0x0A02 0x22 0) ∧
      (vcoreMin ≤ mv.toNat → mv.toNat ≤ 850 → mv.toNat % 5 = 0 →
        (d.b VCORE_STATUS_BUSY = true → Refuses (.powerVcore ses mv) s ses 0x0A02 0x21 1) ∧
        (d.b VCORE_STATUS_BUSY = false → ∃ e, exec (.powerVcore ses mv) s = .next (s.withDev e) ∧ 
          e.ans = (ses.val, { status := 1, effect := d.now, payload := le 2 (d.f VCORE_STATUS_CONFIRMED) ++ le 2 vcoreMin }) ∧ e.f VCORE_STATUS_CONFIRMED = d.f VCORE_STATUS_CONFIRMED ∧
          (d.f VCORE_STATUS_CONFIRMED ≠ mv.toNat → e.b VCORE_STATUS_BUSY = true ∧ e.f VCORE_STATUS_TARGET = mv.toNat ∧ ∃ n, e.pwr.vstep = some n ∧
            e.out = .pmbus n :: d.out ∧ (d.f VCORE_STATUS_CONFIRMED < mv.toNat → n = min mv.toNat (d.f VCORE_STATUS_CONFIRMED + 10)) ∧
            (mv.toNat < d.f VCORE_STATUS_CONFIRMED → n = max mv.toNat (d.f VCORE_STATUS_CONFIRMED - 10)))))) ∧
    (d.has 0 = true → d.pwr.waiting = none → d.pwr.vstep = none →
      exec (.vcoreStep at_) s = .next s ∧ exec (.vcoreTimeout pg at_) s = .next s) ∧
    (d.has 0 = true → d.pwr.waiting = none → d.pwr.vstep = some v → v < 1024 →
      (d.pwr.rewriting = false → v ≠ d.f VCORE_STATUS_TARGET → ∃ e n, exec (.vcoreStep at_) s = .next (s.withDev e) ∧ e.f VCORE_STATUS_CONFIRMED = v ∧
        e.b VCORE_STATUS_PG = true ∧ e.pwr.vstep = some n ∧ e.out = .pmbus n :: d.out ∧ n ≤ v + 10 ∧ v ≤ n + 10 ∧ e.rec_ = d.rec_ ∧
        d.sameRegsBut e [VCORE_STATUS_CONFIRMED.addr]) ∧
      (d.pwr.rewriting = false → v = d.f VCORE_STATUS_TARGET → d.running = true → ∃ e, exec (.vcoreStep at_) s = .next (s.withDev e) ∧
        e.f VCORE_STATUS_CONFIRMED = v ∧ e.b VCORE_STATUS_BUSY = false ∧ e.f VCORE_STATUS_TARGET = 0 ∧ e.pwr.vstep = none ∧ e.out = d.out ∧
        e.rec_ = { d.rec_ with now := d.rec_.now ++ [mkRecord d.esc.maj 0x9001 0xFFFF v v (d.pwr.vsteps + 1 : Nat)] }) ∧
      (d.pwr.rewriting = false → d.running = true → ∃ e, exec (.vcoreTimeout pg at_) s = .next (s.withDev e) ∧ e.b PWR_FLAGS_VCORE_TIMEOUT = true ∧
        e.pwr.vstep = some (d.f VCORE_STATUS_CONFIRMED) ∧ e.pwr.rewriting = true ∧ e.out = .pmbus (d.f VCORE_STATUS_CONFIRMED) :: d.out ∧
        e.rec_ = { d.rec_ with now := d.rec_.now ++ [mkRecord d.esc.maj 0x9002 0xFFFF (d.f VCORE_STATUS_TARGET) v (if pg then 2 else 1)] } ∧
        e.state = d.state) ∧
      (d.pwr.rewriting = true → ∃ e, exec (.vcoreTimeout pg at_) s = .next (s.withDev e) ∧ e.pwr.byPower = true ∧ e.pwr.vstep = none ∧
        e.b VCORE_STATUS_BUSY = false ∧ (d.state = 5 ∨ d.state = 6 ∨ d.state = 8 → e.state = 7 ∧ e.bad.ss1Req = d.bad.ss1Req ||| 0x1FF))) ∧
    (d.has 0 = true →
      (d.pwr.vstep.isSome = true → exec .powerGoodLost s = .next (s.withDev (d.setB VCORE_STATUS_PG false))) ∧
      (d.pwr.vstep = none → ∃ e, exec .powerGoodLost s = .next (s.withDev e) ∧ e.b PWR_FLAGS_PG_LOST = true ∧ e.b VCORE_STATUS_PG = false ∧
        e.pwr.byPower = true ∧ (d.state = 5 ∨ d.state = 6 ∨ d.state = 8 → e.state = 7 ∧ e.bad.ss1Req = d.bad.ss1Req ||| 0x1FF)) ∧
      (∃ e, exec .powerGoodReturn s = .next (s.withDev e) ∧ e.pwr.byPower = false ∧ e.b VCORE_STATUS_PG = true ∧
        (d.state = 7 → e.state = if byBadger d ∨ d.pwr.byHeat = true then 7 else 5)) ∧
      (1150 ≤ temp → ∃ e, exec (.thermal sensor temp) s = .next (s.withDev e) ∧ e.pwr.byHeat = true ∧ e.b PWR_FLAGS_THERMAL_WARN = true ∧
        e.b PWR_FLAGS_THERMAL_FAULT = true ∧ (d.state = 5 ∨ d.state = 6 ∨ d.state = 8 → e.state = 7 ∧ e.bad.ss1Req = d.bad.ss1Req ||| 0x1FF)) ∧
      (temp < 1150 → (∀ x ∈ d.pwr.temps, x.2 < 1150) → ∃ e, exec (.thermal sensor temp) s = .next (s.withDev e) ∧ e.pwr.byHeat = false ∧
        e.b PWR_FLAGS_THERMAL_WARN = (decide (1050 ≤ temp) || d.b PWR_FLAGS_THERMAL_WARN) ∧
        e.b PWR_FLAGS_THERMAL_FAULT = d.b PWR_FLAGS_THERMAL_FAULT ∧ (d.state = 7 → e.state = if byBadger d ∨ d.pwr.byPower = true then 7 else 5) ∧
        (d.state ≠ 7 → byBadger d = false → d.pwr.byPower = false → e.state = d.state ∧ e.bad = d.bad)) ∧
      (2 ≤ dom.val → dom.val ≤ 5 → d.rec_.fatal = none → ∃ e, exec (.clockLost dom at_) s = .next (s.withDev e) ∧
        (d.setPwr { d.pwr with clocks := d.pwr.clocks ||| 2 ^ dom.val }).fatalled e 6 dom at_) ∧
      (dom = 0 → d.rec_.fatal = none → ∃ e, exec (.clockLost dom at_) s = .next (s.withDev e) ∧ e.rec_.fatal = some (6, 2, at_) ∧
        e.b PWM_FORCE_CLK_LOSS = true ∧ e.rec_.dumping = !d.rec_.dumpHeld) ∧
      (d.running = true →
        (dom = 6 ∨ dom = 7 → ∃ e, exec (.clockLost dom at_) s = .next (s.withDev e) ∧ e.b PWM_FORCE_CLK_LOSS = true ∧ (∀ g, g < 16 → e.b (PWM_GCTL_SAFE g) = true) ∧
          e.rec_ = { d.rec_ with now := d.rec_.now ++ [mkRecord d.esc.maj 0x9005 0xFFFF dom 0 0] } ∧ e.esc = d.esc ∧ e.ax = d.ax) ∧
        (dom = 1 ∨ dom = 8 ∨ dom = 9 → exec (.clockLost dom at_) s = .next (s.withDev
          ((d.setPwr { d.pwr with clocks := d.pwr.clocks ||| 2 ^ dom.val }).raise 0x9005 0xFFFF dom 0 0))) ∧
        (dom = 10 → ∃ e, exec (.clockLost dom at_) s = .next (s.withDev e) ∧ e.timeState = (if d.timeState = 2 then 3 else d.timeState) ∧ e.esc = d.esc ∧ e.ax = d.ax) ∧
        (dom = 11 → ∃ e, exec (.clockLost dom at_) s = .next (s.withDev e) ∧ e.esc = { d.esc with linksCut := true } ∧ e.regs = d.regs) ∧
        (dom = 12 → ∃ e, exec (.clockLost dom at_) s = .next (s.withDev e) ∧ (∀ c, c < 2 → e.b (CAN_CTRL_INIT c) = true) ∧ e.esc = d.esc) ∧
        (dom = 13 → ∃ e, exec (.clockLost dom at_) s = .next (s.withDev e) ∧ e.b OWL_STATUS_TRACE = false ∧ d.sameRegsBut e [OWL_STATUS_TRACE.addr])) ∧
      (∀ ch : Fin 2, dom.val = 14 + ch.val → (s.blk.saf.ch ch).on = true → (s.blk.saf.ch ch).st ≠ .fault → ∃ (e : Dev) (y : Badger),
        exec (.clockLost dom at_) s = .next (s.withSaf (s.blk.saf.setCh ch y) e) ∧ y.faulted 5))

/-- R444 to R449, Table 19-4: `power.state` gates and ungates, enters STANDBY and DEEP from READY only, waits for a
core-voltage change, or restarts Felade with the owned field groups held; a wake leads to CONFIG-WAIT or BOOT; the image held
in DRAM takes effect again; pads are latched and released. Mailbox rows act in the present frame and event rows where their
condition holds (the model's readings, log entries 2 and 4). -/
def Obligations.PowerStatesChange : Prop :=
  ∀ (s : State) (ses : Fin 32) (mask : BitVec 8) (timer : Word) (src : Fin 5) (at_ build : Nat) (slot : Fin 2) (hash : List Byte) (d : Dev),
    d = s.blk.dev →
    (s.takes 0x0A01 →
      (d.state ≠ 5 → Refuses (.powerStateStandby ses timer) s ses 0x0A01 0x21 1 ∧ Refuses (.powerStateDeep ses timer) s ses 0x0A01 0x21 1) ∧
      (d.state = 5 → d.b VCORE_STATUS_BUSY = true → ∃ p, p = ({ target := 2, mask := 0, timer := timer.toNat } : PReq) ∧
        exec (.powerStateStandby ses timer) s = .next (s.withDev ((d.setPwr { d.pwr with waiting := some p }).settle ses 0x0A01 d.now {}))) ∧
      (d.state = 5 → d.b VCORE_STATUS_BUSY = false →
        (∃ t, exec (.powerStateStandby ses timer) s = .next t ∧ s.sleeps t timer.toNat ∧ t.blk.dev.state = 9) ∧
        (∃ t, exec (.powerStateDeep ses timer) s = .next t ∧ s.sleeps t timer.toNat ∧ t.blk.dev.pwr.rail = .deep ∧
          .pin "RAIL_OFF_N" false ∈ t.blk.dev.out)) ∧
      (32 ≤ mask.toNat → Refuses (.powerStateArmsIdle ses mask) s ses 0x0A01 0x22 0) ∧
      (mask.toNat < 32 → ∀ busy : Prop, busy = ((∃ n ∈ d.axisList, (d.axis n).st ≠ .disabled ∧ ∃ c ∈ clustersOf d n, mask.getLsbD c = true) ∨
          (mask.getLsbD 4 = true ∧ ∃ g ∈ d.groupList, g < 8 ∧ (d.group g).st ≠ .disabled)) →
        (d.state ≠ 5 → d.state ≠ 6 → Refuses (.powerStateArmsIdle ses mask) s ses 0x0A01 0x21 1) ∧
        (d.state = 5 ∨ d.state = 6 → busy → Refuses (.powerStateArmsIdle ses mask) s ses 0x0A01 0x21 2) ∧
        (d.state = 5 ∨ d.state = 6 → ¬ busy → d.b VCORE_STATUS_BUSY = false → ∃ e, exec (.powerStateArmsIdle ses mask) s = .next (s.withDev e) ∧
          e.state = 8 ∧ e.pwr.gated = mask.toNat ∧ e.pwr.ungate = none ∧ e.ans = (ses.val, { effect := d.now }) ∧
          ∀ k, k < 5 → mask.getLsbD k = true → (e.f PWR_DOMAINS_ON).testBit (3 + k) = false)) ∧
      (d.b VCORE_STATUS_BUSY = false →
        (d.state = 9 → ∃ e, exec (.powerStateRun ses) s = .next (s.withDev e) ∧ e.state = 4 ∧ (e.f WAKE_SRC_SRC).testBit 4 = true ∧
          e.ans = (ses.val, { status := 1, effect := d.now })) ∧
        (d.state ≠ 9 → d.state = 8 ∨ d.pwr.gated ≠ 0 → exec (.powerStateRun ses) s = .next (s.withDev
          ((d.setPwr { d.pwr with ungate := some d.esc.majAt }).settle ses 0x0A01 d.now { status := 1 }))) ∧
        (d.state ≠ 9 → d.state ≠ 8 → d.pwr.gated = 0 → exec (.powerStateRun ses) s = .next (s.withDev (d.settle ses 0x0A01 d.now {})))) ∧
      (anyGroupIn d [.moving, .homing, .stopping] = true → Refuses (.powerStateRestart ses) s ses 0x0A01 0x21 2) ∧
      (anyGroupIn d [.moving, .homing, .stopping] = false →
        (d.state < 5 ∨ 8 < d.state → Refuses (.powerStateRestart ses) s ses 0x0A01 0x21 1) ∧
        (5 ≤ d.state → d.state ≤ 8 → d.b VCORE_STATUS_BUSY = false → ∃ e, exec (.powerStateRestart ses) s = .next (s.withDev e) ∧
          e.pwr.restart = some d.esc.majAt ∧ e.b PWR_FLAGS_RESTARTING = true ∧ e.ans = (ses.val, { status := 1, effect := d.now }) ∧
          e.esc = d.esc ∧ e.ax = d.ax ∧ e.state = d.state ∧
          ∀ g, g < 4 → e.b (FO_GRP_WD_HOLD g) = (d.b (FO_GRP_WD_HOLD g) || (d.b (FO_GRP_CFG_EN g) && !foDelegated d g))))) ∧
    (d.has 0 = true →
      (d.pwr.ungate = none → exec (.ungate at_) s = .next s) ∧
      (∀ t, d.pwr.ungate = some t →
        (at_ < t + 4000000 → exec (.ungate at_) s = .next s) ∧
        (t + 4000000 ≤ at_ → ∃ e, exec (.ungate at_) s = .next (s.withDev e) ∧ e.pwr = { d.pwr with gated := 0, ungate := none } ∧
          e.state = (if d.state = 8 then (if anyEnabled d then 6 else 5) else d.state) ∧
          ∀ k, k < 5 → d.pwr.gated.testBit k = true → (e.f PWR_DOMAINS_ON).testBit (3 + k) = true)) ∧
      (d.pwr.restart = none → exec (.feladeRestart slot build hash at_) s = .next s) ∧
      (∀ (p : Pwr) (x : Dev), d.pwr.restart.isSome = true → p = { d.pwr with restart := none, slot := slot, build := build, hash := hash, cause := 4 } →
        x = (((d.setPwr p).setB PWR_FLAGS_RESTARTING false).raise 0x0000 0xFFFF 4 d.state d.rec_.idx) →
        (checkImage x d.img.runBytes = none → ∃ e, exec (.feladeRestart slot build hash at_) s = .next (s.withDev e) ∧ e.pwr = x.pwr ∧
          e.b PWR_FLAGS_RESTARTING = false ∧ e.img = d.img ∧ e.esc = d.esc ∧ e.ax = d.ax ∧ e.state = d.state ∧ e.field.hold = none) ∧
        ((checkImage x d.img.runBytes).isSome = true → ∃ t, exec (.feladeRestart slot build hash at_) s = .next t ∧ t.blk.dev.state = 4 ∧
          t.blk.dev.running = false ∧ t.blk.dev.img.run = none ∧ t.blk.tiles = [] ∧ t.blk.saf = s.blk.saf ∧ t.pending = s.pending)) ∧
      (∀ l x, l = d.img.runBytes → x = d.setImg { d.img with run := none } →
        (d.state ≠ 4 ∨ d.running = true ∨ l = [] ∨ imgHash l ≠ d.pwr.imgHash → exec (.standbyResume at_) s = .next s) ∧
        (d.state = 4 → d.running = false → d.esc.starting = false → l ≠ [] → imgHash l = d.pwr.imgHash → checkBack d (loadImage l) = none →
          changeClass x l ≠ 0 → ∃ t, exec (.standbyResume at_) s = .next t ∧ t.blk.dev.img.run = some (loadImage l) ∧ t.blk.dev.img.runBytes = l ∧
            (changeClass x l = 3 → t.blk.dev.state = 5) ∧ t.blk.saf = s.blk.saf ∧ t.pending = s.pending)) ∧
      (∃ e, exec .padHoldLatch s = .next (s.withDev e) ∧ e.b PAD_HOLD_LATCH = true ∧ e.b PAD_HOLD_HELD = true ∧ e.io = d.io ∧ e.rec_ = d.rec_ ∧
        d.sameRegsBut e [PAD_HOLD_LATCH.addr]) ∧
      (∃ e, exec .padHoldRelease s = .next (s.withDev e) ∧ e.b PAD_HOLD_HELD = false ∧ e.esc = d.esc ∧
        (d.f PAD_HOLD_FIELD_HELD = 0 → e.io = d.io) ∧ ∀ g, d.f PAD_HOLD_FIELD_HELD = 2 ^ g → g < 4 →
          (e.f PAD_HOLD_FIELD_HELD = if d.f (FO_GRP_CFG_SAFE g) = d.field.level.toNat / 2 ^ (8 * g) % 256 then 0 else 2 ^ g))) ∧
    (d.pwr.held = true → exec (.wake src) s = .next s) ∧
    ((d.f WAKE_EN_EN).testBit src = false ∨ (src = 2 ∧ d.f WAKE_FI_MASK_MASK = 0) → exec (.wake src) s = .next s) ∧
    (d.pwr.held = false → (d.f WAKE_EN_EN).testBit src = true → (src = 2 → d.f WAKE_FI_MASK_MASK ≠ 0) →
      (d.pwr.rail = .deep → src.val < 3 → ∃ e, exec (.wake src) s = .next (s.withDev e) ∧ s.boots (s.withDev e) 5 ∧
        (e.f WAKE_SRC_SRC).testBit src = true ∧ e.out.head? = some (.pin "RAIL_OFF_N" true)) ∧
      (d.pwr.rail = .deep → 3 ≤ src.val → exec (.wake src) s = .next s) ∧
      (d.pwr.rail ≠ .deep → d.state = 9 → ∃ e, exec (.wake src) s = .next (s.withDev e) ∧ e.state = 4 ∧ (e.f WAKE_SRC_SRC).testBit src = true ∧
        e.img = d.img) ∧
      (d.pwr.rail ≠ .deep → d.state ≠ 9 → exec (.wake src) s = .next s))

/-- R433, R436 to R443, R451, R466, Table 19-4: power-on, RESET_N and brown-out lead to BOOT with their causes; the boot ROM
loads the slot with the higher build number of those it may load, slot 0 where equal, or stays in SAFE-TALK; the power-up
self-test leads to CONFIG-WAIT or SAFE-TALK; `cell.selftest` and its end; `test.result`. Mailbox rows act in the present frame
and event rows where their condition holds (the model's readings, log entries 2 and 4). -/
def Obligations.StartUpAndSelftest : Prop :=
  ∀ (s : State) (ses : Fin 32) (id : Fin 8) (tm fuse : Bool) (a b : Nat × Nat × List Byte) (n : Fin 10) (det at_ : Nat) (d : Dev), d = s.blk.dev →
    (∃ t, exec (.powerOn id tm) s = .next t ∧ s.boots t 1 ∧ t.blk.tiles = [] ∧ t.blk.dev.cellId = id ∧ t.blk.dev.esc.tbCount = 0 ∧
      t.blk.dev.rec_.idx = 1 ∧ t.blk.dev.pwr.testMode = tm ∧ ∃ r, t.blk.dev.rec_.dram = [(0, r)] ∧ r.code = 0 ∧ r.p0 = 1 ∧ r.flags = 18) ∧
    (∃ e, exec (.resetN true id tm) s = .next (s.withDev e) ∧ e.pwr.held = true ∧ e.running = false ∧ e.alive = false) ∧
    (d.pwr.held = false → exec (.resetN false id tm) s = .next s) ∧
    (d.pwr.held = true → ∃ t, exec (.resetN false id tm) s = .next t ∧ s.boots t 2 ∧ t.blk.tiles = [] ∧ t.blk.dev.cellId = id ∧
      t.blk.dev.esc.tbCount = d.esc.tbCount ∧ t.blk.dev.pwr.testMode = tm) ∧
    (d.has 0 = true →
      (∃ t, exec .brownOut s = .next t ∧ s.boots t 1 ∧ t.blk.tiles = [] ∧ t.blk.dev.cellId = d.cellId ∧ t.blk.dev.esc.tbCount = d.esc.tbCount) ∧
      (d.state ≠ 1 → exec (.bootImage (some a) (some b) fuse) s = .next s) ∧
      (d.state = 1 →
        (∀ (x y : Option (Nat × Nat × List Byte)), (∀ z ∈ x.toList ++ y.toList, z.2.1 < d.pwr.minSec) →
          ∃ e, exec (.bootImage x y fuse) s = .next (s.withDev e) ∧ e.state = 3 ∧ e.bad.line = true ∧ e.pwr = d.pwr) ∧
        (d.pwr.minSec ≤ a.2.1 →
          (∃ e, exec (.bootImage (some a) none fuse) s = .next (s.withDev e) ∧ e.state = 2 ∧ e.pwr.slot = 0 ∧ e.pwr.build = a.1 ∧ e.pwr.hash = a.2.2 ∧
            e.pwr.minSec = (if fuse then max a.2.1 d.pwr.minSec else d.pwr.minSec)) ∧
          (∃ e, exec (.bootImage none (some a) fuse) s = .next (s.withDev e) ∧ e.state = 2 ∧ e.pwr.slot = 1 ∧ e.pwr.build = a.1) ∧
          (d.pwr.minSec ≤ b.2.1 → ∃ e, exec (.bootImage (some a) (some b) fuse) s = .next (s.withDev e) ∧ e.state = 2 ∧
            e.pwr.slot = (if b.1 ≤ a.1 then 0 else 1) ∧ e.pwr.build = max a.1 b.1 ∧
            e.f HOST_READY_EST_EST_MS = (if d.f POST_RESULT_LEVEL = 1 then 780 else 240)))) ∧
      (d.state ≠ 2 ∨ d.pwr.selftest.isSome = true → exec (.powerUpSelftestDone none) s = .next s ∧
        exec (.powerUpSelftestDone (some (n.val, det))) s = .next s) ∧
      (d.state = 2 → d.pwr.selftest = none →
        (∃ e, exec (.powerUpSelftestDone none) s = .next (s.withDev e) ∧ e.state = 4 ∧ e.f HOST_READY_EST_EST_MS = 0 ∧ e.out = .msix 32 :: d.out ∧
          d.sameRegsBut e [HOST_STATUS_DEV_STATE.addr, HOST_READY_EST_EST_MS.addr]) ∧
        (∃ e, exec (.powerUpSelftestDone (some (n.val, det))) s = .next (s.withDev e) ∧ e.state = 3 ∧ (e.f POST_RESULT_FAIL).testBit n = true ∧
          e.bad.line = true ∧ e.esc = d.esc))) ∧
    (s.takes 0x0204 →
      exec (.cellSelftestOnline ses) s = .next (s.withDev (d.settle ses 0x0204 d.now { payload := onlineCounters s.blk.view })) ∧
      ((∃ g ∈ d.groupList, (d.group g).st ≠ .disabled) ∨ (∃ m ∈ d.axisList, (d.axis m).live = true) → Refuses (.cellSelftestFull ses) s ses 0x0204 0x21 2) ∧
      ((∀ g ∈ d.groupList, (d.group g).st = .disabled) → (∀ m ∈ d.axisList, (d.axis m).live = false ∧ (d.axis m).outputsOn = false) →
        d.state = 4 ∨ d.state = 5 → ∃ e, exec (.cellSelftestFull ses) s = .next (s.withDev e) ∧ e.state = 2 ∧ e.pwr.selftest = some d.state ∧
          e.pwr.stAt = d.esc.majAt ∧ e.ans = (ses.val, { status := 1, effect := d.now }) ∧ e.running = d.running ∧
          (d.state = 5 → (∀ j, j < 16 → (e.cv j).queue = []) ∧ e.lynx.next = none ∧ ∀ g, g < 4 → d.b (FO_GRP_CFG_EN g) = true →
            foDelegated d g = false → e.b (FO_GRP_WD_HOLD g) = true))) ∧
    (d.has 1 = true →
      (d.pwr.selftest = none → exec (.selftestDone none at_) s = .next s) ∧
      (d.pwr.selftest = some 4 → d.running = false → ∃ e, exec (.selftestDone none at_) s = .next (s.withDev e) ∧ e.state = 4 ∧ e.pwr.selftest = none ∧
        e.pwr.stResult = 0) ∧
      (d.pwr.selftest = some 5 → ∃ t, exec (.selftestDone none at_) s = .next t ∧ t.blk.dev.pwr = { d.pwr with stBack := true } ∧
        t.blk.saf = s.blk.saf ∧ t.pending = s.pending ∧ t.blk.dev.esc = d.esc ∧
        (∀ im, d.img.run = some im → ∀ k, k < 16 → t.blk.tile k = loadTile im k)) ∧
      (d.pwr.selftest.isSome = true → ∃ t, exec (.selftestDone (some (n.val, det)) at_) s = .next t ∧ s.inSafeTalk t ∧
        t.blk.dev.pwr.stResult = 2 ^ n.val ∧ t.blk.dev.pwr.stTest = n ∧ t.blk.dev.pwr.stDetail = det ∧ t.blk.dev.f POST_RESULT_FAIL = 2 ^ n.val)) ∧
    (s.takes 0x0B01 → exec (.testResult ses) s = .next (s.withDev (d.settle ses 0x0B01 d.now { payload := testResult s.blk.view })) ∧
      (testResult s.blk.view).length = 12)

/-! ### Words of the loop tiles, invariants -/

/-- R197, R198, rule 1 of R204: the word of every well-formed tile instruction decodes to it, and every word that decodes is the word of the
well-formed instruction it decodes to, but for S, which some instructions do not use. -/
def Obligations.TileWordsDecode : Prop :=
  (∀ (c : Instr) (w : Word), WellFormed c = true → tileWord c = some w → ∃ n, tileDecode n w = some c) ∧
  (∀ (n : Fin 16) (w : Word) (c : Instr), tileDecode n w = some c → WellFormed c = true ∧
    ∃ v, tileWord c = some v ∧ v ||| 0x02000000#32 = w ||| 0x02000000#32)

/-- R300, R325: a Badger that is not ACTIVE holds all its switches open, whatever command comes. -/
def Obligations.BadgersStayQuiet : Prop :=
  ∀ (s t : State), s.blk.saf.quiet → step s = .next t → t.blk.saf.quiet

/-- What reset leaves (R325, R436, Table 18-3): BOOT, no time base, no image, the Badgers not ACTIVE with their switches open,
every register at its reset value, no command waiting. On an empty queue the block idles (the model's choice, log entry 1).
Reset values the spec does not give are the model's (log entry 5). -/
def Obligations.ResetState : Prop :=
  State.reset.blk.dev.state = 1 ∧ State.reset.blk.dev.running = false ∧ State.reset.blk.dev.img.run = none ∧ State.reset.blk.saf.quiet ∧
  (∀ a, State.reset.blk.dev.reg a = regReset a) ∧ State.reset.pending = [] ∧ (∀ s : State, s.pending = [] → step s = .next s)
end

