-- ==== Sys2Proof/Laws/Tab.lean ====
section
/-!
SUPPORT. Laws of sparse tables: what is read after an update, and that every update keeps the canonical form.
-/
namespace Sys2Proof.Machine

variable {α : Type}

theorem tget_tins_same (d : α) (l : Tab α) (k : Nat) (v : α) : tget d (tins l k v) k = v := by
  induction l with
  | nil => simp [tins, tget]
  | cons e r ih =>
    obtain ⟨k', v'⟩ := e
    simp only [tins]
    split
    · simp [tget]
    · split
      · simp [tget]
      · simp [tget, *]

theorem tget_tins_ne (d : α) (l : Tab α) {k a : Nat} (v : α) (h : a ≠ k) : tget d (tins l k v) a = tget d l a := by
  induction l with
  | nil => simp [tins, tget, Ne.symm h]
  | cons e r ih =>
    obtain ⟨k', v'⟩ := e
    simp only [tins]
    split
    · rename_i hk; subst hk; simp [tget, Ne.symm h]
    · split
      · simp [tget, Ne.symm h]
      · by_cases hx : k' = a <;> simp [tget, hx, ih]

theorem tget_tdel_same (d : α) (l : Tab α) (k : Nat) : tget d (tdel l k) k = d := by
  induction l with
  | nil => simp [tdel, tget]
  | cons e r ih =>
    obtain ⟨k', v'⟩ := e
    unfold tdel at ih ⊢
    by_cases hk : k' = k <;> simp [List.filter, hk, tget, ih]

theorem tget_tdel_ne (d : α) (l : Tab α) {k a : Nat} (h : a ≠ k) : tget d (tdel l k) a = tget d l a := by
  induction l with
  | nil => simp [tdel, tget]
  | cons e r ih =>
    obtain ⟨k', v'⟩ := e
    unfold tdel at ih ⊢
    by_cases hk : k' = k
    · subst hk; simp [List.filter, tget, ih, Ne.symm h]
    · by_cases hx : k' = a
      · subst hx; simp [List.filter, hk, tget]
      · simp [List.filter, hk, tget, hx, ih]

/-- What was written is read. -/
@[simp] theorem tget_tset_same [DecidableEq α] (d : α) (l : Tab α) (k : Nat) (v : α) : tget d (tset d l k v) k = v := by
  unfold tset; split
  · simp [tget_tdel_same, *]
  · exact tget_tins_same d l k v

/-- Every other entry reads as before. -/
theorem tget_tset_ne [DecidableEq α] (d : α) (l : Tab α) {k a : Nat} (v : α) (h : a ≠ k) :
    tget d (tset d l k v) a = tget d l a := by
  unfold tset; split
  · exact tget_tdel_ne d l h
  · exact tget_tins_ne d l v h

/-- One law for both. -/
theorem tget_tset [DecidableEq α] (d : α) (l : Tab α) (k a : Nat) (v : α) :
    tget d (tset d l k v) a = if a = k then v else tget d l a := by
  by_cases h : a = k
  · subst h; simp
  · simp [h, tget_tset_ne]

/-! ### The canonical form -/

theorem risingFrom_mono {lo lo' : Nat} (l : Tab α) (h : lo' ≤ lo) (hl : risingFrom lo l = true) : risingFrom lo' l = true := by
  cases l with
  | nil => rfl
  | cons e r => simp only [risingFrom, Bool.and_eq_true, decide_eq_true_eq] at hl ⊢; exact ⟨by omega, hl.2⟩

theorem risingFrom_filter (p : Nat × α → Bool) {lo : Nat} (l : Tab α) (h : risingFrom lo l = true) :
    risingFrom lo (l.filter p) = true := by
  induction l generalizing lo with
  | nil => rfl
  | cons e r ih =>
    simp only [risingFrom, Bool.and_eq_true, decide_eq_true_eq] at h
    simp only [List.filter]
    split
    · simp only [risingFrom, Bool.and_eq_true, decide_eq_true_eq]; exact ⟨h.1, ih h.2⟩
    · exact risingFrom_mono _ (by omega) (ih h.2)

theorem risingFrom_tins {lo : Nat} (l : Tab α) (k : Nat) (v : α) (hk : lo ≤ k) (h : risingFrom lo l = true) :
    risingFrom lo (tins l k v) = true := by
  induction l generalizing lo with
  | nil => simp [tins, risingFrom, hk]
  | cons e r ih =>
    obtain ⟨k', v'⟩ := e
    simp only [risingFrom, Bool.and_eq_true, decide_eq_true_eq] at h
    simp only [tins]
    split
    · rename_i he; subst he; simpa [risingFrom] using h
    · split
      · rename_i h1 h2; simp [risingFrom, hk, h.2]; omega
      · rename_i h1 h2
        simp only [risingFrom, Bool.and_eq_true, decide_eq_true_eq]
        exact ⟨h.1, ih (by omega) h.2⟩

/-- Every update keeps the canonical form. -/
theorem tset_twf [DecidableEq α] (d : α) (l : Tab α) (k : Nat) (v : α) (h : twf d l = true) : twf d (tset d l k v) = true := by
  simp only [twf, Bool.and_eq_true, List.all_eq_true, decide_eq_true_eq] at h ⊢
  unfold tset; split
  · exact ⟨risingFrom_filter _ l h.1, fun e he => h.2 e (List.mem_filter.mp he).1⟩
  · rename_i hv
    refine ⟨risingFrom_tins l k v (Nat.zero_le _) h.1, ?_⟩
    intro e he
    have : ∀ l : Tab α, ∀ e ∈ tins l k v, e = (k, v) ∨ e ∈ l := by
      intro l
      induction l with
      | nil => intro e he; simp [tins] at he; exact .inl he
      | cons x r ih =>
        intro e he
        simp only [tins] at he
        split at he
        · rcases List.mem_cons.mp he with h | h
          · exact .inl h
          · exact .inr (List.mem_cons_of_mem _ h)
        · split at he
          · rcases List.mem_cons.mp he with h | h
            · exact .inl h
            · exact .inr h
          · rcases List.mem_cons.mp he with h | h
            · exact .inr (h ▸ List.mem_cons_self)
            · exact (ih e h).imp id (List.mem_cons_of_mem _)
    rcases this l e he with h1 | h1
    · subst h1; exact hv
    · exact h.2 e h1

/-- A run of updates at consecutive keys keeps it too. -/
theorem tfill_twf [DecidableEq α] (d : α) (vs : List α) (l : Tab α) (k : Nat) (h : twf d l = true) : twf d (tfill d l k vs) = true := by
  induction vs generalizing l k with
  | nil => exact h
  | cons v r ih => exact ih _ _ (tset_twf d l k v h)

end Sys2Proof.Machine
end

