-- ==== Sys2Proof/Laws/Reg.lean ====
section
/-!
SUPPORT. Laws of the register file: what a register, a field and a bit read after an update by hardware.
-/
namespace Sys2Proof.Machine

theorem rget_tins_same (l : Tab Word) (k : Nat) (v : Word) : rget (tins l k v) k = v := by
  induction l with
  | nil => simp [tins, rget]
  | cons e r ih =>
    obtain ⟨k', v'⟩ := e
    simp only [tins]
    split
    · simp [rget]
    · split
      · simp [rget]
      · simp [rget, *]

theorem rget_tins_ne (l : Tab Word) {k a : Nat} (v : Word) (h : a ≠ k) : rget (tins l k v) a = rget l a := by
  induction l with
  | nil => simp [tins, rget, Ne.symm h]
  | cons e r ih =>
    obtain ⟨k', v'⟩ := e
    simp only [tins]
    split
    · rename_i hk; subst hk; simp [rget, Ne.symm h]
    · split
      · simp [rget, Ne.symm h]
      · by_cases hx : k' = a <;> simp [rget, hx, ih]

theorem rget_tdel_same (l : Tab Word) (k : Nat) : rget (tdel l k) k = regReset k := by
  induction l with
  | nil => simp [tdel, rget]
  | cons e r ih =>
    obtain ⟨k', v'⟩ := e
    unfold tdel at ih ⊢
    by_cases hk : k' = k <;> simp [List.filter, hk, rget, ih]

theorem rget_tdel_ne (l : Tab Word) {k a : Nat} (h : a ≠ k) : rget (tdel l k) a = rget l a := by
  induction l with
  | nil => simp [tdel, rget]
  | cons e r ih =>
    obtain ⟨k', v'⟩ := e
    unfold tdel at ih ⊢
    by_cases hk : k' = k
    · subst hk; simp [List.filter, rget, ih, Ne.symm h]
    · by_cases hx : k' = a
      · subst hx; simp [List.filter, hk, rget]
      · simp [List.filter, hk, rget, hx, ih]

theorem rget_rset (l : Tab Word) (k a : Nat) (v : Word) : rget (rset l k v) a = if a = k then v else rget l a := by
  unfold rset
  by_cases h : a = k
  · subst h; split
    · simp [rget_tdel_same, *]
    · simp [rget_tins_same]
  · split
    · simp [rget_tdel_ne _ h]
    · simp [rget_tins_ne _ v h]

/-- A register reads what was put into it; every other register reads as before. -/
theorem reg_setReg (d : Dev) (k a : Nat) (v : Word) : (d.setReg k v).reg a = if a = k then v else d.reg a := rget_rset d.regs k a v

@[simp] theorem reg_setReg_same (d : Dev) (a : Nat) (v : Word) : (d.setReg a v).reg a = v := by simp [reg_setReg]

theorem reg_setReg_ne (d : Dev) {k a : Nat} (v : Word) (h : a ≠ k) : (d.setReg k v).reg a = d.reg a := by simp [reg_setReg, h]

/-- A field update writes one register. -/
theorem reg_setF_ne (d : Dev) (x : Fld) (v : Nat) {a : Nat} (h : a ≠ x.addr) : (d.setF x v).reg a = d.reg a := reg_setReg_ne d _ h

theorem mask_shift (x : Fld) :
    x.mask = (BitVec.ofNat 32 (2 ^ (x.hi - x.lo + 1) - 1)) <<< x.lo := by
  unfold Fld.mask
  apply BitVec.eq_of_toNat_eq
  simp [Nat.shiftLeft_eq]

/-- Bit `i` of a field's mask. -/
theorem mask_getLsbD (x : Fld) (h : x.lo ≤ x.hi) (hi : x.hi < 32) (i : Nat) :
    x.mask.getLsbD i = (decide (x.lo ≤ i) && decide (i ≤ x.hi)) := by
  rw [mask_shift x]
  simp only [BitVec.getLsbD_shiftLeft, BitVec.getLsbD_ofNat, Nat.testBit_two_pow_sub_one]
  by_cases h1 : i < x.lo
  · simp [h1, Nat.not_le.mpr h1]
  · by_cases h2 : i ≤ x.hi
    · have : i < 32 := by omega
      have h3 : i - x.lo < x.hi - x.lo + 1 := by omega
      have h4 : i - x.lo < 32 := by omega
      simp [h1, h2, this, h3, h4]; omega
    · have h3 : ¬ i - x.lo < x.hi - x.lo + 1 := by omega
      simp [h2, h3]

/-- Bits of a register after a field update. -/
theorem setF_getLsbD (d : Dev) (x : Fld) (v : Nat) (h : x.lo ≤ x.hi) (hi : x.hi < 32) (i : Nat) :
    ((d.setF x v).reg x.addr).getLsbD i =
      if x.lo ≤ i ∧ i ≤ x.hi then v.testBit (i - x.lo) else (d.reg x.addr).getLsbD i := by
  simp only [Dev.setF, reg_setReg_same, BitVec.getLsbD_or, BitVec.getLsbD_and, BitVec.getLsbD_not, mask_getLsbD x h hi]
  by_cases h1 : x.lo ≤ i ∧ i ≤ x.hi
  · have : i < 32 := by omega
    have h2 : (BitVec.ofNat 32 (v * 2 ^ x.lo)).getLsbD i = v.testBit (i - x.lo) := by
      rw [BitVec.getLsbD_ofNat, Nat.mul_comm, Nat.testBit_two_pow_mul]
      simp [this, h1.1]
    simp [h1, h2]
  · have h2 : (decide (x.lo ≤ i) && decide (i ≤ x.hi)) = false := by
      simp only [Bool.and_eq_false_iff, decide_eq_false_iff_not]; omega
    by_cases h3 : i < 32
    · simp [h1, h2, h3]
    · have : (d.reg x.addr).getLsbD i = false := BitVec.getLsbD_of_ge _ _ (by omega)
      simp [h1, h2, this]

/-- A field as the bits of its register. -/
theorem f_testBit (d : Dev) (x : Fld) (i : Nat) :
    (d.f x).testBit i = (decide (i < x.hi - x.lo + 1) && (d.reg x.addr).getLsbD (i + x.lo)) := by
  simp only [Dev.f, Nat.testBit_mod_two_pow, Nat.testBit_div_two_pow, BitVec.getLsbD]

/-- A field reads what was put into it, within its width. -/
theorem f_setF_mod (d : Dev) (x : Fld) (v : Nat) (h : x.lo ≤ x.hi) (hi : x.hi < 32) :
    (d.setF x v).f x = v % 2 ^ (x.hi - x.lo + 1) := by
  apply Nat.eq_of_testBit_eq
  intro i
  rw [f_testBit, setF_getLsbD d x v h hi, Nat.testBit_mod_two_pow]
  by_cases hlt : i < x.hi - x.lo + 1
  · have : x.lo ≤ i + x.lo ∧ i + x.lo ≤ x.hi := by omega
    simp [hlt, this]
  · simp [hlt]

theorem f_setF (d : Dev) (x : Fld) (v : Nat) (h : x.lo ≤ x.hi) (hi : x.hi < 32) (hv : v < 2 ^ (x.hi - x.lo + 1)) :
    (d.setF x v).f x = v := by rw [f_setF_mod d x v h hi, Nat.mod_eq_of_lt hv]

/-- Two fields that share no bit of a register. -/
def Fld.apart (x y : Fld) : Prop := x.addr ≠ y.addr ∨ x.hi < y.lo ∨ y.hi < x.lo

/-- Another field reads as before. -/
theorem f_setF_apart (d : Dev) (x y : Fld) (v : Nat) (hx : x.lo ≤ x.hi) (hx' : x.hi < 32) (hy : y.lo ≤ y.hi) (h : x.apart y) :
    (d.setF x v).f y = d.f y := by
  by_cases ha : y.addr = x.addr
  · apply Nat.eq_of_testBit_eq
    intro i
    rw [f_testBit, f_testBit]
    by_cases hlt : i < y.hi - y.lo + 1
    · have hn : ¬ (x.lo ≤ i + y.lo ∧ i + y.lo ≤ x.hi) := by
        rcases h with h | h | h
        · exact absurd ha.symm h
        · omega
        · omega
      rw [ha, setF_getLsbD d x v hx hx', if_neg hn]
    · simp [hlt]
  · unfold Dev.f; rw [reg_setF_ne d x v ha]

theorem b_setF_apart (d : Dev) (x y : Fld) (v : Nat) (hx : x.lo ≤ x.hi) (hx' : x.hi < 32)
    (h : x.addr ≠ y.addr ∨ x.hi < y.lo ∨ y.lo < x.lo) : (d.setF x v).b y = d.b y := by
  unfold Dev.b
  by_cases ha : y.addr = x.addr
  · rw [ha, setF_getLsbD d x v hx hx', if_neg]
    rcases h with h | h | h
    · exact absurd ha.symm h
    · omega
    · omega
  · rw [reg_setF_ne d x v ha]

/-- A bit reads what was put into it. -/
theorem b_setB (d : Dev) (x : Fld) (v : Bool) (h : x.lo ≤ x.hi) (hi : x.hi < 32) : (d.setB x v).b x = v := by
  unfold Dev.b Dev.setB
  rw [setF_getLsbD d x v.toNat h hi, if_pos ⟨Nat.le_refl _, h⟩]
  cases v <;> simp

/-! ### What other updates leave of the registers -/

@[simp] theorem reg_emit (d : Dev) (o : Out) (a : Nat) : (d.emit o).reg a = d.reg a := rfl
@[simp] theorem reg_setAxis (d : Dev) (n : Nat) (x : Axis) (a : Nat) : (d.setAxis n x).reg a = d.reg a := rfl
@[simp] theorem reg_setGroup (d : Dev) (n : Nat) (x : Group) (a : Nat) : (d.setGroup n x).reg a = d.reg a := rfl
@[simp] theorem reg_setSession (d : Dev) (n : Nat) (x : Ses) (a : Nat) : (d.setSession n x).reg a = d.reg a := rfl
@[simp] theorem reg_setPort (d : Dev) (n : Nat) (x : Port) (a : Nat) : (d.setPort n x).reg a = d.reg a := rfl
@[simp] theorem reg_setModl (d : Dev) (n : Nat) (x : Module) (a : Nat) : (d.setModl n x).reg a = d.reg a := rfl

/-- A record raised in a time base leaves the registers as they are; outside one it moves REC_NEWEST and REC_OLDEST. -/
theorem reg_raise_running (d : Dev) (code source : Nat) (p0 p1 p2 : Int) (a : Nat) (h : d.running = true) :
    (d.raise code source p0 p1 p2).reg a = d.reg a := by simp [Dev.raise, h, Dev.reg]

theorem reg_raiseNext_running (d : Dev) (code source : Nat) (p0 p1 p2 : Int) (a : Nat) (h : d.running = true) :
    (d.raiseNext code source p0 p1 p2).reg a = d.reg a := by simp [Dev.raiseNext, h, Dev.reg]

theorem reg_writeOutside (d : Dev) (r : Record) (a : Nat) (h : a ≠ (Fld.REC_NEWEST_INDEX).addr) (h' : a ≠ (Fld.REC_OLDEST_INDEX).addr) :
    (d.writeOutside r).reg a = d.reg a := by
  unfold Dev.writeOutside Dev.recRegs
  rw [reg_setF_ne _ _ _ h', reg_setF_ne _ _ _ h]
  rfl

theorem reg_raise (d : Dev) (code source : Nat) (p0 p1 p2 : Int) (a : Nat) (h : a ≠ (Fld.REC_NEWEST_INDEX).addr)
    (h' : a ≠ (Fld.REC_OLDEST_INDEX).addr) : (d.raise code source p0 p1 p2).reg a = d.reg a := by
  unfold Dev.raise; split
  · rfl
  · exact reg_writeOutside _ _ _ h h'

theorem reg_raiseNext (d : Dev) (code source : Nat) (p0 p1 p2 : Int) (a : Nat) (h : a ≠ (Fld.REC_NEWEST_INDEX).addr)
    (h' : a ≠ (Fld.REC_OLDEST_INDEX).addr) : (d.raiseNext code source p0 p1 p2).reg a = d.reg a := by
  unfold Dev.raiseNext; split
  · rfl
  · exact reg_writeOutside _ _ _ h h'

end Sys2Proof.Machine
end

