-- ==== Sys2Proof/Laws/State.lean ====
section
/-!
SUPPORT. Laws of the state: for each field of the device, that an update of something else leaves it as it is.
-/
namespace Sys2Proof.Machine

/-! ### setReg -/

@[simp] theorem setReg_out (d : Dev) (a : Nat) (v : Word) : (d.setReg a v).out = d.out := rfl
@[simp] theorem setReg_fresh (d : Dev) (a : Nat) (v : Word) : (d.setReg a v).fresh = d.fresh := rfl
@[simp] theorem setReg_rd (d : Dev) (a : Nat) (v : Word) : (d.setReg a v).rd = d.rd := rfl
@[simp] theorem setReg_ans (d : Dev) (a : Nat) (v : Word) : (d.setReg a v).ans = d.ans := rfl
@[simp] theorem setReg_esc (d : Dev) (a : Nat) (v : Word) : (d.setReg a v).esc = d.esc := rfl
@[simp] theorem setReg_rmt (d : Dev) (a : Nat) (v : Word) : (d.setReg a v).rmt = d.rmt := rfl
@[simp] theorem setReg_ses (d : Dev) (a : Nat) (v : Word) : (d.setReg a v).ses = d.ses := rfl
@[simp] theorem setReg_img (d : Dev) (a : Nat) (v : Word) : (d.setReg a v).img = d.img := rfl
@[simp] theorem setReg_rec (d : Dev) (a : Nat) (v : Word) : (d.setReg a v).rec_ = d.rec_ := rfl
@[simp] theorem setReg_grp (d : Dev) (a : Nat) (v : Word) : (d.setReg a v).grp = d.grp := rfl
@[simp] theorem setReg_conv (d : Dev) (a : Nat) (v : Word) : (d.setReg a v).conv = d.conv := rfl
@[simp] theorem setReg_masters (d : Dev) (a : Nat) (v : Word) : (d.setReg a v).masters = d.masters := rfl
@[simp] theorem setReg_trig (d : Dev) (a : Nat) (v : Word) : (d.setReg a v).trig = d.trig := rfl
@[simp] theorem setReg_lynx (d : Dev) (a : Nat) (v : Word) : (d.setReg a v).lynx = d.lynx := rfl
@[simp] theorem setReg_issue (d : Dev) (a : Nat) (v : Word) : (d.setReg a v).issue = d.issue := rfl
@[simp] theorem setReg_ax (d : Dev) (a : Nat) (v : Word) : (d.setReg a v).ax = d.ax := rfl
@[simp] theorem setReg_dl (d : Dev) (a : Nat) (v : Word) : (d.setReg a v).dl = d.dl := rfl
@[simp] theorem setReg_mods (d : Dev) (a : Nat) (v : Word) : (d.setReg a v).mods = d.mods := rfl
@[simp] theorem setReg_io (d : Dev) (a : Nat) (v : Word) : (d.setReg a v).io = d.io := rfl
@[simp] theorem setReg_bad (d : Dev) (a : Nat) (v : Word) : (d.setReg a v).bad = d.bad := rfl
@[simp] theorem setReg_net (d : Dev) (a : Nat) (v : Word) : (d.setReg a v).net = d.net := rfl
@[simp] theorem setReg_pwr (d : Dev) (a : Nat) (v : Word) : (d.setReg a v).pwr = d.pwr := rfl

/-! ### setF -/

@[simp] theorem setF_out (d : Dev) (x : Fld) (v : Nat) : (d.setF x v).out = d.out := rfl
@[simp] theorem setF_fresh (d : Dev) (x : Fld) (v : Nat) : (d.setF x v).fresh = d.fresh := rfl
@[simp] theorem setF_rd (d : Dev) (x : Fld) (v : Nat) : (d.setF x v).rd = d.rd := rfl
@[simp] theorem setF_ans (d : Dev) (x : Fld) (v : Nat) : (d.setF x v).ans = d.ans := rfl
@[simp] theorem setF_esc (d : Dev) (x : Fld) (v : Nat) : (d.setF x v).esc = d.esc := rfl
@[simp] theorem setF_rmt (d : Dev) (x : Fld) (v : Nat) : (d.setF x v).rmt = d.rmt := rfl
@[simp] theorem setF_ses (d : Dev) (x : Fld) (v : Nat) : (d.setF x v).ses = d.ses := rfl
@[simp] theorem setF_img (d : Dev) (x : Fld) (v : Nat) : (d.setF x v).img = d.img := rfl
@[simp] theorem setF_rec (d : Dev) (x : Fld) (v : Nat) : (d.setF x v).rec_ = d.rec_ := rfl
@[simp] theorem setF_grp (d : Dev) (x : Fld) (v : Nat) : (d.setF x v).grp = d.grp := rfl
@[simp] theorem setF_conv (d : Dev) (x : Fld) (v : Nat) : (d.setF x v).conv = d.conv := rfl
@[simp] theorem setF_masters (d : Dev) (x : Fld) (v : Nat) : (d.setF x v).masters = d.masters := rfl
@[simp] theorem setF_trig (d : Dev) (x : Fld) (v : Nat) : (d.setF x v).trig = d.trig := rfl
@[simp] theorem setF_lynx (d : Dev) (x : Fld) (v : Nat) : (d.setF x v).lynx = d.lynx := rfl
@[simp] theorem setF_issue (d : Dev) (x : Fld) (v : Nat) : (d.setF x v).issue = d.issue := rfl
@[simp] theorem setF_ax (d : Dev) (x : Fld) (v : Nat) : (d.setF x v).ax = d.ax := rfl
@[simp] theorem setF_dl (d : Dev) (x : Fld) (v : Nat) : (d.setF x v).dl = d.dl := rfl
@[simp] theorem setF_mods (d : Dev) (x : Fld) (v : Nat) : (d.setF x v).mods = d.mods := rfl
@[simp] theorem setF_io (d : Dev) (x : Fld) (v : Nat) : (d.setF x v).io = d.io := rfl
@[simp] theorem setF_bad (d : Dev) (x : Fld) (v : Nat) : (d.setF x v).bad = d.bad := rfl
@[simp] theorem setF_net (d : Dev) (x : Fld) (v : Nat) : (d.setF x v).net = d.net := rfl
@[simp] theorem setF_pwr (d : Dev) (x : Fld) (v : Nat) : (d.setF x v).pwr = d.pwr := rfl

/-! ### setB -/

@[simp] theorem setB_out (d : Dev) (x : Fld) (v : Bool) : (d.setB x v).out = d.out := rfl
@[simp] theorem setB_fresh (d : Dev) (x : Fld) (v : Bool) : (d.setB x v).fresh = d.fresh := rfl
@[simp] theorem setB_rd (d : Dev) (x : Fld) (v : Bool) : (d.setB x v).rd = d.rd := rfl
@[simp] theorem setB_ans (d : Dev) (x : Fld) (v : Bool) : (d.setB x v).ans = d.ans := rfl
@[simp] theorem setB_esc (d : Dev) (x : Fld) (v : Bool) : (d.setB x v).esc = d.esc := rfl
@[simp] theorem setB_rmt (d : Dev) (x : Fld) (v : Bool) : (d.setB x v).rmt = d.rmt := rfl
@[simp] theorem setB_ses (d : Dev) (x : Fld) (v : Bool) : (d.setB x v).ses = d.ses := rfl
@[simp] theorem setB_img (d : Dev) (x : Fld) (v : Bool) : (d.setB x v).img = d.img := rfl
@[simp] theorem setB_rec (d : Dev) (x : Fld) (v : Bool) : (d.setB x v).rec_ = d.rec_ := rfl
@[simp] theorem setB_grp (d : Dev) (x : Fld) (v : Bool) : (d.setB x v).grp = d.grp := rfl
@[simp] theorem setB_conv (d : Dev) (x : Fld) (v : Bool) : (d.setB x v).conv = d.conv := rfl
@[simp] theorem setB_masters (d : Dev) (x : Fld) (v : Bool) : (d.setB x v).masters = d.masters := rfl
@[simp] theorem setB_trig (d : Dev) (x : Fld) (v : Bool) : (d.setB x v).trig = d.trig := rfl
@[simp] theorem setB_lynx (d : Dev) (x : Fld) (v : Bool) : (d.setB x v).lynx = d.lynx := rfl
@[simp] theorem setB_issue (d : Dev) (x : Fld) (v : Bool) : (d.setB x v).issue = d.issue := rfl
@[simp] theorem setB_ax (d : Dev) (x : Fld) (v : Bool) : (d.setB x v).ax = d.ax := rfl
@[simp] theorem setB_dl (d : Dev) (x : Fld) (v : Bool) : (d.setB x v).dl = d.dl := rfl
@[simp] theorem setB_mods (d : Dev) (x : Fld) (v : Bool) : (d.setB x v).mods = d.mods := rfl
@[simp] theorem setB_io (d : Dev) (x : Fld) (v : Bool) : (d.setB x v).io = d.io := rfl
@[simp] theorem setB_bad (d : Dev) (x : Fld) (v : Bool) : (d.setB x v).bad = d.bad := rfl
@[simp] theorem setB_net (d : Dev) (x : Fld) (v : Bool) : (d.setB x v).net = d.net := rfl
@[simp] theorem setB_pwr (d : Dev) (x : Fld) (v : Bool) : (d.setB x v).pwr = d.pwr := rfl

/-! ### setS -/

@[simp] theorem setS_out (d : Dev) (x : Fld) (v : Int) : (d.setS x v).out = d.out := rfl
@[simp] theorem setS_fresh (d : Dev) (x : Fld) (v : Int) : (d.setS x v).fresh = d.fresh := rfl
@[simp] theorem setS_rd (d : Dev) (x : Fld) (v : Int) : (d.setS x v).rd = d.rd := rfl
@[simp] theorem setS_ans (d : Dev) (x : Fld) (v : Int) : (d.setS x v).ans = d.ans := rfl
@[simp] theorem setS_esc (d : Dev) (x : Fld) (v : Int) : (d.setS x v).esc = d.esc := rfl
@[simp] theorem setS_rmt (d : Dev) (x : Fld) (v : Int) : (d.setS x v).rmt = d.rmt := rfl
@[simp] theorem setS_ses (d : Dev) (x : Fld) (v : Int) : (d.setS x v).ses = d.ses := rfl
@[simp] theorem setS_img (d : Dev) (x : Fld) (v : Int) : (d.setS x v).img = d.img := rfl
@[simp] theorem setS_rec (d : Dev) (x : Fld) (v : Int) : (d.setS x v).rec_ = d.rec_ := rfl
@[simp] theorem setS_grp (d : Dev) (x : Fld) (v : Int) : (d.setS x v).grp = d.grp := rfl
@[simp] theorem setS_conv (d : Dev) (x : Fld) (v : Int) : (d.setS x v).conv = d.conv := rfl
@[simp] theorem setS_masters (d : Dev) (x : Fld) (v : Int) : (d.setS x v).masters = d.masters := rfl
@[simp] theorem setS_trig (d : Dev) (x : Fld) (v : Int) : (d.setS x v).trig = d.trig := rfl
@[simp] theorem setS_lynx (d : Dev) (x : Fld) (v : Int) : (d.setS x v).lynx = d.lynx := rfl
@[simp] theorem setS_issue (d : Dev) (x : Fld) (v : Int) : (d.setS x v).issue = d.issue := rfl
@[simp] theorem setS_ax (d : Dev) (x : Fld) (v : Int) : (d.setS x v).ax = d.ax := rfl
@[simp] theorem setS_dl (d : Dev) (x : Fld) (v : Int) : (d.setS x v).dl = d.dl := rfl
@[simp] theorem setS_mods (d : Dev) (x : Fld) (v : Int) : (d.setS x v).mods = d.mods := rfl
@[simp] theorem setS_io (d : Dev) (x : Fld) (v : Int) : (d.setS x v).io = d.io := rfl
@[simp] theorem setS_bad (d : Dev) (x : Fld) (v : Int) : (d.setS x v).bad = d.bad := rfl
@[simp] theorem setS_net (d : Dev) (x : Fld) (v : Int) : (d.setS x v).net = d.net := rfl
@[simp] theorem setS_pwr (d : Dev) (x : Fld) (v : Int) : (d.setS x v).pwr = d.pwr := rfl

/-! ### count -/

@[simp] theorem count_out (d : Dev) (x : Fld) (n : Nat) : (d.count x n).out = d.out := rfl
@[simp] theorem count_fresh (d : Dev) (x : Fld) (n : Nat) : (d.count x n).fresh = d.fresh := rfl
@[simp] theorem count_rd (d : Dev) (x : Fld) (n : Nat) : (d.count x n).rd = d.rd := rfl
@[simp] theorem count_ans (d : Dev) (x : Fld) (n : Nat) : (d.count x n).ans = d.ans := rfl
@[simp] theorem count_esc (d : Dev) (x : Fld) (n : Nat) : (d.count x n).esc = d.esc := rfl
@[simp] theorem count_rmt (d : Dev) (x : Fld) (n : Nat) : (d.count x n).rmt = d.rmt := rfl
@[simp] theorem count_ses (d : Dev) (x : Fld) (n : Nat) : (d.count x n).ses = d.ses := rfl
@[simp] theorem count_img (d : Dev) (x : Fld) (n : Nat) : (d.count x n).img = d.img := rfl
@[simp] theorem count_rec (d : Dev) (x : Fld) (n : Nat) : (d.count x n).rec_ = d.rec_ := rfl
@[simp] theorem count_grp (d : Dev) (x : Fld) (n : Nat) : (d.count x n).grp = d.grp := rfl
@[simp] theorem count_conv (d : Dev) (x : Fld) (n : Nat) : (d.count x n).conv = d.conv := rfl
@[simp] theorem count_masters (d : Dev) (x : Fld) (n : Nat) : (d.count x n).masters = d.masters := rfl
@[simp] theorem count_trig (d : Dev) (x : Fld) (n : Nat) : (d.count x n).trig = d.trig := rfl
@[simp] theorem count_lynx (d : Dev) (x : Fld) (n : Nat) : (d.count x n).lynx = d.lynx := rfl
@[simp] theorem count_issue (d : Dev) (x : Fld) (n : Nat) : (d.count x n).issue = d.issue := rfl
@[simp] theorem count_ax (d : Dev) (x : Fld) (n : Nat) : (d.count x n).ax = d.ax := rfl
@[simp] theorem count_dl (d : Dev) (x : Fld) (n : Nat) : (d.count x n).dl = d.dl := rfl
@[simp] theorem count_mods (d : Dev) (x : Fld) (n : Nat) : (d.count x n).mods = d.mods := rfl
@[simp] theorem count_io (d : Dev) (x : Fld) (n : Nat) : (d.count x n).io = d.io := rfl
@[simp] theorem count_bad (d : Dev) (x : Fld) (n : Nat) : (d.count x n).bad = d.bad := rfl
@[simp] theorem count_net (d : Dev) (x : Fld) (n : Nat) : (d.count x n).net = d.net := rfl
@[simp] theorem count_pwr (d : Dev) (x : Fld) (n : Nat) : (d.count x n).pwr = d.pwr := rfl

/-! ### peak -/

@[simp] theorem peak_out (d : Dev) (x : Fld) (v : Nat) : (d.peak x v).out = d.out := rfl
@[simp] theorem peak_fresh (d : Dev) (x : Fld) (v : Nat) : (d.peak x v).fresh = d.fresh := rfl
@[simp] theorem peak_rd (d : Dev) (x : Fld) (v : Nat) : (d.peak x v).rd = d.rd := rfl
@[simp] theorem peak_ans (d : Dev) (x : Fld) (v : Nat) : (d.peak x v).ans = d.ans := rfl
@[simp] theorem peak_esc (d : Dev) (x : Fld) (v : Nat) : (d.peak x v).esc = d.esc := rfl
@[simp] theorem peak_rmt (d : Dev) (x : Fld) (v : Nat) : (d.peak x v).rmt = d.rmt := rfl
@[simp] theorem peak_ses (d : Dev) (x : Fld) (v : Nat) : (d.peak x v).ses = d.ses := rfl
@[simp] theorem peak_img (d : Dev) (x : Fld) (v : Nat) : (d.peak x v).img = d.img := rfl
@[simp] theorem peak_rec (d : Dev) (x : Fld) (v : Nat) : (d.peak x v).rec_ = d.rec_ := rfl
@[simp] theorem peak_grp (d : Dev) (x : Fld) (v : Nat) : (d.peak x v).grp = d.grp := rfl
@[simp] theorem peak_conv (d : Dev) (x : Fld) (v : Nat) : (d.peak x v).conv = d.conv := rfl
@[simp] theorem peak_masters (d : Dev) (x : Fld) (v : Nat) : (d.peak x v).masters = d.masters := rfl
@[simp] theorem peak_trig (d : Dev) (x : Fld) (v : Nat) : (d.peak x v).trig = d.trig := rfl
@[simp] theorem peak_lynx (d : Dev) (x : Fld) (v : Nat) : (d.peak x v).lynx = d.lynx := rfl
@[simp] theorem peak_issue (d : Dev) (x : Fld) (v : Nat) : (d.peak x v).issue = d.issue := rfl
@[simp] theorem peak_ax (d : Dev) (x : Fld) (v : Nat) : (d.peak x v).ax = d.ax := rfl
@[simp] theorem peak_dl (d : Dev) (x : Fld) (v : Nat) : (d.peak x v).dl = d.dl := rfl
@[simp] theorem peak_mods (d : Dev) (x : Fld) (v : Nat) : (d.peak x v).mods = d.mods := rfl
@[simp] theorem peak_io (d : Dev) (x : Fld) (v : Nat) : (d.peak x v).io = d.io := rfl
@[simp] theorem peak_bad (d : Dev) (x : Fld) (v : Nat) : (d.peak x v).bad = d.bad := rfl
@[simp] theorem peak_net (d : Dev) (x : Fld) (v : Nat) : (d.peak x v).net = d.net := rfl
@[simp] theorem peak_pwr (d : Dev) (x : Fld) (v : Nat) : (d.peak x v).pwr = d.pwr := rfl

/-! ### emit -/

@[simp] theorem emit_regs (d : Dev) (o : Out) : (d.emit o).regs = d.regs := rfl
@[simp] theorem emit_fresh (d : Dev) (o : Out) : (d.emit o).fresh = d.fresh := rfl
@[simp] theorem emit_rd (d : Dev) (o : Out) : (d.emit o).rd = d.rd := rfl
@[simp] theorem emit_ans (d : Dev) (o : Out) : (d.emit o).ans = d.ans := rfl
@[simp] theorem emit_esc (d : Dev) (o : Out) : (d.emit o).esc = d.esc := rfl
@[simp] theorem emit_rmt (d : Dev) (o : Out) : (d.emit o).rmt = d.rmt := rfl
@[simp] theorem emit_ses (d : Dev) (o : Out) : (d.emit o).ses = d.ses := rfl
@[simp] theorem emit_img (d : Dev) (o : Out) : (d.emit o).img = d.img := rfl
@[simp] theorem emit_rec (d : Dev) (o : Out) : (d.emit o).rec_ = d.rec_ := rfl
@[simp] theorem emit_grp (d : Dev) (o : Out) : (d.emit o).grp = d.grp := rfl
@[simp] theorem emit_conv (d : Dev) (o : Out) : (d.emit o).conv = d.conv := rfl
@[simp] theorem emit_masters (d : Dev) (o : Out) : (d.emit o).masters = d.masters := rfl
@[simp] theorem emit_trig (d : Dev) (o : Out) : (d.emit o).trig = d.trig := rfl
@[simp] theorem emit_lynx (d : Dev) (o : Out) : (d.emit o).lynx = d.lynx := rfl
@[simp] theorem emit_issue (d : Dev) (o : Out) : (d.emit o).issue = d.issue := rfl
@[simp] theorem emit_ax (d : Dev) (o : Out) : (d.emit o).ax = d.ax := rfl
@[simp] theorem emit_dl (d : Dev) (o : Out) : (d.emit o).dl = d.dl := rfl
@[simp] theorem emit_mods (d : Dev) (o : Out) : (d.emit o).mods = d.mods := rfl
@[simp] theorem emit_io (d : Dev) (o : Out) : (d.emit o).io = d.io := rfl
@[simp] theorem emit_bad (d : Dev) (o : Out) : (d.emit o).bad = d.bad := rfl
@[simp] theorem emit_net (d : Dev) (o : Out) : (d.emit o).net = d.net := rfl
@[simp] theorem emit_pwr (d : Dev) (o : Out) : (d.emit o).pwr = d.pwr := rfl

/-! ### recRegs -/

@[simp] theorem recRegs_out (d : Dev) : (d.recRegs).out = d.out := rfl
@[simp] theorem recRegs_fresh (d : Dev) : (d.recRegs).fresh = d.fresh := rfl
@[simp] theorem recRegs_rd (d : Dev) : (d.recRegs).rd = d.rd := rfl
@[simp] theorem recRegs_ans (d : Dev) : (d.recRegs).ans = d.ans := rfl
@[simp] theorem recRegs_esc (d : Dev) : (d.recRegs).esc = d.esc := rfl
@[simp] theorem recRegs_rmt (d : Dev) : (d.recRegs).rmt = d.rmt := rfl
@[simp] theorem recRegs_ses (d : Dev) : (d.recRegs).ses = d.ses := rfl
@[simp] theorem recRegs_img (d : Dev) : (d.recRegs).img = d.img := rfl
@[simp] theorem recRegs_rec (d : Dev) : (d.recRegs).rec_ = d.rec_ := rfl
@[simp] theorem recRegs_grp (d : Dev) : (d.recRegs).grp = d.grp := rfl
@[simp] theorem recRegs_conv (d : Dev) : (d.recRegs).conv = d.conv := rfl
@[simp] theorem recRegs_masters (d : Dev) : (d.recRegs).masters = d.masters := rfl
@[simp] theorem recRegs_trig (d : Dev) : (d.recRegs).trig = d.trig := rfl
@[simp] theorem recRegs_lynx (d : Dev) : (d.recRegs).lynx = d.lynx := rfl
@[simp] theorem recRegs_issue (d : Dev) : (d.recRegs).issue = d.issue := rfl
@[simp] theorem recRegs_ax (d : Dev) : (d.recRegs).ax = d.ax := rfl
@[simp] theorem recRegs_dl (d : Dev) : (d.recRegs).dl = d.dl := rfl
@[simp] theorem recRegs_mods (d : Dev) : (d.recRegs).mods = d.mods := rfl
@[simp] theorem recRegs_io (d : Dev) : (d.recRegs).io = d.io := rfl
@[simp] theorem recRegs_bad (d : Dev) : (d.recRegs).bad = d.bad := rfl
@[simp] theorem recRegs_net (d : Dev) : (d.recRegs).net = d.net := rfl
@[simp] theorem recRegs_pwr (d : Dev) : (d.recRegs).pwr = d.pwr := rfl

/-! ### writeOutside -/

@[simp] theorem writeOutside_out (d : Dev) (r : Record) : (d.writeOutside r).out = d.out := rfl
@[simp] theorem writeOutside_fresh (d : Dev) (r : Record) : (d.writeOutside r).fresh = d.fresh := rfl
@[simp] theorem writeOutside_rd (d : Dev) (r : Record) : (d.writeOutside r).rd = d.rd := rfl
@[simp] theorem writeOutside_ans (d : Dev) (r : Record) : (d.writeOutside r).ans = d.ans := rfl
@[simp] theorem writeOutside_esc (d : Dev) (r : Record) : (d.writeOutside r).esc = d.esc := rfl
@[simp] theorem writeOutside_rmt (d : Dev) (r : Record) : (d.writeOutside r).rmt = d.rmt := rfl
@[simp] theorem writeOutside_ses (d : Dev) (r : Record) : (d.writeOutside r).ses = d.ses := rfl
@[simp] theorem writeOutside_img (d : Dev) (r : Record) : (d.writeOutside r).img = d.img := rfl
@[simp] theorem writeOutside_grp (d : Dev) (r : Record) : (d.writeOutside r).grp = d.grp := rfl
@[simp] theorem writeOutside_conv (d : Dev) (r : Record) : (d.writeOutside r).conv = d.conv := rfl
@[simp] theorem writeOutside_masters (d : Dev) (r : Record) : (d.writeOutside r).masters = d.masters := rfl
@[simp] theorem writeOutside_trig (d : Dev) (r : Record) : (d.writeOutside r).trig = d.trig := rfl
@[simp] theorem writeOutside_lynx (d : Dev) (r : Record) : (d.writeOutside r).lynx = d.lynx := rfl
@[simp] theorem writeOutside_issue (d : Dev) (r : Record) : (d.writeOutside r).issue = d.issue := rfl
@[simp] theorem writeOutside_ax (d : Dev) (r : Record) : (d.writeOutside r).ax = d.ax := rfl
@[simp] theorem writeOutside_dl (d : Dev) (r : Record) : (d.writeOutside r).dl = d.dl := rfl
@[simp] theorem writeOutside_mods (d : Dev) (r : Record) : (d.writeOutside r).mods = d.mods := rfl
@[simp] theorem writeOutside_io (d : Dev) (r : Record) : (d.writeOutside r).io = d.io := rfl
@[simp] theorem writeOutside_bad (d : Dev) (r : Record) : (d.writeOutside r).bad = d.bad := rfl
@[simp] theorem writeOutside_net (d : Dev) (r : Record) : (d.writeOutside r).net = d.net := rfl
@[simp] theorem writeOutside_pwr (d : Dev) (r : Record) : (d.writeOutside r).pwr = d.pwr := rfl

/-! ### raise -/

@[simp] theorem raise_out (d : Dev) (c s : Nat) (p q r : Int) : (d.raise c s p q r).out = d.out := by unfold Dev.raise; split <;> rfl
@[simp] theorem raise_fresh (d : Dev) (c s : Nat) (p q r : Int) : (d.raise c s p q r).fresh = d.fresh := by unfold Dev.raise; split <;> rfl
@[simp] theorem raise_rd (d : Dev) (c s : Nat) (p q r : Int) : (d.raise c s p q r).rd = d.rd := by unfold Dev.raise; split <;> rfl
@[simp] theorem raise_ans (d : Dev) (c s : Nat) (p q r : Int) : (d.raise c s p q r).ans = d.ans := by unfold Dev.raise; split <;> rfl
@[simp] theorem raise_esc (d : Dev) (c s : Nat) (p q r : Int) : (d.raise c s p q r).esc = d.esc := by unfold Dev.raise; split <;> rfl
@[simp] theorem raise_rmt (d : Dev) (c s : Nat) (p q r : Int) : (d.raise c s p q r).rmt = d.rmt := by unfold Dev.raise; split <;> rfl
@[simp] theorem raise_ses (d : Dev) (c s : Nat) (p q r : Int) : (d.raise c s p q r).ses = d.ses := by unfold Dev.raise; split <;> rfl
@[simp] theorem raise_img (d : Dev) (c s : Nat) (p q r : Int) : (d.raise c s p q r).img = d.img := by unfold Dev.raise; split <;> rfl
@[simp] theorem raise_grp (d : Dev) (c s : Nat) (p q r : Int) : (d.raise c s p q r).grp = d.grp := by unfold Dev.raise; split <;> rfl
@[simp] theorem raise_conv (d : Dev) (c s : Nat) (p q r : Int) : (d.raise c s p q r).conv = d.conv := by unfold Dev.raise; split <;> rfl
@[simp] theorem raise_masters (d : Dev) (c s : Nat) (p q r : Int) : (d.raise c s p q r).masters = d.masters := by unfold Dev.raise; split <;> rfl
@[simp] theorem raise_trig (d : Dev) (c s : Nat) (p q r : Int) : (d.raise c s p q r).trig = d.trig := by unfold Dev.raise; split <;> rfl
@[simp] theorem raise_lynx (d : Dev) (c s : Nat) (p q r : Int) : (d.raise c s p q r).lynx = d.lynx := by unfold Dev.raise; split <;> rfl
@[simp] theorem raise_issue (d : Dev) (c s : Nat) (p q r : Int) : (d.raise c s p q r).issue = d.issue := by unfold Dev.raise; split <;> rfl
@[simp] theorem raise_ax (d : Dev) (c s : Nat) (p q r : Int) : (d.raise c s p q r).ax = d.ax := by unfold Dev.raise; split <;> rfl
@[simp] theorem raise_dl (d : Dev) (c s : Nat) (p q r : Int) : (d.raise c s p q r).dl = d.dl := by unfold Dev.raise; split <;> rfl
@[simp] theorem raise_mods (d : Dev) (c s : Nat) (p q r : Int) : (d.raise c s p q r).mods = d.mods := by unfold Dev.raise; split <;> rfl
@[simp] theorem raise_io (d : Dev) (c s : Nat) (p q r : Int) : (d.raise c s p q r).io = d.io := by unfold Dev.raise; split <;> rfl
@[simp] theorem raise_bad (d : Dev) (c s : Nat) (p q r : Int) : (d.raise c s p q r).bad = d.bad := by unfold Dev.raise; split <;> rfl
@[simp] theorem raise_net (d : Dev) (c s : Nat) (p q r : Int) : (d.raise c s p q r).net = d.net := by unfold Dev.raise; split <;> rfl
@[simp] theorem raise_pwr (d : Dev) (c s : Nat) (p q r : Int) : (d.raise c s p q r).pwr = d.pwr := by unfold Dev.raise; split <;> rfl

/-! ### raiseNext -/

@[simp] theorem raiseNext_out (d : Dev) (c s : Nat) (p q r : Int) : (d.raiseNext c s p q r).out = d.out := by unfold Dev.raiseNext; split <;> rfl
@[simp] theorem raiseNext_fresh (d : Dev) (c s : Nat) (p q r : Int) : (d.raiseNext c s p q r).fresh = d.fresh := by unfold Dev.raiseNext; split <;> rfl
@[simp] theorem raiseNext_rd (d : Dev) (c s : Nat) (p q r : Int) : (d.raiseNext c s p q r).rd = d.rd := by unfold Dev.raiseNext; split <;> rfl
@[simp] theorem raiseNext_ans (d : Dev) (c s : Nat) (p q r : Int) : (d.raiseNext c s p q r).ans = d.ans := by unfold Dev.raiseNext; split <;> rfl
@[simp] theorem raiseNext_esc (d : Dev) (c s : Nat) (p q r : Int) : (d.raiseNext c s p q r).esc = d.esc := by unfold Dev.raiseNext; split <;> rfl
@[simp] theorem raiseNext_rmt (d : Dev) (c s : Nat) (p q r : Int) : (d.raiseNext c s p q r).rmt = d.rmt := by unfold Dev.raiseNext; split <;> rfl
@[simp] theorem raiseNext_ses (d : Dev) (c s : Nat) (p q r : Int) : (d.raiseNext c s p q r).ses = d.ses := by unfold Dev.raiseNext; split <;> rfl
@[simp] theorem raiseNext_img (d : Dev) (c s : Nat) (p q r : Int) : (d.raiseNext c s p q r).img = d.img := by unfold Dev.raiseNext; split <;> rfl
@[simp] theorem raiseNext_grp (d : Dev) (c s : Nat) (p q r : Int) : (d.raiseNext c s p q r).grp = d.grp := by unfold Dev.raiseNext; split <;> rfl
@[simp] theorem raiseNext_conv (d : Dev) (c s : Nat) (p q r : Int) : (d.raiseNext c s p q r).conv = d.conv := by unfold Dev.raiseNext; split <;> rfl
@[simp] theorem raiseNext_masters (d : Dev) (c s : Nat) (p q r : Int) : (d.raiseNext c s p q r).masters = d.masters := by unfold Dev.raiseNext; split <;> rfl
@[simp] theorem raiseNext_trig (d : Dev) (c s : Nat) (p q r : Int) : (d.raiseNext c s p q r).trig = d.trig := by unfold Dev.raiseNext; split <;> rfl
@[simp] theorem raiseNext_lynx (d : Dev) (c s : Nat) (p q r : Int) : (d.raiseNext c s p q r).lynx = d.lynx := by unfold Dev.raiseNext; split <;> rfl
@[simp] theorem raiseNext_issue (d : Dev) (c s : Nat) (p q r : Int) : (d.raiseNext c s p q r).issue = d.issue := by unfold Dev.raiseNext; split <;> rfl
@[simp] theorem raiseNext_ax (d : Dev) (c s : Nat) (p q r : Int) : (d.raiseNext c s p q r).ax = d.ax := by unfold Dev.raiseNext; split <;> rfl
@[simp] theorem raiseNext_dl (d : Dev) (c s : Nat) (p q r : Int) : (d.raiseNext c s p q r).dl = d.dl := by unfold Dev.raiseNext; split <;> rfl
@[simp] theorem raiseNext_mods (d : Dev) (c s : Nat) (p q r : Int) : (d.raiseNext c s p q r).mods = d.mods := by unfold Dev.raiseNext; split <;> rfl
@[simp] theorem raiseNext_io (d : Dev) (c s : Nat) (p q r : Int) : (d.raiseNext c s p q r).io = d.io := by unfold Dev.raiseNext; split <;> rfl
@[simp] theorem raiseNext_bad (d : Dev) (c s : Nat) (p q r : Int) : (d.raiseNext c s p q r).bad = d.bad := by unfold Dev.raiseNext; split <;> rfl
@[simp] theorem raiseNext_net (d : Dev) (c s : Nat) (p q r : Int) : (d.raiseNext c s p q r).net = d.net := by unfold Dev.raiseNext; split <;> rfl
@[simp] theorem raiseNext_pwr (d : Dev) (c s : Nat) (p q r : Int) : (d.raiseNext c s p q r).pwr = d.pwr := by unfold Dev.raiseNext; split <;> rfl

/-! ### setAxis -/

@[simp] theorem setAxis_regs (d : Dev) (n : Nat) (x : Axis) : (d.setAxis n x).regs = d.regs := rfl
@[simp] theorem setAxis_out (d : Dev) (n : Nat) (x : Axis) : (d.setAxis n x).out = d.out := rfl
@[simp] theorem setAxis_fresh (d : Dev) (n : Nat) (x : Axis) : (d.setAxis n x).fresh = d.fresh := rfl
@[simp] theorem setAxis_rd (d : Dev) (n : Nat) (x : Axis) : (d.setAxis n x).rd = d.rd := rfl
@[simp] theorem setAxis_ans (d : Dev) (n : Nat) (x : Axis) : (d.setAxis n x).ans = d.ans := rfl
@[simp] theorem setAxis_esc (d : Dev) (n : Nat) (x : Axis) : (d.setAxis n x).esc = d.esc := rfl
@[simp] theorem setAxis_rmt (d : Dev) (n : Nat) (x : Axis) : (d.setAxis n x).rmt = d.rmt := rfl
@[simp] theorem setAxis_ses (d : Dev) (n : Nat) (x : Axis) : (d.setAxis n x).ses = d.ses := rfl
@[simp] theorem setAxis_img (d : Dev) (n : Nat) (x : Axis) : (d.setAxis n x).img = d.img := rfl
@[simp] theorem setAxis_rec (d : Dev) (n : Nat) (x : Axis) : (d.setAxis n x).rec_ = d.rec_ := rfl
@[simp] theorem setAxis_grp (d : Dev) (n : Nat) (x : Axis) : (d.setAxis n x).grp = d.grp := rfl
@[simp] theorem setAxis_conv (d : Dev) (n : Nat) (x : Axis) : (d.setAxis n x).conv = d.conv := rfl
@[simp] theorem setAxis_masters (d : Dev) (n : Nat) (x : Axis) : (d.setAxis n x).masters = d.masters := rfl
@[simp] theorem setAxis_trig (d : Dev) (n : Nat) (x : Axis) : (d.setAxis n x).trig = d.trig := rfl
@[simp] theorem setAxis_lynx (d : Dev) (n : Nat) (x : Axis) : (d.setAxis n x).lynx = d.lynx := rfl
@[simp] theorem setAxis_issue (d : Dev) (n : Nat) (x : Axis) : (d.setAxis n x).issue = d.issue := rfl
@[simp] theorem setAxis_dl (d : Dev) (n : Nat) (x : Axis) : (d.setAxis n x).dl = d.dl := rfl
@[simp] theorem setAxis_mods (d : Dev) (n : Nat) (x : Axis) : (d.setAxis n x).mods = d.mods := rfl
@[simp] theorem setAxis_io (d : Dev) (n : Nat) (x : Axis) : (d.setAxis n x).io = d.io := rfl
@[simp] theorem setAxis_bad (d : Dev) (n : Nat) (x : Axis) : (d.setAxis n x).bad = d.bad := rfl
@[simp] theorem setAxis_net (d : Dev) (n : Nat) (x : Axis) : (d.setAxis n x).net = d.net := rfl
@[simp] theorem setAxis_pwr (d : Dev) (n : Nat) (x : Axis) : (d.setAxis n x).pwr = d.pwr := rfl

/-! ### setGroup -/

@[simp] theorem setGroup_regs (d : Dev) (n : Nat) (x : Group) : (d.setGroup n x).regs = d.regs := rfl
@[simp] theorem setGroup_out (d : Dev) (n : Nat) (x : Group) : (d.setGroup n x).out = d.out := rfl
@[simp] theorem setGroup_fresh (d : Dev) (n : Nat) (x : Group) : (d.setGroup n x).fresh = d.fresh := rfl
@[simp] theorem setGroup_rd (d : Dev) (n : Nat) (x : Group) : (d.setGroup n x).rd = d.rd := rfl
@[simp] theorem setGroup_ans (d : Dev) (n : Nat) (x : Group) : (d.setGroup n x).ans = d.ans := rfl
@[simp] theorem setGroup_esc (d : Dev) (n : Nat) (x : Group) : (d.setGroup n x).esc = d.esc := rfl
@[simp] theorem setGroup_rmt (d : Dev) (n : Nat) (x : Group) : (d.setGroup n x).rmt = d.rmt := rfl
@[simp] theorem setGroup_ses (d : Dev) (n : Nat) (x : Group) : (d.setGroup n x).ses = d.ses := rfl
@[simp] theorem setGroup_img (d : Dev) (n : Nat) (x : Group) : (d.setGroup n x).img = d.img := rfl
@[simp] theorem setGroup_rec (d : Dev) (n : Nat) (x : Group) : (d.setGroup n x).rec_ = d.rec_ := rfl
@[simp] theorem setGroup_conv (d : Dev) (n : Nat) (x : Group) : (d.setGroup n x).conv = d.conv := rfl
@[simp] theorem setGroup_masters (d : Dev) (n : Nat) (x : Group) : (d.setGroup n x).masters = d.masters := rfl
@[simp] theorem setGroup_trig (d : Dev) (n : Nat) (x : Group) : (d.setGroup n x).trig = d.trig := rfl
@[simp] theorem setGroup_lynx (d : Dev) (n : Nat) (x : Group) : (d.setGroup n x).lynx = d.lynx := rfl
@[simp] theorem setGroup_issue (d : Dev) (n : Nat) (x : Group) : (d.setGroup n x).issue = d.issue := rfl
@[simp] theorem setGroup_ax (d : Dev) (n : Nat) (x : Group) : (d.setGroup n x).ax = d.ax := rfl
@[simp] theorem setGroup_dl (d : Dev) (n : Nat) (x : Group) : (d.setGroup n x).dl = d.dl := rfl
@[simp] theorem setGroup_mods (d : Dev) (n : Nat) (x : Group) : (d.setGroup n x).mods = d.mods := rfl
@[simp] theorem setGroup_io (d : Dev) (n : Nat) (x : Group) : (d.setGroup n x).io = d.io := rfl
@[simp] theorem setGroup_bad (d : Dev) (n : Nat) (x : Group) : (d.setGroup n x).bad = d.bad := rfl
@[simp] theorem setGroup_net (d : Dev) (n : Nat) (x : Group) : (d.setGroup n x).net = d.net := rfl
@[simp] theorem setGroup_pwr (d : Dev) (n : Nat) (x : Group) : (d.setGroup n x).pwr = d.pwr := rfl

/-! ### setSession -/

@[simp] theorem setSession_regs (d : Dev) (n : Nat) (x : Ses) : (d.setSession n x).regs = d.regs := rfl
@[simp] theorem setSession_out (d : Dev) (n : Nat) (x : Ses) : (d.setSession n x).out = d.out := rfl
@[simp] theorem setSession_fresh (d : Dev) (n : Nat) (x : Ses) : (d.setSession n x).fresh = d.fresh := rfl
@[simp] theorem setSession_rd (d : Dev) (n : Nat) (x : Ses) : (d.setSession n x).rd = d.rd := rfl
@[simp] theorem setSession_ans (d : Dev) (n : Nat) (x : Ses) : (d.setSession n x).ans = d.ans := rfl
@[simp] theorem setSession_esc (d : Dev) (n : Nat) (x : Ses) : (d.setSession n x).esc = d.esc := rfl
@[simp] theorem setSession_rmt (d : Dev) (n : Nat) (x : Ses) : (d.setSession n x).rmt = d.rmt := rfl
@[simp] theorem setSession_img (d : Dev) (n : Nat) (x : Ses) : (d.setSession n x).img = d.img := rfl
@[simp] theorem setSession_rec (d : Dev) (n : Nat) (x : Ses) : (d.setSession n x).rec_ = d.rec_ := rfl
@[simp] theorem setSession_grp (d : Dev) (n : Nat) (x : Ses) : (d.setSession n x).grp = d.grp := rfl
@[simp] theorem setSession_conv (d : Dev) (n : Nat) (x : Ses) : (d.setSession n x).conv = d.conv := rfl
@[simp] theorem setSession_masters (d : Dev) (n : Nat) (x : Ses) : (d.setSession n x).masters = d.masters := rfl
@[simp] theorem setSession_trig (d : Dev) (n : Nat) (x : Ses) : (d.setSession n x).trig = d.trig := rfl
@[simp] theorem setSession_lynx (d : Dev) (n : Nat) (x : Ses) : (d.setSession n x).lynx = d.lynx := rfl
@[simp] theorem setSession_issue (d : Dev) (n : Nat) (x : Ses) : (d.setSession n x).issue = d.issue := rfl
@[simp] theorem setSession_ax (d : Dev) (n : Nat) (x : Ses) : (d.setSession n x).ax = d.ax := rfl
@[simp] theorem setSession_dl (d : Dev) (n : Nat) (x : Ses) : (d.setSession n x).dl = d.dl := rfl
@[simp] theorem setSession_mods (d : Dev) (n : Nat) (x : Ses) : (d.setSession n x).mods = d.mods := rfl
@[simp] theorem setSession_io (d : Dev) (n : Nat) (x : Ses) : (d.setSession n x).io = d.io := rfl
@[simp] theorem setSession_bad (d : Dev) (n : Nat) (x : Ses) : (d.setSession n x).bad = d.bad := rfl
@[simp] theorem setSession_net (d : Dev) (n : Nat) (x : Ses) : (d.setSession n x).net = d.net := rfl
@[simp] theorem setSession_pwr (d : Dev) (n : Nat) (x : Ses) : (d.setSession n x).pwr = d.pwr := rfl

/-! ### setPort -/

@[simp] theorem setPort_regs (d : Dev) (n : Nat) (x : Port) : (d.setPort n x).regs = d.regs := rfl
@[simp] theorem setPort_out (d : Dev) (n : Nat) (x : Port) : (d.setPort n x).out = d.out := rfl
@[simp] theorem setPort_fresh (d : Dev) (n : Nat) (x : Port) : (d.setPort n x).fresh = d.fresh := rfl
@[simp] theorem setPort_rd (d : Dev) (n : Nat) (x : Port) : (d.setPort n x).rd = d.rd := rfl
@[simp] theorem setPort_ans (d : Dev) (n : Nat) (x : Port) : (d.setPort n x).ans = d.ans := rfl
@[simp] theorem setPort_esc (d : Dev) (n : Nat) (x : Port) : (d.setPort n x).esc = d.esc := rfl
@[simp] theorem setPort_rmt (d : Dev) (n : Nat) (x : Port) : (d.setPort n x).rmt = d.rmt := rfl
@[simp] theorem setPort_ses (d : Dev) (n : Nat) (x : Port) : (d.setPort n x).ses = d.ses := rfl
@[simp] theorem setPort_img (d : Dev) (n : Nat) (x : Port) : (d.setPort n x).img = d.img := rfl
@[simp] theorem setPort_rec (d : Dev) (n : Nat) (x : Port) : (d.setPort n x).rec_ = d.rec_ := rfl
@[simp] theorem setPort_grp (d : Dev) (n : Nat) (x : Port) : (d.setPort n x).grp = d.grp := rfl
@[simp] theorem setPort_conv (d : Dev) (n : Nat) (x : Port) : (d.setPort n x).conv = d.conv := rfl
@[simp] theorem setPort_masters (d : Dev) (n : Nat) (x : Port) : (d.setPort n x).masters = d.masters := rfl
@[simp] theorem setPort_trig (d : Dev) (n : Nat) (x : Port) : (d.setPort n x).trig = d.trig := rfl
@[simp] theorem setPort_lynx (d : Dev) (n : Nat) (x : Port) : (d.setPort n x).lynx = d.lynx := rfl
@[simp] theorem setPort_issue (d : Dev) (n : Nat) (x : Port) : (d.setPort n x).issue = d.issue := rfl
@[simp] theorem setPort_ax (d : Dev) (n : Nat) (x : Port) : (d.setPort n x).ax = d.ax := rfl
@[simp] theorem setPort_mods (d : Dev) (n : Nat) (x : Port) : (d.setPort n x).mods = d.mods := rfl
@[simp] theorem setPort_io (d : Dev) (n : Nat) (x : Port) : (d.setPort n x).io = d.io := rfl
@[simp] theorem setPort_bad (d : Dev) (n : Nat) (x : Port) : (d.setPort n x).bad = d.bad := rfl
@[simp] theorem setPort_net (d : Dev) (n : Nat) (x : Port) : (d.setPort n x).net = d.net := rfl
@[simp] theorem setPort_pwr (d : Dev) (n : Nat) (x : Port) : (d.setPort n x).pwr = d.pwr := rfl

/-! ### setPosn -/

@[simp] theorem setPosn_regs (d : Dev) (n k : Nat) (x : Pos) : (d.setPosn n k x).regs = d.regs := rfl
@[simp] theorem setPosn_out (d : Dev) (n k : Nat) (x : Pos) : (d.setPosn n k x).out = d.out := rfl
@[simp] theorem setPosn_fresh (d : Dev) (n k : Nat) (x : Pos) : (d.setPosn n k x).fresh = d.fresh := rfl
@[simp] theorem setPosn_rd (d : Dev) (n k : Nat) (x : Pos) : (d.setPosn n k x).rd = d.rd := rfl
@[simp] theorem setPosn_ans (d : Dev) (n k : Nat) (x : Pos) : (d.setPosn n k x).ans = d.ans := rfl
@[simp] theorem setPosn_esc (d : Dev) (n k : Nat) (x : Pos) : (d.setPosn n k x).esc = d.esc := rfl
@[simp] theorem setPosn_rmt (d : Dev) (n k : Nat) (x : Pos) : (d.setPosn n k x).rmt = d.rmt := rfl
@[simp] theorem setPosn_ses (d : Dev) (n k : Nat) (x : Pos) : (d.setPosn n k x).ses = d.ses := rfl
@[simp] theorem setPosn_img (d : Dev) (n k : Nat) (x : Pos) : (d.setPosn n k x).img = d.img := rfl
@[simp] theorem setPosn_rec (d : Dev) (n k : Nat) (x : Pos) : (d.setPosn n k x).rec_ = d.rec_ := rfl
@[simp] theorem setPosn_grp (d : Dev) (n k : Nat) (x : Pos) : (d.setPosn n k x).grp = d.grp := rfl
@[simp] theorem setPosn_conv (d : Dev) (n k : Nat) (x : Pos) : (d.setPosn n k x).conv = d.conv := rfl
@[simp] theorem setPosn_masters (d : Dev) (n k : Nat) (x : Pos) : (d.setPosn n k x).masters = d.masters := rfl
@[simp] theorem setPosn_trig (d : Dev) (n k : Nat) (x : Pos) : (d.setPosn n k x).trig = d.trig := rfl
@[simp] theorem setPosn_lynx (d : Dev) (n k : Nat) (x : Pos) : (d.setPosn n k x).lynx = d.lynx := rfl
@[simp] theorem setPosn_issue (d : Dev) (n k : Nat) (x : Pos) : (d.setPosn n k x).issue = d.issue := rfl
@[simp] theorem setPosn_ax (d : Dev) (n k : Nat) (x : Pos) : (d.setPosn n k x).ax = d.ax := rfl
@[simp] theorem setPosn_mods (d : Dev) (n k : Nat) (x : Pos) : (d.setPosn n k x).mods = d.mods := rfl
@[simp] theorem setPosn_io (d : Dev) (n k : Nat) (x : Pos) : (d.setPosn n k x).io = d.io := rfl
@[simp] theorem setPosn_bad (d : Dev) (n k : Nat) (x : Pos) : (d.setPosn n k x).bad = d.bad := rfl
@[simp] theorem setPosn_net (d : Dev) (n k : Nat) (x : Pos) : (d.setPosn n k x).net = d.net := rfl
@[simp] theorem setPosn_pwr (d : Dev) (n k : Nat) (x : Pos) : (d.setPosn n k x).pwr = d.pwr := rfl

/-! ### setModl -/

@[simp] theorem setModl_regs (d : Dev) (n : Nat) (x : Module) : (d.setModl n x).regs = d.regs := rfl
@[simp] theorem setModl_out (d : Dev) (n : Nat) (x : Module) : (d.setModl n x).out = d.out := rfl
@[simp] theorem setModl_fresh (d : Dev) (n : Nat) (x : Module) : (d.setModl n x).fresh = d.fresh := rfl
@[simp] theorem setModl_rd (d : Dev) (n : Nat) (x : Module) : (d.setModl n x).rd = d.rd := rfl
@[simp] theorem setModl_ans (d : Dev) (n : Nat) (x : Module) : (d.setModl n x).ans = d.ans := rfl
@[simp] theorem setModl_esc (d : Dev) (n : Nat) (x : Module) : (d.setModl n x).esc = d.esc := rfl
@[simp] theorem setModl_rmt (d : Dev) (n : Nat) (x : Module) : (d.setModl n x).rmt = d.rmt := rfl
@[simp] theorem setModl_ses (d : Dev) (n : Nat) (x : Module) : (d.setModl n x).ses = d.ses := rfl
@[simp] theorem setModl_img (d : Dev) (n : Nat) (x : Module) : (d.setModl n x).img = d.img := rfl
@[simp] theorem setModl_rec (d : Dev) (n : Nat) (x : Module) : (d.setModl n x).rec_ = d.rec_ := rfl
@[simp] theorem setModl_grp (d : Dev) (n : Nat) (x : Module) : (d.setModl n x).grp = d.grp := rfl
@[simp] theorem setModl_conv (d : Dev) (n : Nat) (x : Module) : (d.setModl n x).conv = d.conv := rfl
@[simp] theorem setModl_masters (d : Dev) (n : Nat) (x : Module) : (d.setModl n x).masters = d.masters := rfl
@[simp] theorem setModl_trig (d : Dev) (n : Nat) (x : Module) : (d.setModl n x).trig = d.trig := rfl
@[simp] theorem setModl_lynx (d : Dev) (n : Nat) (x : Module) : (d.setModl n x).lynx = d.lynx := rfl
@[simp] theorem setModl_issue (d : Dev) (n : Nat) (x : Module) : (d.setModl n x).issue = d.issue := rfl
@[simp] theorem setModl_ax (d : Dev) (n : Nat) (x : Module) : (d.setModl n x).ax = d.ax := rfl
@[simp] theorem setModl_dl (d : Dev) (n : Nat) (x : Module) : (d.setModl n x).dl = d.dl := rfl
@[simp] theorem setModl_io (d : Dev) (n : Nat) (x : Module) : (d.setModl n x).io = d.io := rfl
@[simp] theorem setModl_bad (d : Dev) (n : Nat) (x : Module) : (d.setModl n x).bad = d.bad := rfl
@[simp] theorem setModl_net (d : Dev) (n : Nat) (x : Module) : (d.setModl n x).net = d.net := rfl
@[simp] theorem setModl_pwr (d : Dev) (n : Nat) (x : Module) : (d.setModl n x).pwr = d.pwr := rfl

/-! ### setCv -/

@[simp] theorem setCv_regs (d : Dev) (n : Nat) (x : Conveyor) : (d.setCv n x).regs = d.regs := rfl
@[simp] theorem setCv_out (d : Dev) (n : Nat) (x : Conveyor) : (d.setCv n x).out = d.out := rfl
@[simp] theorem setCv_fresh (d : Dev) (n : Nat) (x : Conveyor) : (d.setCv n x).fresh = d.fresh := rfl
@[simp] theorem setCv_rd (d : Dev) (n : Nat) (x : Conveyor) : (d.setCv n x).rd = d.rd := rfl
@[simp] theorem setCv_ans (d : Dev) (n : Nat) (x : Conveyor) : (d.setCv n x).ans = d.ans := rfl
@[simp] theorem setCv_esc (d : Dev) (n : Nat) (x : Conveyor) : (d.setCv n x).esc = d.esc := rfl
@[simp] theorem setCv_rmt (d : Dev) (n : Nat) (x : Conveyor) : (d.setCv n x).rmt = d.rmt := rfl
@[simp] theorem setCv_ses (d : Dev) (n : Nat) (x : Conveyor) : (d.setCv n x).ses = d.ses := rfl
@[simp] theorem setCv_img (d : Dev) (n : Nat) (x : Conveyor) : (d.setCv n x).img = d.img := rfl
@[simp] theorem setCv_rec (d : Dev) (n : Nat) (x : Conveyor) : (d.setCv n x).rec_ = d.rec_ := rfl
@[simp] theorem setCv_grp (d : Dev) (n : Nat) (x : Conveyor) : (d.setCv n x).grp = d.grp := rfl
@[simp] theorem setCv_masters (d : Dev) (n : Nat) (x : Conveyor) : (d.setCv n x).masters = d.masters := rfl
@[simp] theorem setCv_trig (d : Dev) (n : Nat) (x : Conveyor) : (d.setCv n x).trig = d.trig := rfl
@[simp] theorem setCv_lynx (d : Dev) (n : Nat) (x : Conveyor) : (d.setCv n x).lynx = d.lynx := rfl
@[simp] theorem setCv_issue (d : Dev) (n : Nat) (x : Conveyor) : (d.setCv n x).issue = d.issue := rfl
@[simp] theorem setCv_ax (d : Dev) (n : Nat) (x : Conveyor) : (d.setCv n x).ax = d.ax := rfl
@[simp] theorem setCv_dl (d : Dev) (n : Nat) (x : Conveyor) : (d.setCv n x).dl = d.dl := rfl
@[simp] theorem setCv_mods (d : Dev) (n : Nat) (x : Conveyor) : (d.setCv n x).mods = d.mods := rfl
@[simp] theorem setCv_io (d : Dev) (n : Nat) (x : Conveyor) : (d.setCv n x).io = d.io := rfl
@[simp] theorem setCv_bad (d : Dev) (n : Nat) (x : Conveyor) : (d.setCv n x).bad = d.bad := rfl
@[simp] theorem setCv_net (d : Dev) (n : Nat) (x : Conveyor) : (d.setCv n x).net = d.net := rfl
@[simp] theorem setCv_pwr (d : Dev) (n : Nat) (x : Conveyor) : (d.setCv n x).pwr = d.pwr := rfl

/-! ### setCan -/

@[simp] theorem setCan_regs (d : Dev) (n : Nat) (x : CanCtl) : (d.setCan n x).regs = d.regs := rfl
@[simp] theorem setCan_out (d : Dev) (n : Nat) (x : CanCtl) : (d.setCan n x).out = d.out := rfl
@[simp] theorem setCan_fresh (d : Dev) (n : Nat) (x : CanCtl) : (d.setCan n x).fresh = d.fresh := rfl
@[simp] theorem setCan_rd (d : Dev) (n : Nat) (x : CanCtl) : (d.setCan n x).rd = d.rd := rfl
@[simp] theorem setCan_ans (d : Dev) (n : Nat) (x : CanCtl) : (d.setCan n x).ans = d.ans := rfl
@[simp] theorem setCan_esc (d : Dev) (n : Nat) (x : CanCtl) : (d.setCan n x).esc = d.esc := rfl
@[simp] theorem setCan_rmt (d : Dev) (n : Nat) (x : CanCtl) : (d.setCan n x).rmt = d.rmt := rfl
@[simp] theorem setCan_ses (d : Dev) (n : Nat) (x : CanCtl) : (d.setCan n x).ses = d.ses := rfl
@[simp] theorem setCan_img (d : Dev) (n : Nat) (x : CanCtl) : (d.setCan n x).img = d.img := rfl
@[simp] theorem setCan_rec (d : Dev) (n : Nat) (x : CanCtl) : (d.setCan n x).rec_ = d.rec_ := rfl
@[simp] theorem setCan_grp (d : Dev) (n : Nat) (x : CanCtl) : (d.setCan n x).grp = d.grp := rfl
@[simp] theorem setCan_conv (d : Dev) (n : Nat) (x : CanCtl) : (d.setCan n x).conv = d.conv := rfl
@[simp] theorem setCan_masters (d : Dev) (n : Nat) (x : CanCtl) : (d.setCan n x).masters = d.masters := rfl
@[simp] theorem setCan_trig (d : Dev) (n : Nat) (x : CanCtl) : (d.setCan n x).trig = d.trig := rfl
@[simp] theorem setCan_lynx (d : Dev) (n : Nat) (x : CanCtl) : (d.setCan n x).lynx = d.lynx := rfl
@[simp] theorem setCan_issue (d : Dev) (n : Nat) (x : CanCtl) : (d.setCan n x).issue = d.issue := rfl
@[simp] theorem setCan_ax (d : Dev) (n : Nat) (x : CanCtl) : (d.setCan n x).ax = d.ax := rfl
@[simp] theorem setCan_dl (d : Dev) (n : Nat) (x : CanCtl) : (d.setCan n x).dl = d.dl := rfl
@[simp] theorem setCan_mods (d : Dev) (n : Nat) (x : CanCtl) : (d.setCan n x).mods = d.mods := rfl
@[simp] theorem setCan_bad (d : Dev) (n : Nat) (x : CanCtl) : (d.setCan n x).bad = d.bad := rfl
@[simp] theorem setCan_net (d : Dev) (n : Nat) (x : CanCtl) : (d.setCan n x).net = d.net := rfl
@[simp] theorem setCan_pwr (d : Dev) (n : Nat) (x : CanCtl) : (d.setCan n x).pwr = d.pwr := rfl

/-! ### setFb -/

@[simp] theorem setFb_regs (d : Dev) (n : Nat) (x : FbCh) : (d.setFb n x).regs = d.regs := rfl
@[simp] theorem setFb_out (d : Dev) (n : Nat) (x : FbCh) : (d.setFb n x).out = d.out := rfl
@[simp] theorem setFb_fresh (d : Dev) (n : Nat) (x : FbCh) : (d.setFb n x).fresh = d.fresh := rfl
@[simp] theorem setFb_rd (d : Dev) (n : Nat) (x : FbCh) : (d.setFb n x).rd = d.rd := rfl
@[simp] theorem setFb_ans (d : Dev) (n : Nat) (x : FbCh) : (d.setFb n x).ans = d.ans := rfl
@[simp] theorem setFb_esc (d : Dev) (n : Nat) (x : FbCh) : (d.setFb n x).esc = d.esc := rfl
@[simp] theorem setFb_rmt (d : Dev) (n : Nat) (x : FbCh) : (d.setFb n x).rmt = d.rmt := rfl
@[simp] theorem setFb_ses (d : Dev) (n : Nat) (x : FbCh) : (d.setFb n x).ses = d.ses := rfl
@[simp] theorem setFb_img (d : Dev) (n : Nat) (x : FbCh) : (d.setFb n x).img = d.img := rfl
@[simp] theorem setFb_rec (d : Dev) (n : Nat) (x : FbCh) : (d.setFb n x).rec_ = d.rec_ := rfl
@[simp] theorem setFb_grp (d : Dev) (n : Nat) (x : FbCh) : (d.setFb n x).grp = d.grp := rfl
@[simp] theorem setFb_conv (d : Dev) (n : Nat) (x : FbCh) : (d.setFb n x).conv = d.conv := rfl
@[simp] theorem setFb_masters (d : Dev) (n : Nat) (x : FbCh) : (d.setFb n x).masters = d.masters := rfl
@[simp] theorem setFb_trig (d : Dev) (n : Nat) (x : FbCh) : (d.setFb n x).trig = d.trig := rfl
@[simp] theorem setFb_lynx (d : Dev) (n : Nat) (x : FbCh) : (d.setFb n x).lynx = d.lynx := rfl
@[simp] theorem setFb_issue (d : Dev) (n : Nat) (x : FbCh) : (d.setFb n x).issue = d.issue := rfl
@[simp] theorem setFb_ax (d : Dev) (n : Nat) (x : FbCh) : (d.setFb n x).ax = d.ax := rfl
@[simp] theorem setFb_dl (d : Dev) (n : Nat) (x : FbCh) : (d.setFb n x).dl = d.dl := rfl
@[simp] theorem setFb_mods (d : Dev) (n : Nat) (x : FbCh) : (d.setFb n x).mods = d.mods := rfl
@[simp] theorem setFb_bad (d : Dev) (n : Nat) (x : FbCh) : (d.setFb n x).bad = d.bad := rfl
@[simp] theorem setFb_net (d : Dev) (n : Nat) (x : FbCh) : (d.setFb n x).net = d.net := rfl
@[simp] theorem setFb_pwr (d : Dev) (n : Nat) (x : FbCh) : (d.setFb n x).pwr = d.pwr := rfl

/-! ### setCmp -/

@[simp] theorem setCmp_regs (d : Dev) (n : Nat) (x : Cmp) : (d.setCmp n x).regs = d.regs := rfl
@[simp] theorem setCmp_out (d : Dev) (n : Nat) (x : Cmp) : (d.setCmp n x).out = d.out := rfl
@[simp] theorem setCmp_fresh (d : Dev) (n : Nat) (x : Cmp) : (d.setCmp n x).fresh = d.fresh := rfl
@[simp] theorem setCmp_rd (d : Dev) (n : Nat) (x : Cmp) : (d.setCmp n x).rd = d.rd := rfl
@[simp] theorem setCmp_ans (d : Dev) (n : Nat) (x : Cmp) : (d.setCmp n x).ans = d.ans := rfl
@[simp] theorem setCmp_esc (d : Dev) (n : Nat) (x : Cmp) : (d.setCmp n x).esc = d.esc := rfl
@[simp] theorem setCmp_rmt (d : Dev) (n : Nat) (x : Cmp) : (d.setCmp n x).rmt = d.rmt := rfl
@[simp] theorem setCmp_ses (d : Dev) (n : Nat) (x : Cmp) : (d.setCmp n x).ses = d.ses := rfl
@[simp] theorem setCmp_img (d : Dev) (n : Nat) (x : Cmp) : (d.setCmp n x).img = d.img := rfl
@[simp] theorem setCmp_rec (d : Dev) (n : Nat) (x : Cmp) : (d.setCmp n x).rec_ = d.rec_ := rfl
@[simp] theorem setCmp_grp (d : Dev) (n : Nat) (x : Cmp) : (d.setCmp n x).grp = d.grp := rfl
@[simp] theorem setCmp_conv (d : Dev) (n : Nat) (x : Cmp) : (d.setCmp n x).conv = d.conv := rfl
@[simp] theorem setCmp_masters (d : Dev) (n : Nat) (x : Cmp) : (d.setCmp n x).masters = d.masters := rfl
@[simp] theorem setCmp_trig (d : Dev) (n : Nat) (x : Cmp) : (d.setCmp n x).trig = d.trig := rfl
@[simp] theorem setCmp_lynx (d : Dev) (n : Nat) (x : Cmp) : (d.setCmp n x).lynx = d.lynx := rfl
@[simp] theorem setCmp_issue (d : Dev) (n : Nat) (x : Cmp) : (d.setCmp n x).issue = d.issue := rfl
@[simp] theorem setCmp_ax (d : Dev) (n : Nat) (x : Cmp) : (d.setCmp n x).ax = d.ax := rfl
@[simp] theorem setCmp_dl (d : Dev) (n : Nat) (x : Cmp) : (d.setCmp n x).dl = d.dl := rfl
@[simp] theorem setCmp_mods (d : Dev) (n : Nat) (x : Cmp) : (d.setCmp n x).mods = d.mods := rfl
@[simp] theorem setCmp_bad (d : Dev) (n : Nat) (x : Cmp) : (d.setCmp n x).bad = d.bad := rfl
@[simp] theorem setCmp_net (d : Dev) (n : Nat) (x : Cmp) : (d.setCmp n x).net = d.net := rfl
@[simp] theorem setCmp_pwr (d : Dev) (n : Nat) (x : Cmp) : (d.setCmp n x).pwr = d.pwr := rfl

/-! ### setPair -/

@[simp] theorem setPair_regs (d : Dev) (n : Nat) (x : StepPair) : (d.setPair n x).regs = d.regs := rfl
@[simp] theorem setPair_out (d : Dev) (n : Nat) (x : StepPair) : (d.setPair n x).out = d.out := rfl
@[simp] theorem setPair_fresh (d : Dev) (n : Nat) (x : StepPair) : (d.setPair n x).fresh = d.fresh := rfl
@[simp] theorem setPair_rd (d : Dev) (n : Nat) (x : StepPair) : (d.setPair n x).rd = d.rd := rfl
@[simp] theorem setPair_ans (d : Dev) (n : Nat) (x : StepPair) : (d.setPair n x).ans = d.ans := rfl
@[simp] theorem setPair_esc (d : Dev) (n : Nat) (x : StepPair) : (d.setPair n x).esc = d.esc := rfl
@[simp] theorem setPair_rmt (d : Dev) (n : Nat) (x : StepPair) : (d.setPair n x).rmt = d.rmt := rfl
@[simp] theorem setPair_ses (d : Dev) (n : Nat) (x : StepPair) : (d.setPair n x).ses = d.ses := rfl
@[simp] theorem setPair_img (d : Dev) (n : Nat) (x : StepPair) : (d.setPair n x).img = d.img := rfl
@[simp] theorem setPair_rec (d : Dev) (n : Nat) (x : StepPair) : (d.setPair n x).rec_ = d.rec_ := rfl
@[simp] theorem setPair_grp (d : Dev) (n : Nat) (x : StepPair) : (d.setPair n x).grp = d.grp := rfl
@[simp] theorem setPair_conv (d : Dev) (n : Nat) (x : StepPair) : (d.setPair n x).conv = d.conv := rfl
@[simp] theorem setPair_masters (d : Dev) (n : Nat) (x : StepPair) : (d.setPair n x).masters = d.masters := rfl
@[simp] theorem setPair_trig (d : Dev) (n : Nat) (x : StepPair) : (d.setPair n x).trig = d.trig := rfl
@[simp] theorem setPair_lynx (d : Dev) (n : Nat) (x : StepPair) : (d.setPair n x).lynx = d.lynx := rfl
@[simp] theorem setPair_issue (d : Dev) (n : Nat) (x : StepPair) : (d.setPair n x).issue = d.issue := rfl
@[simp] theorem setPair_ax (d : Dev) (n : Nat) (x : StepPair) : (d.setPair n x).ax = d.ax := rfl
@[simp] theorem setPair_dl (d : Dev) (n : Nat) (x : StepPair) : (d.setPair n x).dl = d.dl := rfl
@[simp] theorem setPair_mods (d : Dev) (n : Nat) (x : StepPair) : (d.setPair n x).mods = d.mods := rfl
@[simp] theorem setPair_bad (d : Dev) (n : Nat) (x : StepPair) : (d.setPair n x).bad = d.bad := rfl
@[simp] theorem setPair_net (d : Dev) (n : Nat) (x : StepPair) : (d.setPair n x).net = d.net := rfl
@[simp] theorem setPair_pwr (d : Dev) (n : Nat) (x : StepPair) : (d.setPair n x).pwr = d.pwr := rfl

/-! ### setField -/

@[simp] theorem setField_regs (d : Dev) (x : Field) : (d.setField x).regs = d.regs := rfl
@[simp] theorem setField_out (d : Dev) (x : Field) : (d.setField x).out = d.out := rfl
@[simp] theorem setField_fresh (d : Dev) (x : Field) : (d.setField x).fresh = d.fresh := rfl
@[simp] theorem setField_rd (d : Dev) (x : Field) : (d.setField x).rd = d.rd := rfl
@[simp] theorem setField_ans (d : Dev) (x : Field) : (d.setField x).ans = d.ans := rfl
@[simp] theorem setField_esc (d : Dev) (x : Field) : (d.setField x).esc = d.esc := rfl
@[simp] theorem setField_rmt (d : Dev) (x : Field) : (d.setField x).rmt = d.rmt := rfl
@[simp] theorem setField_ses (d : Dev) (x : Field) : (d.setField x).ses = d.ses := rfl
@[simp] theorem setField_img (d : Dev) (x : Field) : (d.setField x).img = d.img := rfl
@[simp] theorem setField_rec (d : Dev) (x : Field) : (d.setField x).rec_ = d.rec_ := rfl
@[simp] theorem setField_grp (d : Dev) (x : Field) : (d.setField x).grp = d.grp := rfl
@[simp] theorem setField_conv (d : Dev) (x : Field) : (d.setField x).conv = d.conv := rfl
@[simp] theorem setField_masters (d : Dev) (x : Field) : (d.setField x).masters = d.masters := rfl
@[simp] theorem setField_trig (d : Dev) (x : Field) : (d.setField x).trig = d.trig := rfl
@[simp] theorem setField_lynx (d : Dev) (x : Field) : (d.setField x).lynx = d.lynx := rfl
@[simp] theorem setField_issue (d : Dev) (x : Field) : (d.setField x).issue = d.issue := rfl
@[simp] theorem setField_ax (d : Dev) (x : Field) : (d.setField x).ax = d.ax := rfl
@[simp] theorem setField_dl (d : Dev) (x : Field) : (d.setField x).dl = d.dl := rfl
@[simp] theorem setField_mods (d : Dev) (x : Field) : (d.setField x).mods = d.mods := rfl
@[simp] theorem setField_bad (d : Dev) (x : Field) : (d.setField x).bad = d.bad := rfl
@[simp] theorem setField_net (d : Dev) (x : Field) : (d.setField x).net = d.net := rfl
@[simp] theorem setField_pwr (d : Dev) (x : Field) : (d.setField x).pwr = d.pwr := rfl

/-! ### setFog -/

@[simp] theorem setFog_regs (d : Dev) (n : Nat) (x : FoGrp) : (d.setFog n x).regs = d.regs := rfl
@[simp] theorem setFog_out (d : Dev) (n : Nat) (x : FoGrp) : (d.setFog n x).out = d.out := rfl
@[simp] theorem setFog_fresh (d : Dev) (n : Nat) (x : FoGrp) : (d.setFog n x).fresh = d.fresh := rfl
@[simp] theorem setFog_rd (d : Dev) (n : Nat) (x : FoGrp) : (d.setFog n x).rd = d.rd := rfl
@[simp] theorem setFog_ans (d : Dev) (n : Nat) (x : FoGrp) : (d.setFog n x).ans = d.ans := rfl
@[simp] theorem setFog_esc (d : Dev) (n : Nat) (x : FoGrp) : (d.setFog n x).esc = d.esc := rfl
@[simp] theorem setFog_rmt (d : Dev) (n : Nat) (x : FoGrp) : (d.setFog n x).rmt = d.rmt := rfl
@[simp] theorem setFog_ses (d : Dev) (n : Nat) (x : FoGrp) : (d.setFog n x).ses = d.ses := rfl
@[simp] theorem setFog_img (d : Dev) (n : Nat) (x : FoGrp) : (d.setFog n x).img = d.img := rfl
@[simp] theorem setFog_rec (d : Dev) (n : Nat) (x : FoGrp) : (d.setFog n x).rec_ = d.rec_ := rfl
@[simp] theorem setFog_grp (d : Dev) (n : Nat) (x : FoGrp) : (d.setFog n x).grp = d.grp := rfl
@[simp] theorem setFog_conv (d : Dev) (n : Nat) (x : FoGrp) : (d.setFog n x).conv = d.conv := rfl
@[simp] theorem setFog_masters (d : Dev) (n : Nat) (x : FoGrp) : (d.setFog n x).masters = d.masters := rfl
@[simp] theorem setFog_trig (d : Dev) (n : Nat) (x : FoGrp) : (d.setFog n x).trig = d.trig := rfl
@[simp] theorem setFog_lynx (d : Dev) (n : Nat) (x : FoGrp) : (d.setFog n x).lynx = d.lynx := rfl
@[simp] theorem setFog_issue (d : Dev) (n : Nat) (x : FoGrp) : (d.setFog n x).issue = d.issue := rfl
@[simp] theorem setFog_ax (d : Dev) (n : Nat) (x : FoGrp) : (d.setFog n x).ax = d.ax := rfl
@[simp] theorem setFog_dl (d : Dev) (n : Nat) (x : FoGrp) : (d.setFog n x).dl = d.dl := rfl
@[simp] theorem setFog_mods (d : Dev) (n : Nat) (x : FoGrp) : (d.setFog n x).mods = d.mods := rfl
@[simp] theorem setFog_bad (d : Dev) (n : Nat) (x : FoGrp) : (d.setFog n x).bad = d.bad := rfl
@[simp] theorem setFog_net (d : Dev) (n : Nat) (x : FoGrp) : (d.setFog n x).net = d.net := rfl
@[simp] theorem setFog_pwr (d : Dev) (n : Nat) (x : FoGrp) : (d.setFog n x).pwr = d.pwr := rfl

/-! ### setPwm -/

@[simp] theorem setPwm_regs (d : Dev) (n : Nat) (x : PwmGrp) : (d.setPwm n x).regs = d.regs := rfl
@[simp] theorem setPwm_out (d : Dev) (n : Nat) (x : PwmGrp) : (d.setPwm n x).out = d.out := rfl
@[simp] theorem setPwm_fresh (d : Dev) (n : Nat) (x : PwmGrp) : (d.setPwm n x).fresh = d.fresh := rfl
@[simp] theorem setPwm_rd (d : Dev) (n : Nat) (x : PwmGrp) : (d.setPwm n x).rd = d.rd := rfl
@[simp] theorem setPwm_ans (d : Dev) (n : Nat) (x : PwmGrp) : (d.setPwm n x).ans = d.ans := rfl
@[simp] theorem setPwm_esc (d : Dev) (n : Nat) (x : PwmGrp) : (d.setPwm n x).esc = d.esc := rfl
@[simp] theorem setPwm_rmt (d : Dev) (n : Nat) (x : PwmGrp) : (d.setPwm n x).rmt = d.rmt := rfl
@[simp] theorem setPwm_ses (d : Dev) (n : Nat) (x : PwmGrp) : (d.setPwm n x).ses = d.ses := rfl
@[simp] theorem setPwm_img (d : Dev) (n : Nat) (x : PwmGrp) : (d.setPwm n x).img = d.img := rfl
@[simp] theorem setPwm_rec (d : Dev) (n : Nat) (x : PwmGrp) : (d.setPwm n x).rec_ = d.rec_ := rfl
@[simp] theorem setPwm_grp (d : Dev) (n : Nat) (x : PwmGrp) : (d.setPwm n x).grp = d.grp := rfl
@[simp] theorem setPwm_conv (d : Dev) (n : Nat) (x : PwmGrp) : (d.setPwm n x).conv = d.conv := rfl
@[simp] theorem setPwm_masters (d : Dev) (n : Nat) (x : PwmGrp) : (d.setPwm n x).masters = d.masters := rfl
@[simp] theorem setPwm_trig (d : Dev) (n : Nat) (x : PwmGrp) : (d.setPwm n x).trig = d.trig := rfl
@[simp] theorem setPwm_lynx (d : Dev) (n : Nat) (x : PwmGrp) : (d.setPwm n x).lynx = d.lynx := rfl
@[simp] theorem setPwm_issue (d : Dev) (n : Nat) (x : PwmGrp) : (d.setPwm n x).issue = d.issue := rfl
@[simp] theorem setPwm_ax (d : Dev) (n : Nat) (x : PwmGrp) : (d.setPwm n x).ax = d.ax := rfl
@[simp] theorem setPwm_dl (d : Dev) (n : Nat) (x : PwmGrp) : (d.setPwm n x).dl = d.dl := rfl
@[simp] theorem setPwm_mods (d : Dev) (n : Nat) (x : PwmGrp) : (d.setPwm n x).mods = d.mods := rfl
@[simp] theorem setPwm_bad (d : Dev) (n : Nat) (x : PwmGrp) : (d.setPwm n x).bad = d.bad := rfl
@[simp] theorem setPwm_net (d : Dev) (n : Nat) (x : PwmGrp) : (d.setPwm n x).net = d.net := rfl
@[simp] theorem setPwm_pwr (d : Dev) (n : Nat) (x : PwmGrp) : (d.setPwm n x).pwr = d.pwr := rfl

/-! ### setWave -/

@[simp] theorem setWave_regs (d : Dev) (n : Nat) (x : Wave) : (d.setWave n x).regs = d.regs := rfl
@[simp] theorem setWave_out (d : Dev) (n : Nat) (x : Wave) : (d.setWave n x).out = d.out := rfl
@[simp] theorem setWave_fresh (d : Dev) (n : Nat) (x : Wave) : (d.setWave n x).fresh = d.fresh := rfl
@[simp] theorem setWave_rd (d : Dev) (n : Nat) (x : Wave) : (d.setWave n x).rd = d.rd := rfl
@[simp] theorem setWave_ans (d : Dev) (n : Nat) (x : Wave) : (d.setWave n x).ans = d.ans := rfl
@[simp] theorem setWave_esc (d : Dev) (n : Nat) (x : Wave) : (d.setWave n x).esc = d.esc := rfl
@[simp] theorem setWave_rmt (d : Dev) (n : Nat) (x : Wave) : (d.setWave n x).rmt = d.rmt := rfl
@[simp] theorem setWave_ses (d : Dev) (n : Nat) (x : Wave) : (d.setWave n x).ses = d.ses := rfl
@[simp] theorem setWave_img (d : Dev) (n : Nat) (x : Wave) : (d.setWave n x).img = d.img := rfl
@[simp] theorem setWave_rec (d : Dev) (n : Nat) (x : Wave) : (d.setWave n x).rec_ = d.rec_ := rfl
@[simp] theorem setWave_grp (d : Dev) (n : Nat) (x : Wave) : (d.setWave n x).grp = d.grp := rfl
@[simp] theorem setWave_conv (d : Dev) (n : Nat) (x : Wave) : (d.setWave n x).conv = d.conv := rfl
@[simp] theorem setWave_masters (d : Dev) (n : Nat) (x : Wave) : (d.setWave n x).masters = d.masters := rfl
@[simp] theorem setWave_trig (d : Dev) (n : Nat) (x : Wave) : (d.setWave n x).trig = d.trig := rfl
@[simp] theorem setWave_lynx (d : Dev) (n : Nat) (x : Wave) : (d.setWave n x).lynx = d.lynx := rfl
@[simp] theorem setWave_issue (d : Dev) (n : Nat) (x : Wave) : (d.setWave n x).issue = d.issue := rfl
@[simp] theorem setWave_ax (d : Dev) (n : Nat) (x : Wave) : (d.setWave n x).ax = d.ax := rfl
@[simp] theorem setWave_dl (d : Dev) (n : Nat) (x : Wave) : (d.setWave n x).dl = d.dl := rfl
@[simp] theorem setWave_mods (d : Dev) (n : Nat) (x : Wave) : (d.setWave n x).mods = d.mods := rfl
@[simp] theorem setWave_bad (d : Dev) (n : Nat) (x : Wave) : (d.setWave n x).bad = d.bad := rfl
@[simp] theorem setWave_net (d : Dev) (n : Nat) (x : Wave) : (d.setWave n x).net = d.net := rfl
@[simp] theorem setWave_pwr (d : Dev) (n : Nat) (x : Wave) : (d.setWave n x).pwr = d.pwr := rfl

/-! ### setStp -/

@[simp] theorem setStp_regs (d : Dev) (n : Nat) (x : Stepper) : (d.setStp n x).regs = d.regs := rfl
@[simp] theorem setStp_out (d : Dev) (n : Nat) (x : Stepper) : (d.setStp n x).out = d.out := rfl
@[simp] theorem setStp_fresh (d : Dev) (n : Nat) (x : Stepper) : (d.setStp n x).fresh = d.fresh := rfl
@[simp] theorem setStp_rd (d : Dev) (n : Nat) (x : Stepper) : (d.setStp n x).rd = d.rd := rfl
@[simp] theorem setStp_ans (d : Dev) (n : Nat) (x : Stepper) : (d.setStp n x).ans = d.ans := rfl
@[simp] theorem setStp_esc (d : Dev) (n : Nat) (x : Stepper) : (d.setStp n x).esc = d.esc := rfl
@[simp] theorem setStp_rmt (d : Dev) (n : Nat) (x : Stepper) : (d.setStp n x).rmt = d.rmt := rfl
@[simp] theorem setStp_ses (d : Dev) (n : Nat) (x : Stepper) : (d.setStp n x).ses = d.ses := rfl
@[simp] theorem setStp_img (d : Dev) (n : Nat) (x : Stepper) : (d.setStp n x).img = d.img := rfl
@[simp] theorem setStp_rec (d : Dev) (n : Nat) (x : Stepper) : (d.setStp n x).rec_ = d.rec_ := rfl
@[simp] theorem setStp_grp (d : Dev) (n : Nat) (x : Stepper) : (d.setStp n x).grp = d.grp := rfl
@[simp] theorem setStp_conv (d : Dev) (n : Nat) (x : Stepper) : (d.setStp n x).conv = d.conv := rfl
@[simp] theorem setStp_masters (d : Dev) (n : Nat) (x : Stepper) : (d.setStp n x).masters = d.masters := rfl
@[simp] theorem setStp_trig (d : Dev) (n : Nat) (x : Stepper) : (d.setStp n x).trig = d.trig := rfl
@[simp] theorem setStp_lynx (d : Dev) (n : Nat) (x : Stepper) : (d.setStp n x).lynx = d.lynx := rfl
@[simp] theorem setStp_issue (d : Dev) (n : Nat) (x : Stepper) : (d.setStp n x).issue = d.issue := rfl
@[simp] theorem setStp_ax (d : Dev) (n : Nat) (x : Stepper) : (d.setStp n x).ax = d.ax := rfl
@[simp] theorem setStp_dl (d : Dev) (n : Nat) (x : Stepper) : (d.setStp n x).dl = d.dl := rfl
@[simp] theorem setStp_mods (d : Dev) (n : Nat) (x : Stepper) : (d.setStp n x).mods = d.mods := rfl
@[simp] theorem setStp_bad (d : Dev) (n : Nat) (x : Stepper) : (d.setStp n x).bad = d.bad := rfl
@[simp] theorem setStp_net (d : Dev) (n : Nat) (x : Stepper) : (d.setStp n x).net = d.net := rfl
@[simp] theorem setStp_pwr (d : Dev) (n : Nat) (x : Stepper) : (d.setStp n x).pwr = d.pwr := rfl

/-! ### setImg -/

@[simp] theorem setImg_regs (d : Dev) (x : Img) : (d.setImg x).regs = d.regs := rfl
@[simp] theorem setImg_out (d : Dev) (x : Img) : (d.setImg x).out = d.out := rfl
@[simp] theorem setImg_fresh (d : Dev) (x : Img) : (d.setImg x).fresh = d.fresh := rfl
@[simp] theorem setImg_rd (d : Dev) (x : Img) : (d.setImg x).rd = d.rd := rfl
@[simp] theorem setImg_ans (d : Dev) (x : Img) : (d.setImg x).ans = d.ans := rfl
@[simp] theorem setImg_esc (d : Dev) (x : Img) : (d.setImg x).esc = d.esc := rfl
@[simp] theorem setImg_rmt (d : Dev) (x : Img) : (d.setImg x).rmt = d.rmt := rfl
@[simp] theorem setImg_ses (d : Dev) (x : Img) : (d.setImg x).ses = d.ses := rfl
@[simp] theorem setImg_rec (d : Dev) (x : Img) : (d.setImg x).rec_ = d.rec_ := rfl
@[simp] theorem setImg_grp (d : Dev) (x : Img) : (d.setImg x).grp = d.grp := rfl
@[simp] theorem setImg_conv (d : Dev) (x : Img) : (d.setImg x).conv = d.conv := rfl
@[simp] theorem setImg_masters (d : Dev) (x : Img) : (d.setImg x).masters = d.masters := rfl
@[simp] theorem setImg_trig (d : Dev) (x : Img) : (d.setImg x).trig = d.trig := rfl
@[simp] theorem setImg_lynx (d : Dev) (x : Img) : (d.setImg x).lynx = d.lynx := rfl
@[simp] theorem setImg_issue (d : Dev) (x : Img) : (d.setImg x).issue = d.issue := rfl
@[simp] theorem setImg_ax (d : Dev) (x : Img) : (d.setImg x).ax = d.ax := rfl
@[simp] theorem setImg_dl (d : Dev) (x : Img) : (d.setImg x).dl = d.dl := rfl
@[simp] theorem setImg_mods (d : Dev) (x : Img) : (d.setImg x).mods = d.mods := rfl
@[simp] theorem setImg_io (d : Dev) (x : Img) : (d.setImg x).io = d.io := rfl
@[simp] theorem setImg_bad (d : Dev) (x : Img) : (d.setImg x).bad = d.bad := rfl
@[simp] theorem setImg_net (d : Dev) (x : Img) : (d.setImg x).net = d.net := rfl
@[simp] theorem setImg_pwr (d : Dev) (x : Img) : (d.setImg x).pwr = d.pwr := rfl

/-! ### setPwr -/

@[simp] theorem setPwr_regs (d : Dev) (x : Pwr) : (d.setPwr x).regs = d.regs := rfl
@[simp] theorem setPwr_out (d : Dev) (x : Pwr) : (d.setPwr x).out = d.out := rfl
@[simp] theorem setPwr_fresh (d : Dev) (x : Pwr) : (d.setPwr x).fresh = d.fresh := rfl
@[simp] theorem setPwr_rd (d : Dev) (x : Pwr) : (d.setPwr x).rd = d.rd := rfl
@[simp] theorem setPwr_ans (d : Dev) (x : Pwr) : (d.setPwr x).ans = d.ans := rfl
@[simp] theorem setPwr_esc (d : Dev) (x : Pwr) : (d.setPwr x).esc = d.esc := rfl
@[simp] theorem setPwr_rmt (d : Dev) (x : Pwr) : (d.setPwr x).rmt = d.rmt := rfl
@[simp] theorem setPwr_ses (d : Dev) (x : Pwr) : (d.setPwr x).ses = d.ses := rfl
@[simp] theorem setPwr_img (d : Dev) (x : Pwr) : (d.setPwr x).img = d.img := rfl
@[simp] theorem setPwr_rec (d : Dev) (x : Pwr) : (d.setPwr x).rec_ = d.rec_ := rfl
@[simp] theorem setPwr_grp (d : Dev) (x : Pwr) : (d.setPwr x).grp = d.grp := rfl
@[simp] theorem setPwr_conv (d : Dev) (x : Pwr) : (d.setPwr x).conv = d.conv := rfl
@[simp] theorem setPwr_masters (d : Dev) (x : Pwr) : (d.setPwr x).masters = d.masters := rfl
@[simp] theorem setPwr_trig (d : Dev) (x : Pwr) : (d.setPwr x).trig = d.trig := rfl
@[simp] theorem setPwr_lynx (d : Dev) (x : Pwr) : (d.setPwr x).lynx = d.lynx := rfl
@[simp] theorem setPwr_issue (d : Dev) (x : Pwr) : (d.setPwr x).issue = d.issue := rfl
@[simp] theorem setPwr_ax (d : Dev) (x : Pwr) : (d.setPwr x).ax = d.ax := rfl
@[simp] theorem setPwr_dl (d : Dev) (x : Pwr) : (d.setPwr x).dl = d.dl := rfl
@[simp] theorem setPwr_mods (d : Dev) (x : Pwr) : (d.setPwr x).mods = d.mods := rfl
@[simp] theorem setPwr_io (d : Dev) (x : Pwr) : (d.setPwr x).io = d.io := rfl
@[simp] theorem setPwr_bad (d : Dev) (x : Pwr) : (d.setPwr x).bad = d.bad := rfl
@[simp] theorem setPwr_net (d : Dev) (x : Pwr) : (d.setPwr x).net = d.net := rfl

/-! ### setCl -/

@[simp] theorem setCl_regs (d : Dev) (x : Cl) : (d.setCl x).regs = d.regs := rfl
@[simp] theorem setCl_out (d : Dev) (x : Cl) : (d.setCl x).out = d.out := rfl
@[simp] theorem setCl_fresh (d : Dev) (x : Cl) : (d.setCl x).fresh = d.fresh := rfl
@[simp] theorem setCl_rd (d : Dev) (x : Cl) : (d.setCl x).rd = d.rd := rfl
@[simp] theorem setCl_ans (d : Dev) (x : Cl) : (d.setCl x).ans = d.ans := rfl
@[simp] theorem setCl_esc (d : Dev) (x : Cl) : (d.setCl x).esc = d.esc := rfl
@[simp] theorem setCl_rmt (d : Dev) (x : Cl) : (d.setCl x).rmt = d.rmt := rfl
@[simp] theorem setCl_ses (d : Dev) (x : Cl) : (d.setCl x).ses = d.ses := rfl
@[simp] theorem setCl_img (d : Dev) (x : Cl) : (d.setCl x).img = d.img := rfl
@[simp] theorem setCl_rec (d : Dev) (x : Cl) : (d.setCl x).rec_ = d.rec_ := rfl
@[simp] theorem setCl_grp (d : Dev) (x : Cl) : (d.setCl x).grp = d.grp := rfl
@[simp] theorem setCl_conv (d : Dev) (x : Cl) : (d.setCl x).conv = d.conv := rfl
@[simp] theorem setCl_masters (d : Dev) (x : Cl) : (d.setCl x).masters = d.masters := rfl
@[simp] theorem setCl_trig (d : Dev) (x : Cl) : (d.setCl x).trig = d.trig := rfl
@[simp] theorem setCl_lynx (d : Dev) (x : Cl) : (d.setCl x).lynx = d.lynx := rfl
@[simp] theorem setCl_issue (d : Dev) (x : Cl) : (d.setCl x).issue = d.issue := rfl
@[simp] theorem setCl_ax (d : Dev) (x : Cl) : (d.setCl x).ax = d.ax := rfl
@[simp] theorem setCl_dl (d : Dev) (x : Cl) : (d.setCl x).dl = d.dl := rfl
@[simp] theorem setCl_mods (d : Dev) (x : Cl) : (d.setCl x).mods = d.mods := rfl
@[simp] theorem setCl_io (d : Dev) (x : Cl) : (d.setCl x).io = d.io := rfl
@[simp] theorem setCl_bad (d : Dev) (x : Cl) : (d.setCl x).bad = d.bad := rfl
@[simp] theorem setCl_pwr (d : Dev) (x : Cl) : (d.setCl x).pwr = d.pwr := rfl

/-! ### setMember -/

@[simp] theorem setMember_regs (d : Dev) (n : Nat) (x : Member) : (d.setMember n x).regs = d.regs := rfl
@[simp] theorem setMember_out (d : Dev) (n : Nat) (x : Member) : (d.setMember n x).out = d.out := rfl
@[simp] theorem setMember_fresh (d : Dev) (n : Nat) (x : Member) : (d.setMember n x).fresh = d.fresh := rfl
@[simp] theorem setMember_rd (d : Dev) (n : Nat) (x : Member) : (d.setMember n x).rd = d.rd := rfl
@[simp] theorem setMember_ans (d : Dev) (n : Nat) (x : Member) : (d.setMember n x).ans = d.ans := rfl
@[simp] theorem setMember_esc (d : Dev) (n : Nat) (x : Member) : (d.setMember n x).esc = d.esc := rfl
@[simp] theorem setMember_rmt (d : Dev) (n : Nat) (x : Member) : (d.setMember n x).rmt = d.rmt := rfl
@[simp] theorem setMember_ses (d : Dev) (n : Nat) (x : Member) : (d.setMember n x).ses = d.ses := rfl
@[simp] theorem setMember_img (d : Dev) (n : Nat) (x : Member) : (d.setMember n x).img = d.img := rfl
@[simp] theorem setMember_rec (d : Dev) (n : Nat) (x : Member) : (d.setMember n x).rec_ = d.rec_ := rfl
@[simp] theorem setMember_grp (d : Dev) (n : Nat) (x : Member) : (d.setMember n x).grp = d.grp := rfl
@[simp] theorem setMember_conv (d : Dev) (n : Nat) (x : Member) : (d.setMember n x).conv = d.conv := rfl
@[simp] theorem setMember_masters (d : Dev) (n : Nat) (x : Member) : (d.setMember n x).masters = d.masters := rfl
@[simp] theorem setMember_trig (d : Dev) (n : Nat) (x : Member) : (d.setMember n x).trig = d.trig := rfl
@[simp] theorem setMember_lynx (d : Dev) (n : Nat) (x : Member) : (d.setMember n x).lynx = d.lynx := rfl
@[simp] theorem setMember_issue (d : Dev) (n : Nat) (x : Member) : (d.setMember n x).issue = d.issue := rfl
@[simp] theorem setMember_ax (d : Dev) (n : Nat) (x : Member) : (d.setMember n x).ax = d.ax := rfl
@[simp] theorem setMember_dl (d : Dev) (n : Nat) (x : Member) : (d.setMember n x).dl = d.dl := rfl
@[simp] theorem setMember_mods (d : Dev) (n : Nat) (x : Member) : (d.setMember n x).mods = d.mods := rfl
@[simp] theorem setMember_io (d : Dev) (n : Nat) (x : Member) : (d.setMember n x).io = d.io := rfl
@[simp] theorem setMember_bad (d : Dev) (n : Nat) (x : Member) : (d.setMember n x).bad = d.bad := rfl
@[simp] theorem setMember_pwr (d : Dev) (n : Nat) (x : Member) : (d.setMember n x).pwr = d.pwr := rfl

/-! ### setEth -/

@[simp] theorem setEth_regs (d : Dev) (n : Nat) (x : EthPort) : (d.setEth n x).regs = d.regs := rfl
@[simp] theorem setEth_out (d : Dev) (n : Nat) (x : EthPort) : (d.setEth n x).out = d.out := rfl
@[simp] theorem setEth_fresh (d : Dev) (n : Nat) (x : EthPort) : (d.setEth n x).fresh = d.fresh := rfl
@[simp] theorem setEth_rd (d : Dev) (n : Nat) (x : EthPort) : (d.setEth n x).rd = d.rd := rfl
@[simp] theorem setEth_ans (d : Dev) (n : Nat) (x : EthPort) : (d.setEth n x).ans = d.ans := rfl
@[simp] theorem setEth_esc (d : Dev) (n : Nat) (x : EthPort) : (d.setEth n x).esc = d.esc := rfl
@[simp] theorem setEth_rmt (d : Dev) (n : Nat) (x : EthPort) : (d.setEth n x).rmt = d.rmt := rfl
@[simp] theorem setEth_ses (d : Dev) (n : Nat) (x : EthPort) : (d.setEth n x).ses = d.ses := rfl
@[simp] theorem setEth_img (d : Dev) (n : Nat) (x : EthPort) : (d.setEth n x).img = d.img := rfl
@[simp] theorem setEth_rec (d : Dev) (n : Nat) (x : EthPort) : (d.setEth n x).rec_ = d.rec_ := rfl
@[simp] theorem setEth_grp (d : Dev) (n : Nat) (x : EthPort) : (d.setEth n x).grp = d.grp := rfl
@[simp] theorem setEth_conv (d : Dev) (n : Nat) (x : EthPort) : (d.setEth n x).conv = d.conv := rfl
@[simp] theorem setEth_masters (d : Dev) (n : Nat) (x : EthPort) : (d.setEth n x).masters = d.masters := rfl
@[simp] theorem setEth_trig (d : Dev) (n : Nat) (x : EthPort) : (d.setEth n x).trig = d.trig := rfl
@[simp] theorem setEth_lynx (d : Dev) (n : Nat) (x : EthPort) : (d.setEth n x).lynx = d.lynx := rfl
@[simp] theorem setEth_issue (d : Dev) (n : Nat) (x : EthPort) : (d.setEth n x).issue = d.issue := rfl
@[simp] theorem setEth_ax (d : Dev) (n : Nat) (x : EthPort) : (d.setEth n x).ax = d.ax := rfl
@[simp] theorem setEth_dl (d : Dev) (n : Nat) (x : EthPort) : (d.setEth n x).dl = d.dl := rfl
@[simp] theorem setEth_mods (d : Dev) (n : Nat) (x : EthPort) : (d.setEth n x).mods = d.mods := rfl
@[simp] theorem setEth_io (d : Dev) (n : Nat) (x : EthPort) : (d.setEth n x).io = d.io := rfl
@[simp] theorem setEth_bad (d : Dev) (n : Nat) (x : EthPort) : (d.setEth n x).bad = d.bad := rfl
@[simp] theorem setEth_pwr (d : Dev) (n : Nat) (x : EthPort) : (d.setEth n x).pwr = d.pwr := rfl

/-! ### setTr -/

@[simp] theorem setTr_regs (d : Dev) (n : Nat) (x : Trig) : (d.setTr n x).regs = d.regs := rfl
@[simp] theorem setTr_out (d : Dev) (n : Nat) (x : Trig) : (d.setTr n x).out = d.out := rfl
@[simp] theorem setTr_fresh (d : Dev) (n : Nat) (x : Trig) : (d.setTr n x).fresh = d.fresh := rfl
@[simp] theorem setTr_rd (d : Dev) (n : Nat) (x : Trig) : (d.setTr n x).rd = d.rd := rfl
@[simp] theorem setTr_ans (d : Dev) (n : Nat) (x : Trig) : (d.setTr n x).ans = d.ans := rfl
@[simp] theorem setTr_esc (d : Dev) (n : Nat) (x : Trig) : (d.setTr n x).esc = d.esc := rfl
@[simp] theorem setTr_rmt (d : Dev) (n : Nat) (x : Trig) : (d.setTr n x).rmt = d.rmt := rfl
@[simp] theorem setTr_ses (d : Dev) (n : Nat) (x : Trig) : (d.setTr n x).ses = d.ses := rfl
@[simp] theorem setTr_img (d : Dev) (n : Nat) (x : Trig) : (d.setTr n x).img = d.img := rfl
@[simp] theorem setTr_rec (d : Dev) (n : Nat) (x : Trig) : (d.setTr n x).rec_ = d.rec_ := rfl
@[simp] theorem setTr_grp (d : Dev) (n : Nat) (x : Trig) : (d.setTr n x).grp = d.grp := rfl
@[simp] theorem setTr_conv (d : Dev) (n : Nat) (x : Trig) : (d.setTr n x).conv = d.conv := rfl
@[simp] theorem setTr_masters (d : Dev) (n : Nat) (x : Trig) : (d.setTr n x).masters = d.masters := rfl
@[simp] theorem setTr_lynx (d : Dev) (n : Nat) (x : Trig) : (d.setTr n x).lynx = d.lynx := rfl
@[simp] theorem setTr_issue (d : Dev) (n : Nat) (x : Trig) : (d.setTr n x).issue = d.issue := rfl
@[simp] theorem setTr_ax (d : Dev) (n : Nat) (x : Trig) : (d.setTr n x).ax = d.ax := rfl
@[simp] theorem setTr_dl (d : Dev) (n : Nat) (x : Trig) : (d.setTr n x).dl = d.dl := rfl
@[simp] theorem setTr_mods (d : Dev) (n : Nat) (x : Trig) : (d.setTr n x).mods = d.mods := rfl
@[simp] theorem setTr_io (d : Dev) (n : Nat) (x : Trig) : (d.setTr n x).io = d.io := rfl
@[simp] theorem setTr_bad (d : Dev) (n : Nat) (x : Trig) : (d.setTr n x).bad = d.bad := rfl
@[simp] theorem setTr_net (d : Dev) (n : Nat) (x : Trig) : (d.setTr n x).net = d.net := rfl
@[simp] theorem setTr_pwr (d : Dev) (n : Nat) (x : Trig) : (d.setTr n x).pwr = d.pwr := rfl

end Sys2Proof.Machine
end

