-- ==== Sys2Proof/Laws/Frames.lean ====
section
/-!
SUPPORT. Frame laws of shared operations: what the work at the end of a frame leaves as it is.
-/
set_option linter.unusedSimpArgs false

namespace Sys2Proof.Machine

/-- A property of the state that every element's work keeps holds behind all of it. -/
theorem forEach_keeps {σ α β : Type} (π : σ → β) (l : List α) (f : σ → α → σ) (s : σ) (h : ∀ s a, π (f s a) = π s) :
    π (forEach l f s) = π s := by
  induction l generalizing s with
  | nil => rfl
  | cons a r ih => exact (ih (f s a)).trans (h s a)

/-- The same for a list that fulfils a condition. -/
theorem forEach_ind {σ α : Type} (P : σ → Prop) (l : List α) (f : σ → α → σ) (s : σ) (h0 : P s) (h : ∀ s a, a ∈ l → P s → P (f s a)) :
    P (forEach l f s) := by
  induction l generalizing s with
  | nil => exact h0
  | cons a r ih => exact ih (f s a) (h s a List.mem_cons_self h0) (fun s b hb => h s b (List.mem_cons_of_mem _ hb))

/-! ### The escapement at the end of a frame -/

@[simp] theorem esc_forEach {α : Type} (l : List α) (f : Dev → α → Dev) (d : Dev) (h : ∀ d a, (f d a).esc = d.esc) :
    (forEach l f d).esc = d.esc := forEach_keeps (fun x => x.esc) l f d h

@[simp] theorem esc_axState (d : Dev) (n : Nat) (st : AState) : (axState d n st).esc = d.esc := by
  simp only [axState]; (repeat' split) <;> simp [apply_ite Dev.esc]
@[simp] theorem esc_foUpdate (d : Dev) : (foUpdate d).esc = d.esc := by
  simp only [foUpdate]; (repeat' split) <;> simp [apply_ite Dev.esc]
@[simp] theorem esc_foApply (d : Dev) (g : Nat) : (foApply d g).esc = d.esc := by
  simp only [foApply]; (repeat' split) <;> simp [apply_ite Dev.esc]
@[simp] theorem esc_foSet (d : Dev) (m v : Word) : (foSet d m v).esc = d.esc := by
  simp only [foSet]; (repeat' split) <;> simp [apply_ite Dev.esc]
@[simp] theorem esc_foSetBit (d : Dev) (k : Nat) (v : Bool) : (foSetBit d k v).esc = d.esc := by
  simp only [foSetBit]; (repeat' split) <;> simp [apply_ite Dev.esc]
@[simp] theorem esc_axBrake (d : Dev) (n : Nat) (v : Bool) : (axBrake d n v).esc = d.esc := by
  simp only [axBrake]; (repeat' split) <;> simp [apply_ite Dev.esc]
@[simp] theorem esc_pwmRun (d : Dev) (n : Nat) (v : Bool) : (pwmRun d n v).esc = d.esc := by
  simp only [pwmRun]; (repeat' split) <;> simp [apply_ite Dev.esc]
@[simp] theorem esc_axOutputs (d : Dev) (n : Nat) (v : Bool) : (axOutputs d n v).esc = d.esc := by
  simp only [axOutputs]; (repeat' split) <;> simp [apply_ite Dev.esc]
@[simp] theorem esc_axTorqueOff (d : Dev) (n : Nat) : (axTorqueOff d n).esc = d.esc := by
  simp only [axTorqueOff]; (repeat' split) <;> simp [apply_ite Dev.esc]
@[simp] theorem esc_axRamp (d : Dev) (n : Nat) (a j : Rat) : (axRamp d n a j).esc = d.esc := by
  simp only [axRamp]; (repeat' split) <;> simp [apply_ite Dev.esc]
@[simp] theorem esc_axFaults (d : Dev) (n : Nat) (l : List (Nat × Int)) : (axFaults d n l).esc = d.esc := by
  simp only [axFaults]; (repeat' split) <;> simp [apply_ite Dev.esc]
@[simp] theorem esc_axZero (d : Dev) (n : Nat) : (axZero d n).esc = d.esc := by
  simp only [axZero]; (repeat' split) <;> simp [apply_ite Dev.esc]
@[simp] theorem esc_axMissing (d : Dev) (n : Nat) : (axMissing d n).esc = d.esc := by
  simp only [axMissing]; (repeat' split) <;> simp [apply_ite Dev.esc]
@[simp] theorem esc_axMinorEnd (d : Dev) (n : Nat) : (axMinorEnd d n).esc = d.esc := by
  simp only [axMinorEnd]; (repeat' split) <;> simp [apply_ite Dev.esc]
@[simp] theorem esc_axFollow (d : Dev) (n : Nat) : (axFollow d n).esc = d.esc := by
  simp only [axFollow]; (repeat' split) <;> simp [apply_ite Dev.esc]
@[simp] theorem esc_axRegs (d : Dev) (n : Nat) : (axRegs d n).esc = d.esc := by
  simp only [axRegs]; (repeat' split) <;> simp [apply_ite Dev.esc]
@[simp] theorem esc_axEndFrame (d : Dev) (n : Nat) : (axEndFrame d n).esc = d.esc := by
  simp only [axEndFrame]; (repeat' split) <;> simp [apply_ite Dev.esc]
@[simp] theorem esc_logSample (d : Dev) (c k : Nat) (l : List Byte) : (logSample d c k l).esc = d.esc := rfl
@[simp] theorem esc_posEnd (d : Dev) (p k : Nat) : (posEnd d p k).esc = d.esc := by
  simp only [posEnd]; (repeat' split) <;> simp [apply_ite Dev.esc]
@[simp] theorem esc_ringBreak (d : Dev) (p : Nat) : (ringBreak d p).esc = d.esc := by
  simp only [ringBreak]; (repeat' split) <;> simp [apply_ite Dev.esc]
@[simp] theorem esc_ringRestored (d : Dev) (p : Nat) : (ringRestored d p).esc = d.esc := by
  simp only [ringRestored]; (repeat' split) <;> simp [apply_ite Dev.esc]
@[simp] theorem esc_ringEnd (d : Dev) (p : Nat) : (ringEnd d p).esc = d.esc := by
  simp only [ringEnd]; (repeat' split) <;> simp [apply_ite Dev.esc]
@[simp] theorem esc_dlCycleEnd (d : Dev) : (dlCycleEnd d).esc = d.esc := by
  simp only [dlCycleEnd]; (repeat' split) <;> simp [apply_ite Dev.esc]
@[simp] theorem esc_minorEnd (d : Dev) : (minorEnd d).esc = d.esc := by
  simp only [minorEnd]; (repeat' split) <;> simp [apply_ite Dev.esc]
@[simp] theorem esc_writeFrame (d : Dev) (n : Nat) : (writeFrame d n).esc = d.esc := by
  simp only [writeFrame]; (repeat' split) <;> simp [apply_ite Dev.esc]
@[simp] theorem esc_flushRecords (d : Dev) (n : Nat) : (flushRecords d n).esc = d.esc := by
  simp only [flushRecords]; (repeat' split) <;> simp [apply_ite Dev.esc]
@[simp] theorem esc_frameEnd (d : Dev) : (frameEnd d).esc = d.esc := by
  simp only [frameEnd]; (repeat' split) <;> simp [apply_ite Dev.esc]

end Sys2Proof.Machine
end

