-- ==== Sys2Proof/Laws/Mail.lean ====
section
/-!
SUPPORT. Laws of mailbox commands taken as rows of their own: the fields of their requests, and what a command that passes its checks
does.
-/
namespace Sys2Proof.Machine

theorem ofLe_le (n v : Nat) : ofLe (le n v) = v % 256 ^ n := by
  induction n generalizing v with
  | zero => simp [le, ofLe, Nat.mod_one]
  | succ n ih =>
    rw [Nat.pow_succ', Nat.mod_mul, ← ih (v / 256)]
    simp [le, ofLe, BitVec.toNat_ofNat]

@[simp] theorem length_le (n v : Nat) : (le n v).length = n := by
  induction n generalizing v with
  | zero => rfl
  | succ n ih => simp [le, ih]

section Fields
variable (ses seq cmd eff : Nat) (pay : List Byte)

@[simp] theorem mk_pay : (mkRequest ses seq cmd eff pay).pay = pay := by
  simp [mkRequest, Request.pay, le]

theorem mk_ses (h : ses < 256) : (mkRequest ses seq cmd eff pay).ses = ses := by
  simp [mkRequest, Request.ses, leAt, le, ofLe]; omega

theorem mk_cmd (h : cmd < 65536) : (mkRequest ses seq cmd eff pay).cmd = cmd := by
  simp [mkRequest, Request.cmd, leAt, le, ofLe]; omega

@[simp] theorem mk_ver : (mkRequest ses seq cmd eff pay).ver = 0x0302 := by
  simp [mkRequest, Request.ver, leAt, le, ofLe]

@[simp] theorem mk_flags : (mkRequest ses seq cmd eff pay).flags = 0 := by
  simp [mkRequest, Request.flags, leAt, le, ofLe]

theorem mk_effect (h : eff < 2 ^ 48) : (mkRequest ses seq cmd eff pay).effect = eff := by
  simp [mkRequest, Request.effect, leAt, le, ofLe]; omega

end Fields

section Rows
variable (d : Dev) (ses : Fin 32) (cmd : Nat) (pay : List Byte)

@[simp] theorem row_pay : (rowRequest d ses cmd pay).pay = pay := mk_pay _ _ _ _ _
@[simp] theorem row_ses : (rowRequest d ses cmd pay).ses = ses := mk_ses _ _ _ _ _ (by omega)
theorem row_cmd (h : cmd < 65536) : (rowRequest d ses cmd pay).cmd = cmd := mk_cmd _ _ _ _ _ h
@[simp] theorem row_ver : (rowRequest d ses cmd pay).ver = 0x0302 := mk_ver _ _ _ _ _
theorem row_effect (h : d.now < 2 ^ 48) : (rowRequest d ses cmd pay).effect = d.now := mk_effect _ _ _ _ _ h
end Rows

/-- A command that is accepted acts, and its answer stands. -/
theorem mail_accept (s : State) (ses : Fin 32) (cmd : Nat) (pay : List Byte) (a : Ans) (hp : s.blk.dev.has 1 = true) (hc : cmd < 65536)
    (hs : stateCheck s.blk.dev cmd = none) (ha : cmdCheck s.blk s.blk.view (rowRequest s.blk.dev ses cmd pay) s.blk.dev.now = a)
    (hg : a.good = true) :
    s.act 1 (runRow ses cmd pay) =
      { s with blk := { cmdAct { s.blk with dev := drawCredits s.blk.dev (rowRequest s.blk.dev ses cmd pay) }
                          (rowRequest s.blk.dev ses cmd pay) s.blk.dev.esc.majAt with
          dev := (cmdAct { s.blk with dev := drawCredits s.blk.dev (rowRequest s.blk.dev ses cmd pay) }
                          (rowRequest s.blk.dev ses cmd pay) s.blk.dev.esc.majAt).dev.settle ses cmd s.blk.dev.now a } } := by
  unfold State.act
  rw [if_pos hp]
  unfold runRow runReq
  simp only [row_cmd _ _ _ _ hc, hs, row_ses]
  simp only [ha, hg, if_true]

/-- A command that is refused changes nothing but what its refusal records; its answer stands. -/
theorem mail_refuse (s : State) (ses : Fin 32) (cmd : Nat) (pay : List Byte) (a : Ans) (hp : s.blk.dev.has 1 = true) (hc : cmd < 65536)
    (hs : stateCheck s.blk.dev cmd = none) (ha : cmdCheck s.blk s.blk.view (rowRequest s.blk.dev ses cmd pay) s.blk.dev.now = a)
    (hg : a.good = false) :
    s.act 1 (runRow ses cmd pay) =
      { s with blk := { s.blk with
          dev := (refusal s.blk (rowRequest s.blk.dev ses cmd pay) s.blk.dev).settle ses cmd s.blk.dev.now a } } := by
  unfold State.act
  rw [if_pos hp]
  unfold runRow runReq
  simp only [row_cmd _ _ _ _ hc, hs, row_ses]
  simp [ha, hg]

/-- Only `seg.append` draws credits. -/
theorem drawCredits_other (d : Dev) (r : Request) (h : r.cmd ≠ 0x0501) : drawCredits d r = d := by
  simp [drawCredits, creditsOf, h]
end Sys2Proof.Machine
end

