-- ==== Sys2Proof/Laws/Tile.lean ====
section
/-!
SUPPORT. Laws of the loop tiles: what issuing an instruction does, said once for every instruction.
-/
namespace Sys2Proof.Machine

@[simp] theorem tile_setTile_same (b : Blk) (n : Nat) (t : Tile) : (b.setTile n t).tile n = t := by
  simp [Blk.tile, Blk.setTile]

theorem tile_setTile_ne (b : Blk) {n m : Nat} (t : Tile) (h : m ≠ n) : (b.setTile n t).tile m = b.tile m := by
  simp [Blk.tile, Blk.setTile, tget_tset_ne _ _ _ h]

@[simp] theorem dev_setTile (b : Blk) (n : Nat) (t : Tile) : (b.setTile n t).dev = b.dev := rfl
@[simp] theorem was_setTile (b : Blk) (n : Nat) (t : Tile) : (b.setTile n t).was = b.was := rfl
@[simp] theorem saf_setTile (b : Blk) (n : Nat) (t : Tile) : (b.setTile n t).saf = b.saf := rfl

/-! ### Context and run of a tile -/

@[simp] theorem ctx_setCtx (t : Tile) (c : TCtx) : (t.setCtx c).ctx = c := by
  unfold Tile.setCtx Tile.ctx; split <;> simp_all

@[simp] theorem inEvent_setCtx (t : Tile) (c : TCtx) : (t.setCtx c).inEvent = t.inEvent := by unfold Tile.setCtx; split <;> rfl
@[simp] theorem heldTrig_setCtx (t : Tile) (c : TCtx) : (t.setCtx c).heldTrig = t.heldTrig := by unfold Tile.setCtx; split <;> rfl
@[simp] theorem run_setCtx (t : Tile) (c : TCtx) : (t.setCtx c).run = t.run := by unfold Tile.setCtx Tile.run; split <;> simp_all
@[simp] theorem cyc_setCtx (t : Tile) (c : TCtx) : (t.setCtx c).cyc = t.cyc := by unfold Tile.setCtx; split <;> rfl
@[simp] theorem pipe_setCtx (t : Tile) (c : TCtx) : (t.setCtx c).pipe = t.pipe := by unfold Tile.setCtx; split <;> rfl
@[simp] theorem data_setCtx (t : Tile) (c : TCtx) : (t.setCtx c).data = t.data := by unfold Tile.setCtx; split <;> rfl
@[simp] theorem ctx_result (t : Tile) (l : Nat) (d : TDest) (v : Acc) : (t.result l d v).ctx = t.ctx := rfl
@[simp] theorem inEvent_result (t : Tile) (l : Nat) (d : TDest) (v : Acc) : (t.result l d v).inEvent = t.inEvent := rfl
@[simp] theorem heldTrig_result (t : Tile) (l : Nat) (d : TDest) (v : Acc) : (t.result l d v).heldTrig = t.heldTrig := rfl

/-- Time passes for the tile and for the slot it runs; everything else stays. -/
theorem tick_keeps (t : Tile) (n : Nat) :
    (t.tick n).ctx = t.ctx ∧ (t.tick n).inEvent = t.inEvent ∧ (t.tick n).heldTrig = t.heldTrig ∧ (t.tick n).pipe = t.pipe ∧
    (t.tick n).data = t.data ∧ (t.tick n).cyc = t.cyc + n := by
  unfold Tile.tick
  dsimp only
  split
  · exact ⟨rfl, rfl, rfl, rfl, rfl, rfl⟩
  · cases h : t.inEvent <;> simp [Tile.setRun, Tile.ctx, h]

theorem ctx_tick (t : Tile) (n : Nat) : (t.tick n).ctx = t.ctx := (tick_keeps t n).1
theorem inEvent_tick (t : Tile) (n : Nat) : (t.tick n).inEvent = t.inEvent := (tick_keeps t n).2.1
theorem heldTrig_tick (t : Tile) (n : Nat) : (t.tick n).heldTrig = t.heldTrig := (tick_keeps t n).2.2.1

/-- Time and the context's registers do not meet. -/
theorem tick_setCtx (t : Tile) (c : TCtx) (n : Nat) : (t.tick n).setCtx c = (t.setCtx c).tick n := by
  cases h : t.inEvent <;> cases h1 : t.mainRun <;> cases h2 : t.eventRun <;>
    simp [Tile.tick, Tile.setRun, Tile.setCtx, Tile.run, h, h1, h2]

/-- Landing moves no context, no trigger and no delay slot. -/
theorem landOne_keeps (t : Tile) (w : TWrite) :
    (landOne t w).inEvent = t.inEvent ∧ (landOne t w).heldTrig = t.heldTrig ∧ (landOne t w).ctx.delay = t.ctx.delay := by
  obtain ⟨due, ev, dest, val⟩ := w
  unfold landOne
  cases dest <;> dsimp only <;> (repeat' split) <;> simp [Tile.ctx, landCtx] <;> split <;> simp_all

theorem landAll_keeps (cyc : Nat) (l : List TWrite) (t : Tile) :
    (landAll cyc t l).1.inEvent = t.inEvent ∧ (landAll cyc t l).1.heldTrig = t.heldTrig ∧ (landAll cyc t l).1.ctx.delay = t.ctx.delay := by
  induction l generalizing t with
  | nil => exact ⟨rfl, rfl, rfl⟩
  | cons w r ih =>
    unfold landAll; split
    · have h := landOne_keeps t w
      have := ih (landOne t w)
      exact ⟨this.1.trans h.1, this.2.1.trans h.2.1, this.2.2.trans h.2.2⟩
    · exact ⟨rfl, rfl, rfl⟩

theorem land_keeps (t : Tile) : t.land.inEvent = t.inEvent ∧ t.land.heldTrig = t.heldTrig ∧ t.land.ctx.delay = t.ctx.delay := by
  have h := landAll_keeps t.cyc t.pipe t
  exact ⟨h.1, h.2.1, h.2.2⟩

/-! ### Issue -/

/-- An instruction that issues normally, accesses nothing it may not and keeps control: the tile after it. -/
theorem issue_normal (t : Tile) (k : Nat) (op : Tile → TStep) (hr : t.ready) (hv : (op t.land).2 = false)
    (hd : (op t.land).1.ctx.delay = 0) :
    t.issue k op = (((op t.land).1.tick k).setCtx (nextPc (op t.land).1.ctx), []) := by
  obtain ⟨h1, h2, -⟩ := hr
  have h3 := (land_keeps t).2.2
  rw [h2] at h3
  simp [Tile.issue, h1, hv, h3, Tile.advance, ctx_tick, hd]

/-- The same for an instruction that leaves two delay slots (R194). -/
theorem issue_delayed (t : Tile) (k : Nat) (op : Tile → TStep) (hr : t.ready) (hv : (op t.land).2 = false)
    (hd : (op t.land).1.ctx.delay = 2) :
    t.issue k op = (((op t.land).1.tick k).setCtx { (op t.land).1.ctx with pc := (op t.land).1.ctx.pc + 1 }, []) := by
  obtain ⟨h1, h2, -⟩ := hr
  have h3 := (land_keeps t).2.2
  rw [h2] at h3
  simp [Tile.issue, h1, hv, h3, Tile.advance, ctx_tick, hd]

theorem tileTake_quiet (b : Blk) (n : Nat) (h : (b.tile n).inEvent = false → 0 < (b.tile n).main.delay ∨ (b.tile n).heldTrig = []) :
    tileTake b n = b := by
  unfold tileTake
  cases he : (b.tile n).inEvent
  · rcases h he with h | h
    · simp [h]
    · dsimp only; rw [h]; simp
  · simp [he]

/-- A tile command whose instruction issues normally. -/
theorem issue_state (s : State) (n : Fin 16) (k : Nat) (op : Tile → TStep) (hp : s.blk.dev.has (3 + n / 4) = true)
    (hr : (s.blk.tile n).ready) (hv : (op (s.blk.tile n).land).2 = false) (hd : (op (s.blk.tile n).land).1.ctx.delay = 0)
    (hi : (op (s.blk.tile n).land).1.inEvent = (s.blk.tile n).land.inEvent)
    (ht : (op (s.blk.tile n).land).1.heldTrig = (s.blk.tile n).land.heldTrig) :
    s.issue n k op =
      { s with blk := s.blk.setTile n (((op (s.blk.tile n).land).1.tick k).setCtx (nextPc (op (s.blk.tile n).land).1.ctx)) } := by
  have hk := land_keeps (s.blk.tile n)
  simp only [State.issue, State.act, hp, if_true, issue_normal _ k op hr hv hd, tileRun, forEach, List.foldl]
  rw [tileTake_quiet]
  intro he
  simp [inEvent_tick, hi, hk.1] at he
  simp [heldTrig_tick, ht, hk.2.1, hr.2.2 he]

/-- What a state says after one tile has moved. -/
theorem onlyTile_setTile (s : State) (n : Nat) (t : Tile) : s.onlyTile { s with blk := s.blk.setTile n t } n :=
  ⟨rfl, rfl, rfl, rfl, fun _ h => tile_setTile_ne _ t h⟩

/-! ### The tiles' memories keep their canonical form -/

/-- A fold of updates that each keep the canonical form keeps it. -/
theorem foldl_twf {α β : Type} [DecidableEq α] (d : α) (f : Tab α → β → Tab α) (hf : ∀ t x, twf d t = true → twf d (f t x) = true)
    (l : List β) (t : Tab α) (h : twf d t = true) : twf d (l.foldl f t) = true := by
  induction l generalizing t with
  | nil => exact h
  | cons x r ih => exact ih _ (hf t x h)

/-- Activation leaves both memories in it; a store keeps it; both memories of a tile that holds nothing have it. -/
theorem loadTile_twf (im : Image) (n : Nat) : twf 0 (loadTile im n).data = true ∧ twf 0 (loadTile im n).prog = true := by
  refine ⟨foldl_twf 0 _ (fun t x h => ?_) _ _ rfl, foldl_twf 0 _ (fun t x h => tfill_twf 0 _ _ _ h) _ _ rfl⟩
  exact foldl_twf 0 _ (fun t y h => tfill_twf 0 _ _ _ h) _ _ h

theorem store_twf (t : Tile) (a : Nat) (v : DWord) (h : twf 0 t.data = true) : twf 0 (t.store a v).data = true := by
  unfold Tile.store
  split
  · exact tset_twf 0 _ _ _ h
  · exact h

theorem reset_twf (n : Nat) : twf 0 (State.reset.blk.tile n).data = true ∧ twf 0 (State.reset.blk.tile n).prog = true := ⟨rfl, rfl⟩

end Sys2Proof.Machine
end

