-- ==== Sys2Proof/Tests/Slice0.lean ====
section
/-!
SUPPORT. Tests: terms that WellFormed refuses, words of tile instructions written out from the spec, and witnesses for the hypotheses of
the statements.
-/
open Sys2Proof Sys2Proof.Machine Sys2Proof.Machine.Fld
namespace Sys2Proof.Tests

/-! ### Terms that WellFormed refuses, one for each check, and their neighbours that it takes -/

theorem test_wf_access : WellFormed (.registerWrite .bar2 0 3 0 0) = false ∧ WellFormed (.registerWrite .bar2 0 8 0 0) = true ∧
    WellFormed (.readClear .bar2 (2 ^ 32) 4 0 0) = false ∧ WellFormed (.loRegisterRead .bar2 0 16 0) = false := by decide

theorem test_wf_slots : WellFormed (.pcieDoorbell 0 1 [[]] 0) = false ∧ WellFormed (.rspHeadWrite 0 1 [[]] 0) = false ∧
    WellFormed (.pcieDoorbell 0 1 [List.replicate 256 0] 0) = true := by decide +kernel

theorem test_wf_requests : WellFormed (.spiWriteRequest (List.replicate 31 0) 0) = false ∧ WellFormed (.spiWriteRequest (List.replicate 257 0) 0) = false ∧
    WellFormed (.ethernetRequest 0 0 (List.replicate 1501 0) 0) = false ∧ WellFormed (.replayLogEntry { cls := 16 } 0) = false := by decide +kernel

theorem test_wf_parts : WellFormed (.loadImageData 0 0 1 []) = false ∧ WellFormed (.loadImageData 0 0 1 (List.replicate 213 0)) = false ∧
    WellFormed (.loadImageData 0 0 1 (List.replicate 212 0)) = true ∧ WellFormed (.safetyParamPutData 0 0 1 []) = false := by decide +kernel

theorem test_wf_counts : WellFormed (.cellStartTogether 0 0 []) = false ∧ WellFormed (.startReq 0 0 []) = false ∧
    WellFormed (.startReq 0 0 (List.replicate 13 0)) = false ∧ WellFormed (.segAppend 0 0 4 []) = false ∧ WellFormed (.segAppend 0 0 0 []) = false ∧
    WellFormed (.armOverride 0 0 20001) = false ∧ WellFormed (.armOverride 0 0 20000) = true := by decide

theorem test_wf_operands : WellFormed (.ld 0 0 { m := 1 }) = false ∧ WellFormed (.ld 0 0 { m := 1, mode := .mod }) = true ∧
    WellFormed (.ld2 0 0 1 { p := 1, q := 1 }) = false ∧ WellFormed (.ld2 0 0 1 { m := 1 }) = false ∧
    WellFormed (.ld2 0 0 1 { m := 1, qmode := .mod }) = true := by decide

theorem test_wf_link : WellFormed (.sampleRecord 0 0 0 0 true (List.replicate 47 0)) = false ∧ WellFormed (.capRecord 0 0 0 0 true []) = false ∧
    WellFormed (.calRecord 0 0 0 0 true []) = false ∧ WellFormed (.faultRecord 0 0 0 0 true []) = false ∧
    WellFormed (.moduleMarker 0 0 true true (2 ^ 32) 0 0 0 true 0) = false ∧ WellFormed (.moduleMarker 0 0 true true 0 256 0 0 true 0) = false ∧
    WellFormed (.moduleCommandRecord 0 0 0 (List.replicate 65 0) true 0) = false ∧
    WellFormed (.moduleSampleInstant 0 0 { cur := List.replicate 7 0 }) = false := by decide +kernel

theorem test_wf_samples : WellFormed (.localSampleBlockReady 0 0 (List.replicate 17 (0, true))) = false ∧
    WellFormed (.serialFrame 0 true (List.replicate 65 true) 0) = false := by decide +kernel

theorem test_wf_frames : WellFormed (.safeFrame false 0 (List.replicate 13 0)) = false ∧ WellFormed (.ethernetFrameReceive 0 0 (List.replicate 13 0)) = false ∧
    WellFormed (.queueHead 0 0 {} 0) = false ∧ WellFormed (.canFrameReceived 0 0 { ident := 2048 }) = false ∧
    WellFormed (.canFrameReceived 0 0 { ident := 2048, xtd := true }) = true ∧ WellFormed (.canFrameReceived 0 0 { dlc := 16 }) = false ∧
    WellFormed (.ioWriteCan 0 0 0 0 0 (List.replicate 65 0)) = false := by decide +kernel

theorem test_wf_power : WellFormed (.fieldSupply 0 1024) = false ∧ WellFormed (.thermal 0 32768) = false ∧
    WellFormed (.bootImage (some (0, 0, List.replicate 33 0)) none false) = false ∧ WellFormed (.feladeRestart 0 0 (List.replicate 33 0) 0) = false := by
  decide +kernel

/-! ### Words of tile instructions, field by field from Tables 8-5 and 8-6: opcode, S, destination, source 1, source 2, class field -/

/-- The two words that R198's text gives. -/
theorem test_words_of_the_text : tileDecode 3 0x2E320000 = some (.mac 3 0 true 6 2) ∧ tileDecode 3 0x04002800 = some (.ld 3 0 { p := 1, mode := .inc }) := by
  decide

/-- One word of each class: R, M, MM, K, I, B, U. -/
theorem test_words_of_each_class :
    tileDecode 0 (0b010100#6 ++ 1#1 ++ 5#3 ++ 6#3 ++ 7#3 ++ 0#16) = some (.add 0 5 true 6 7) ∧
    tileDecode 0 (0b000010#6 ++ 0#1 ++ 0#3 ++ 4#3 ++ 0#3 ++ (6#3 ++ 0b11#2 ++ 3#2 ++ 0#9)) = some (.st 0 4 { p := 6, mode := .mod, m := 3 }) ∧
    tileDecode 0 (0b001110#6 ++ 0#1 ++ 1#3 ++ 0#3 ++ 0#3 ++ (2#3 ++ 0b10#2 ++ 5#3 ++ 0b11#2 ++ 1#2 ++ 0#4)) =
      some (.macm 0 1 false { p := 2, pmode := .dec, q := 5, qmode := .mod, m := 1 }) ∧
    tileDecode 0 (0b010010#6 ++ 0#1 ++ 1#3 ++ 0#3 ++ 0#3 ++ (0#10 ++ 0b100000#6)) = some (.sha 0 1 false (-32)) ∧
    tileDecode 0 (0b100001#6 ++ 0#1 ++ 2#3 ++ 0#3 ++ 0#3 ++ 0x8000#16) = some (.ldi 0 2 0x8000) ∧
    tileDecode 0 (0b110101#6 ++ 0#1 ++ 1#3 ++ 3#3 ++ 0#3 ++ (0#3 ++ 0x1FFF#13)) = some (.loop 0 true 3 0x1FFF) ∧
    tileDecode 0 (0b110110#6 ++ 0#1 ++ 0#3 ++ 0#3 ++ 0#3 ++ (0#11 ++ 31#5)) = some (.pub 0 31) := by decide

/-- Reserved opcodes, and fields that an instruction does not use, spell no instruction (R197, R198). -/
theorem test_words_reserved : tileDecode 0 (0b101100#6 ++ 0#26) = none ∧ tileDecode 0 (0b111000#6 ++ 0#26) = none ∧ tileDecode 0 1 = none ∧
    tileDecode 0 (0b001110#6 ++ 0#1 ++ 1#3 ++ 0#3 ++ 0#3 ++ (2#3 ++ 0b01#2 ++ 2#3 ++ 0b01#2 ++ 0#2 ++ 0#4)) = none := by decide

/-! ### Values that the spec gives -/

/-- "123456789", of which the spec gives the check values (R67, R216, R231, R318). -/
def digits : List Byte := [0x31, 0x32, 0x33, 0x34, 0x35, 0x36, 0x37, 0x38, 0x39]

theorem test_check_values : crc32c digits = 0xE3069283 ∧ crc16 0xFFFF digits = 0x29B1 ∧ crcSafe 0xFFFFFFFF digits = 0x1697D06A ∧
    crc24 0xB704CE digits = 0x21CF02 := by decide +kernel

/-- FIPS 180-4's example message "abc" (log entry 33). -/
theorem test_sha256_abc : (sha256 [0x61, 0x62, 0x63]).take 4 = [0xBA, 0x78, 0x16, 0xBF] := by decide +kernel

/-! ### States to start from -/

/-- A powered device in device state `k`, with a time base when `run`. -/
def up (k : Nat) (run : Bool) : Dev := (({} : Dev).setF HOST_STATUS_DEV_STATE k).setB ESC_STATUS_RUNNING run

/-- Three axes: 0 and 1 of group 0, 0 virtual, 1 local; 2 local and free. -/
def ax0 : AxisCfg := { group := some 0, home := .setHere }
def ax1 : AxisCfg := { kind := .local_, group := some 0, home := .setHere, feLimit := 1 }
def ax2 : AxisCfg := { kind := .local_, group := none, fbMotor := 2, feLimit := 1 }

/-- An image with them; group 1 has no axes. -/
def im : Image where
  axes := [(0, some ax0), (1, some ax1), (2, some ax2)]
  groups := [(0, some { axes := [0, 1], ikFaultFrames := 2 }), (1, some {})]
  sources := [(3, 0)]
  sessions := [(0, { transport := 0, live := 10, lost := 1 }), (1, { transport := 2 }), (2, { transport := 1, keys := [(0, [0x5A])] })]
  sesPorts := 4

/-- The device with it, in READY with a time base, every STO group released. -/
def dev : Dev := { (up 5 true).setImg { run := some im } with bad := { known := 0x1FF } }

/-- A state around a device. -/
def st (d : Dev) : State := { blk := { dev := d } }

/-! ### Witnesses: states and operands that meet the hypotheses of each statement, clause by clause -/

theorem witness_BoundariesCountFrames : dev.has 2 = true ∧ dev.running = true ∧ dev.rec_.fatal = none ∧
    dev.minor + 1 < (dev.setF ESC_CFG_MAJ_DIV 1).M ∧ (dev.setF ESC_CFG_MAJ_DIV 1).esc.fresh = false := by decide

theorem witness_TimeBaseStarts : (up 5 false).has 2 = true ∧ (up 5 false).b ESC_CFG_LOCK = false ∧
    (∀ d, d = (up 5 true).setB ESC_CFG_LOCK true → d.b ESC_CFG_LOCK = true ∧ d.running = true) ∧
    (∀ d : Dev, d = { up 5 false with esc := { starting := true } } → mayStart d = true ∧ d.rec_.fatal = none) :=
  ⟨by decide, by decide, by rintro _ rfl; decide, by rintro _ rfl; decide⟩

theorem witness_BoundarySources :
    (∀ d : Dev, d = { dev.setF ESC_SRC_ALLOW 2 with esc := { syncValid := true } } → d.has 2 = true ∧
      (1 = 3 ∨ (d.f ESC_SRC_ALLOW).testBit 1 = true ∧ sourceValid d 1 = true ∧ tget 0 d.esc.bar 1 = 0) ∧
      ((d.f ESC_SRC_ALLOW).testBit 0 = false) ∧ d.f ESC_SRC_ACTIVE ≠ 1) ∧
    (∀ d, d = dev.setF ESC_SRC_ALLOW 2 → syncWatched d = true ∧ d.b ESC_STATUS_SYNC_LOST = false ∧
      4 * (((expectedEdge d 0).1 : Int) - (expectedEdge d 0).1).natAbs ≤ d.tMinor ∧ d.esc.syncJudged ≠ (expectedEdge d 0).2 + 1) ∧
    (∀ d : Dev, d = { dev with esc := { syncValid := true, syncMiss := 255 } } → d.esc.syncValid = true ∧
      d.f ESC_SRC_LOSS_LIMIT ≤ d.esc.syncMiss) :=
  ⟨by rintro _ rfl; decide, by rintro _ rfl; decide, by rintro _ rfl; decide⟩

theorem witness_CutoffSealsInOrder : dev.has 2 = true ∧ dev.rmt.sealed = none ∧ dev.replaying = false ∧
    (dev.setImg { run := some { im with replay := true } }).replaying = true := by decide

theorem witness_RegisterAccesses : dev.has 1 = true ∧ pairValue dev 0x100010 = some 0 ∧
    accMask 0x10010C (fun c => decide (c = .rc)) ≠ 0 ∧ pairValue dev 0x10010C = none ∧ canWindow dev 0x10010C = none ∧
    busMay dev .bar2 0x100010 = false ∧ (∀ n : Fin 4, (ETH_TXTS_ID_ID n).addr ≠ 0x10010C) := by decide

/-- A `session.ping` of session `ses` as request bytes (Table 3-3). -/
def ping (ses seq : Nat) : List Byte :=
  let h := le 2 0x0302 ++ le 2 0 ++ le 2 ses ++ le 2 0 ++ le 4 seq ++ le 2 0x0103 ++ le 14 0
  h ++ le 4 (crc32c h)

/-- The request made of it. -/
def rq (ses : Nat) (via : Via) : Request := { raw := ping ses 7, via := via }

/-- The device with session `n` open in version 3.2; the image gives session 0 PCIe, 1 SPI and 2 Ethernet with a key of one byte. -/
def opened (n : Nat) : Dev := (dev.setB (SES_STATE_OPEN n) true).setF (SES_STATE_VERSION n) 0x0302

theorem witness_RequestsEnter : (opened 1).running = true ∧ notReady (opened 1) = false ∧
    (rq 1 .spi).arr = (opened 1).esc.maj ∧ (rq 1 .spi).ses = 1 ∧ (rq 1 .spi).hello = false ∧ (rq 1 .spi).link = false ∧
    ((opened 1).session 1).wait = [] ∧ (ping 1 7).length = 32 + (rq 1 .spi).len ∧ (opened 1).has 1 = true ∧
    ((opened 1).session 1).order.length < 64 ∧ transportCheck (opened 1) 1 (rq 1 .spi) true [] = .pass ∧
    transportCheck (opened 0) 0 (rq 0 .pcie) true [] = .pass ∧ ((opened 0).session 0).order = [] ∧
    ((1 : BitVec 16)).toNat = ((opened 0).f (SES_REQ_HEAD_HEAD 0) + 1) % 65536 ∧
    (opened 0).f (SES_RSP_TAIL_TAIL 0) = (opened 0).f (SES_RSP_HEAD_HEAD 0) := by decide +kernel

theorem witness_RequestsEnter_ethernet : (opened 2).has 8 = true ∧ sesPort (opened 2) 2 = true ∧
    (hmac256 [0x5A] (le 16 0 ++ ping 2 7)).length = 32 ∧
    transportCheck (opened 2) 2 (rq 2 (.eth 2 0)) true (hmac256 [0x5A] (le 16 0 ++ ping 2 7)) = .pass := by decide +kernel

theorem witness_RingsAndReads : dev.has 1 = true ∧ dev.f (SES_REQ_TAIL_TAIL 0) = dev.f (SES_REQ_HEAD_HEAD 0) ∧
    64 < (((65 : BitVec 16)).toNat + 65536 - dev.f (SES_REQ_HEAD_HEAD 0)) % 65536 ∧ (dev.session 0).spiRsp = [] ∧
    (({ dev with ses := [(0, { spiRsp := [[1]] })] } : Dev).session 0).spiRsp = [[1]] := by decide

theorem witness_SessionsOpenAndClose : (st dev).takes 0x0101 ∧ (dev.sesCfg 0).transport ≠ 1 ∧ chooseVersion 0x0302 0x0302 = 0x0302 ∧
    chooseVersion 0x0303 0xFFFF = 0 ∧ sesOpen dev 0 = false ∧ (st (opened 0)).takes 0x0102 ∧ sesOpen (opened 0) 0 = true ∧ (st dev).takes 0x0103 := by
  unfold State.takes; decide

theorem witness_SessionTimeouts :
    (∀ d : Dev, d = { opened 0 with esc := { maj := 1000000 } } → d.has 1 = true ∧ d.running = true ∧ liveExpired d 0 = true) ∧
    (∀ d : Dev, d = { dev with ses := [(0, { wait := [rq 0 .pcie] })], esc := { maj := 8 } } →
      (d.session 0).wait ≠ [] ∧ ∀ r ∈ (d.session 0).wait, r.arr + 8 ≤ d.esc.maj) ∧
    (∀ (h : Held) (d : Dev), h = { frame := 1, reqs := [rq 0 .pcie] } → d = { dev with rmt := { pending := [h] } } →
      d.has 2 = true ∧ d.running = true ∧ d.rec_.fatal = none ∧ d.rmt.sealed = none ∧ h ∈ d.rmt.pending ∧ h.frame = d.esc.maj + 1 ∧
      ∃ r ∈ h.reqs, r.ses = 0 ∧ r.seq = 7) :=
  ⟨by rintro _ rfl; decide, by rintro _ rfl; decide +kernel, by rintro _ _ rfl rfl; decide +kernel⟩

theorem witness_BatchIsBounded : (match exec (.cutoff 0 64 true) (st dev) with | .next t => t.blk.dev.rmt.sealed.isSome | _ => false) = true ∧
    dev.has 2 = true ∧ dev.running = true ∧ dev.rec_.fatal = none ∧ dev.rmt.sealed = none ∧ dev.rmt.taken = [] :=
  ⟨by decide +kernel, by decide, by decide, by decide, by decide, by decide⟩

/-- A staging buffer of session 0 that holds four of `total` bytes. -/
def staging (total : Nat) : Img := { run := some im, owner := some 0, total := total, bytes := [1, 2, 3, 4] }

theorem witness_ImagesAreStaged : (st dev).takes 0x0202 ∧ stagingFree dev 0 = true ∧
    (∀ d, d = dev.setImg (staging 8) → (st d).takes 0x0202 ∧ d.img.owner = some (0 : Fin 32).val ∧ 4 = d.img.bytes.length ∧
      stagingFree d 1 = false) ∧
    (∀ d, d = dev.setImg (staging 4) → d.img.bytes.length = d.img.total) ∧
    (∀ d, d = dev.setImg { staging 4 with validated := true } → (storeCheck d).1 = 1) := by
  unfold State.takes
  exact ⟨by decide, by decide, by rintro _ rfl; decide, by rintro _ rfl; decide, by rintro _ rfl; decide +kernel⟩

theorem witness_ImageResults : dev.has 1 = true ∧ (dev.setImg { staging 4 with validating := true }).img.validating = true ∧
    (dev.setImg { staging 4 with storing := some 1 }).img.storing = some 1 ∧ (st dev).takes 0x0201 := by unfold State.takes; decide

theorem witness_ImagesTakeEffect : (∀ d, d = (up 4 false).setImg { staging 4 with run := none, validated := true } → d.has 1 = true ∧
    changeClass d [1, 2, 3, 4] ≠ 0 ∧ classCondition d (changeClass d [1, 2, 3, 4]) = 0 ∧ d.esc.maj < 2 ^ 48 ∧ d.running = false ∧
    stateCheck d 0x0202 = none ∧ d.img.owner = some (0 : Fin 32).val ∧ (4 : Word).toNat = d.img.total ∧ d.img.validated = true ∧
    d.img.bytes = [1, 2, 3, 4]) := by rintro _ rfl; decide

/-- An image in flash slot 0 of a device in CONFIG-WAIT. That some bytes pass the checks of Table 4-4 cannot be computed here: the byte
formats of the sections are open (log entry 8). -/
theorem witness_ImagesTakeEffect_flash (l : List Byte) (d : Dev) (hd : d = (up 4 false).setImg { flash0 := l }) (hl : l ≠ [])
    (h1 : checkFront d l = none) (h2 : checkBack d (loadImage l) = none) : flashPick d = some l ∧ checkImage d l = none ∧ changeClass d l = 3 ∧
      classCondition d 3 = 0 ∧ d.state = 4 ∧ d.running = false ∧ stateCheck d 0x0202 = none := by
  have h3 : d.img.flash0 = l ∧ d.img.flash1 = [] ∧ d.img.run = none := by subst hd; exact ⟨rfl, rfl, rfl⟩
  refine ⟨?_, ?_, ?_, ?_, ?_, ?_, ?_⟩
  · have h4 : l.isEmpty = false := by cases l <;> simp_all
    simp [flashPick, slotValid, h3.1, h3.2.1, h1, h4]
  · simp [checkImage, h1, h2]
  · simp [changeClass, h3.2.2]
  all_goals subst hd
  · rfl
  · exact (by decide : (up 4 false).state = 4)
  · exact (by decide : (up 4 false).running = false)
  · exact (by decide : stateCheck (up 4 false) 0x0202 = none)

/-! Groups -/

/-- The device with group 0 as `x`. -/
def grp0 (x : Group) : Dev := dev.setGroup 0 x

/-- An entry of type `ty` for group 0, speed and rates 0.01 %, the word at byte 16 one. -/
def entry (ty : Nat) : List Byte := le 1 ty ++ le 7 0 ++ le 2 1 ++ le 2 1 ++ le 4 0 ++ le 4 1 ++ le 44 0

theorem witness_ArmsObey : known dev 0 = true ∧ (st dev).takes 0x0301 ∧ (dev.group 0).st = .disabled ∧
    (∀ d : Dev, d = { (up 5 true).setImg { run := some { im with axes := [(0, some ax0), (1, some { ax0 with kind := .local_ })] } } with
      bad := { known := 0x1FF }, ax := [(0, { age := 0 }), (1, { age := 0 })] } → known d 0 = true ∧
      (∀ n ∈ (d.gcfg 0).axes, axReady d n = true) ∧ d.state ≠ 7 ∧ armGated d 0 = false) ∧
    (st dev).takes 0x0302 ∧ (st dev).takes 0x0303 ∧ (st dev).takes 0x0304 ∧ (st dev).takes 0x0305 ∧
    (∀ k : GState, (grp0 { st := k }).group 0 = { st := k }) ∧ (dev.gcfg 0).axes.length = 2 ∧
    (∀ x ∈ (dev.gcfg 0).axes.zipIdx, (dev.acfg x.1).kind = .virtual ∨ (dev.acfg x.1).home ≠ .none) := by
  unfold State.takes
  exact ⟨by decide, by decide, by decide, by rintro _ rfl; decide, by decide, by decide, by decide, by decide,
    by intro k; cases k <;> decide, by decide, by decide⟩

theorem witness_SegmentsQueue : (st dev).takes 0x0501 ∧ (st dev).takes 0x0502 ∧ (st dev).takes 0x0503 ∧ (st dev).takes 0x0306 ∧
    (appendEntries dev ([0, 1, 0, 0] ++ entry 5)).any (fun l => appendState dev 0 l && decide ((l.map Entry.size).sum ≤ dev.rmt.credits) &&
      decide ((l.map Entry.size).sum ≤ storeFree dev) &&
      decide ((dev.group 0).entries + (l.map Entry.size).sum ≤ (dev.gcfg 0).segCap)) = true := by
  unfold State.takes
  exact ⟨by decide, by decide, by decide, by decide, by decide +kernel⟩

theorem witness_EntriesEnd :
    (∀ d, d = grp0 { st := .moving } → d.has 2 = true ∧ (d.group 0).cur = none ∧ (d.group 0).queue = [] ∧ axesStill d 0 = true) ∧
    (∀ d, d = grp0 { st := .moving, cur := some { raw := entry 5 }, dwelled := 1 } → entryEnded d 0 = true ∧ ({ raw := entry 5 } : Entry).ty = 5 ∧
      leAt (entry 5) 16 4 ≤ (d.group 0).dwelled) ∧
    (∀ (r : List Byte) (d : Dev), r = le 1 8 ++ le 23 0 ++ le 4 2 ++ le 1 1 ++ le 35 0 → d = grp0 { st := .moving, cur := some { raw := r }, waited := 2 } →
      ({ raw := r } : Entry).ty = 8 ∧ 0 < leAt r 24 4 ∧ leAt r 24 4 ≤ (d.group 0).waited ∧ (d.group 0).gateOpen = false ∧ leAt r 28 1 = 1) ∧
    (∀ d, d = grp0 { st := .moving, cur := some { raw := entry 7 }, engage := 1 } → ({ raw := entry 7 } : Entry).ty = 7 ∧
      (d.group 0).engaged = false ∧ (d.group 0).engage = 1) :=
  ⟨by rintro _ rfl; decide, by rintro _ rfl; decide, by rintro _ _ rfl rfl; decide, by rintro _ rfl; decide⟩

theorem witness_StopsAndHomingsEnd : dev.has 2 = true ∧ stopStill (grp0 { st := .stopping }) 0 = true ∧
    stopStill (grp0 { st := .stopping, pendDisable := true, pendFault := true }) 0 = true ∧
    (∀ d, d = dev.setAxis 0 { disablePend := true } → (d.axis 0).disablePend = true ∧ (d.axis 0).ramping = false ∧ (d.axis 0).vSet = 0) ∧
    (∀ d, d = (grp0 { st := .homing, homeMask := 3 }).setAxis 1 { homePhase := 6 } → (∀ z ∈ stageAxes d 0, (d.axis z.1).homePhase = 6) ∧
      stageAxes d 0 ≠ [] ∧ (∀ z ∈ (d.gcfg 0).axes.zipIdx, (d.group 0).homeMask.testBit z.2 = true → (d.acfg z.1).homeStage ≤ (d.group 0).homeStage)) ∧
    (∀ d, d = (grp0 { st := .homing, homeMask := 3 }).setAxis 1 { homePhase := 9 } → ∃ z ∈ stageAxes d 0, (d.axis z.1).homePhase = 9) ∧
    (∀ d, d = grp0 { st := .moving, ikOver := 2 } → 0 < (d.gcfg 0).ikFaultFrames ∧ (d.gcfg 0).ikFaultFrames ≤ (d.group 0).ikOver) :=
  ⟨by decide, by decide, by decide, by rintro _ rfl; decide, by rintro _ rfl; decide, by rintro _ rfl; decide, by rintro _ rfl; decide⟩

theorem witness_LynxReports : dev.has 7 = true ∧ dev.has 2 = true ∧ dev.running = true ∧ dev.rec_.fatal = none ∧ dev.pwr.selftest = none ∧
    (∀ d : Dev, d = { dev with lynx := { held := [(0, 1000)] } } → im.holdFrames ≤ tget 0 d.lynx.held 0 ∧ 0 < tget 0 d.lynx.held 0 ∧
      tget false d.lynx.holdRaised 0 = false) ∧
    (∀ d : Dev, d = { dev with lynx := { silent := [(3, 4)] } } → (∃ z ∈ im.sources, z.1 = 3) ∧ im.trackTtl ≤ tget 0 d.lynx.silent 3 ∧
      tget false d.lynx.stale 3 = false) ∧
    (∀ d : Dev, d = { dev with lynx := { members := [{ member := 2 }] }, esc := { maj := 1000000 } } →
      (∃ m ∈ d.lynx.members, m.member = 2 ∧ m.plan + 2 < d.planNo) ∧ tget false d.lynx.staleArms 2 = false) :=
  ⟨by decide, by decide, by decide, by decide, by decide, by rintro _ rfl; decide, by rintro _ rfl; decide, by rintro _ rfl; decide⟩

theorem witness_JoinedStarts : (st dev).takes 0x0203 ∧ dev.has 2 = true ∧ dev.esc.maj < 2 ^ 48 ∧
    (∀ d, d = dev.setGroup 1 { st := .standstill, queue := [{ raw := entry 5 }] } → known d 1 = true ∧ startReady d 1 = true ∧
      (d.now / max 1 d.P + 2) * max 1 d.P ≤ (2 : BitVec 48).toNat) ∧
    (∀ (z : Issue) (d : Dev), z = { s := 4, members := [2], ready := [2] } → d = { dev with issue := [z], esc := { maj := 4 } } → d.issue = [z] ∧ z.from_ + 4 ≤ d.esc.maj) ∧
    (∀ d : Dev, d = { dev.setGroup 1 { st := .standstill, queue := [{ raw := entry 5 }], held := some (4, 0, true) } with esc := { maj := 4 } } →
      (d.group 1).held = some ((4 : BitVec 48).toNat, 0, true) ∧ (4 : BitVec 48).toNat ≤ d.esc.maj ∧ (d.group 1).st = .standstill ∧
      (d.group 1).queue ≠ [] ∧ (d.gcfg 1).startMode = 1 ∧ groupHomed d 1 = true) := by
  unfold State.takes
  exact ⟨by decide, by decide, by decide, by rintro _ rfl; decide, by rintro _ _ rfl rfl; decide, by rintro _ rfl; decide⟩

/-! Axes -/

theorem witness_AxesObey : dev.axCfg 2 = some ax2 ∧ ax2.group = none ∧
    (∀ d : Dev, d = { dev with ax := [(2, { age := 0 })] } → (st d).takes 0x0401 ∧ (d.axis 2).st = .disabled ∧ axReady d 2 = true ∧
      d.state ≠ 7 ∧ axisGated d 2 = false) ∧
    (st dev).takes 0x0402 ∧ ax1.group.isSome = true ∧
    (∀ d : Dev, d = { dev with ax := [(2, { st := .enabled, ramping := true })] } → axMoving d 2 = true) ∧
    (∀ d : Dev, d = { dev with ax := [(2, { st := .enabled })] } → axMoving d 2 = false) ∧
    (st dev).takes 0x0403 ∧ lawOk dev 2 0 0 0 0 = true ∧ (dev.axis 2).newFault = false ∧ (st dev).takes 0x0404 ∧ (dev.axis 2).outputsOn = false ∧
    (st dev).takes 0x0405 := by
  unfold State.takes
  exact ⟨rfl, by decide, by rintro _ rfl; decide, by decide, by decide, by rintro _ rfl; decide, by rintro _ rfl; decide, by decide,
    by decide, by decide, by decide, by decide, by decide⟩

theorem witness_AxisEvents : dev.has 2 = true ∧ (dev.acfg 2).kind ≠ .virtual ∧ (dev.acfg 2).noFeedback = false ∧
    (∀ a : Axis, a = { calLeft := some 0, calNum := 1 } → (a.calLeft = some 0 ∨ a.calLeft = some 1) ∧ a.calNum ≠ 0) ∧
    (∀ a : Axis, a = { st := .enabled, outputsOn := true, brakeWait := some 0, overI := 2, age := 4 } → a.live = true ∧ a.brakeWait = some 0 ∧
      2 ≤ a.overI ∧ (dev.acfg 2).ageLimit < a.age ∧ a.fresh = false ∧ a.counted = false) ∧
    (∀ d, d = dev.setAxis 2 { st := .enabled, feTimer := 9 } → (d.axis 2).outer ≠ 3 ∧ 0 < feLimit d 2 ∧ (d.acfg 2).feTime < (d.axis 2).feTimer) ∧
    ({ fallback := some (0, 1) } : Axis).fallback = some (0, 1) ∧ ({ torqueWait := some 0 } : Axis).torqueWait = some 0 :=
  ⟨by decide, by decide, by decide, by rintro _ rfl; decide, by rintro _ rfl; decide, by rintro _ rfl; decide, rfl, rfl⟩

/-! Loop tiles -/

/-- A state in which tile 0 is `t`. -/
def tl (t : Tile) : State := { blk := { dev := dev, tiles := [(0, t)] } }

/-- A custom law's slot on axis 1 with all of data memory but the first word, program from 0. -/
def run0 : TRun := { slot := { axis := 1, law := some 0 }, dataBase := 1, dataLen := 64, progLen := 64, declared := 100 }

theorem witness_TileArithmetic : (tl {}).tileReady 0 := by unfold State.tileReady Tile.ready; decide

/-- Also for the accumulators, pointers and control. -/
theorem witness_TileMoves : (tl {}).tileReady 0 ∧ 0 ≤ (rdD ((tl {}).blk.tile 0).land.ctx 0).toInt ∧
    (tl { main := { d := [(0, 1)], l0act := true } }).tileReady 0 ∧ (rdD ((tl { main := { d := [(0, 1)] } }).blk.tile 0).land.ctx 0).setWidth 16 ≠ (0 : BitVec 16) := by
  unfold State.tileReady Tile.ready; decide

theorem witness_TileLoads : (tl { mainRun := some run0, main := { p := [(0, 2), (1, 5)] } }).tileReady 0 ∧
    (∀ u, u = ((tl { mainRun := some run0, main := { p := [(0, 2), (1, 5)] } }).blk.tile 0).land → (rdP u.ctx 0).toNat = 2 ∧
      mayLoad u.run 2 = true ∧ mayLoad u.run 3 = true ∧ mayStore u.run 2 = true ∧ mayStore u.run 3 = true ∧ mayLoad u.run 5 = true ∧
      mayStore u.run 5 = true ∧ mayLoadD u.run 2 = true) := by
  unfold State.tileReady Tile.ready; exact ⟨by decide, by rintro _ rfl; decide⟩

/-- Pointer P6 one below the end of the main context's circular buffer, and at its base. -/
theorem witness_TileCircularAddressing : (∀ a : BitVec 15, a = 4 ∨ a = 7 → (tl { main := { p := [(6, a)] }, b0 := 4, l0 := 4 }).tileReady 0) ∧
    (∀ u, u = ((tl { main := { p := [(6, 7)] }, b0 := 4, l0 := 4 }).blk.tile 0).land → mayLoad u.run (rdP u.ctx 6).toNat = true ∧
      mayLoadD u.run (rdP u.ctx 6).toNat = true ∧ u.b0.toNat + u.l0.toNat ≤ (rdP u.ctx 6).toNat + 1) := by
  unfold State.tileReady Tile.ready; exact ⟨by rintro a (rfl | rfl) <;> decide, by rintro _ rfl; decide⟩

theorem witness_TileSlotEnds : (tl {}).blk.dev.has 3 = true ∧
    ∀ u, u = ((tl { main := { delay := 1, sat := true }, mainRun := some { run0 with published := true } }).blk.tile 0).land →
      u.inEvent = false ∧ u.brokenBefore = 0 ∧ u.ctx.delay = 1 ∧ u.ctx.after = .slotEnd ∧ u.mainRun = some { run0 with published := true } ∧
      run0.slot.law = some 0 ∧ u.mainNext = [] ∧ u.heldTrig = [] := ⟨by decide, by rintro _ rfl; decide⟩

theorem witness_TileSandboxActs : (tl { mainRun := some run0 }).tileReady 0 ∧
    (∀ u, u = ((tl { mainRun := some run0 }).blk.tile 0).land → u.run = some run0 ∧ run0.slot.current = true ∧ u.inEvent = false ∧
      u.mainRun = some run0 ∧ u.mainNext = [] ∧ u.heldTrig = [] ∧ mayStore (some run0) (rdP u.ctx 0).toNat = false) ∧
    (∀ u, u = ((tl { mainRun := some { run0 with count := 100 } }).blk.tile 0).land → u.ctx.pc.toNat < 0 + 64 ∧ 100 ≤ 100 ∧ u.ctx.delay = 0) ∧
    ((tl { inEvent := true }).blk.tile 0).inEvent = true ∧
    (∀ t, t = (tl { mainRun := some run0, events := [(2, some {})] }).blk.tile 0 → t.inEvent = false ∧ t.main.delay = 0 ∧
      tget none t.events 2 = some {} ∧ t.heldTrig = [] ∧ t.eventRun = none ∧ t.mainRun.isSome = true) := by
  unfold State.tileReady Tile.ready
  exact ⟨by decide, by rintro _ rfl; decide, by rintro _ rfl; decide, by decide, by rintro _ rfl; decide⟩

/-! The drive link -/

theorem witness_RingIsWatched : dev.has 9 = true ∧ (dev.setB (DL_STATUS_MARKERS 0) true).b (DL_STATUS_MARKERS 0) = true ∧
    (dev.port 0).broken = false ∧
    (∀ d, d = dev.setPort 0 { miss0 := 2 } → (d.port 0).broken = false ∧ 2 ≤ (d.port 0).miss0) ∧
    (∀ d, d = dev.setPort 0 { broken := true, both := 64 } → (d.port 0).broken = true ∧ 64 ≤ (d.port 0).both) :=
  ⟨by decide, by decide, by decide, by rintro _ rfl; decide, by rintro _ rfl; decide⟩

/-- The device with one module in slot 3 of port 0, bound to axis 2; its position joined or not. -/
def devM (joined : Bool) (r : Option (Nat × Nat × Nat)) : Dev :=
  { (((up 5 true).setImg { run := some { im with mods := [(0, { present := true, slot := 3, axis0 := some 2 })] } }).setB
      (DL_STATUS_MARKERS 0) true).setF (DL_CFG_NMOD 0) 1 with
    dl := [(0, { pos := [(0, { joined := joined })] })], ax := [(2, { st := .enabled, calLeft := r.map (fun x => x.1) })] }

/-- An uplink of position 0 with record type `ty` in minor frame 0. -/
def uplink (ty : Nat) : List Byte :=
  let l := le 1 (16 * ty) ++ le 45 0
  l ++ le 2 (crc16 (0xFFFF ^^^ 0x8000) l)

theorem witness_UplinksAreTaken : (devM true none).has 9 = true ∧ (devM true none).b (DL_STATUS_MARKERS 0) = true ∧
    slotPos (devM true none) 0 3 = some 0 ∧ (∀ t : Fin 16, (uplink t).length = 48) ∧
    (∀ t : Fin 5, leAt (uplink t) 46 2 = crc16 (0xFFFF ^^^ ((0x80 + 0) * 256 + (devM true none).minorNo % 256)) ((uplink t).take 46) ∧
      leAt (uplink t) 0 1 = t * 16 + 0) ∧
    ((devM true none).posn 0 0).used = none ∧ ((devM true none).posn 0 0).joined = true ∧ ((devM true none).modCfg 0 0).axis0 = some 2 ∧
    ((devM true none).modCfg 0 0).axis1 = none ∧ axFrameMissing (devM true none) ((devM true none).acfg 2) = false ∧
    ((devM false none).posn 0 0).joined = false ∧ ((devM false none).posn 0 0).rejoining = false ∧
    addressing ((devM false none).setB (DL_STATUS_R_VALID 0) true) 0 = true ∧ ((devM true (some (0, 0, 0))).axis 2).calLeft = some 0 ∧
    (devM true none).running = true ∧ 3 ≤ ((devM true none).setF (DL_POS_EDGE_RUN 0 0) 3).f (DL_POS_EDGE_RUN 0 0) ∧
    (devM true none).f (DL_POS_STATE_STATE 0 0) ≠ 4 := by decide +kernel

/-- A module as the statement's clauses need it: joined, mid-cycle, with or without a record for the next period. -/
theorem witness_ModulesFollow :
    (∀ m : Module, m = { st := .joined, cycleMinor := some 5 } → m.st = .joined ∧ m.cycleMinor = some 5 ∧ m.bCount < 2 ∧ m.nextRec = none ∧
      m.withheld = false ∧ m.fault = none ∧ m.calSend = false) ∧
    (∀ m : Module, m = { st := .joined, cycleMinor := some 5, nextRec := some (le 1 16 ++ le 39 0) } → m.nextRec = some (le 1 16 ++ le 39 0) ∧
      leAt (le 1 16 ++ le 39 0) 0 1 / 16 = 1 ∧ (leAt (le 1 16 ++ le 39 0) 1 1).testBit 6 = false) ∧
    (∀ m : Module, m = { st := .joined, missed := 3 } → 3 ≤ m.missed) ∧ (∀ m : Module, m = { st := .listen } → m.cycleMinor ≠ some 5) ∧
    ((dev.setModl 0 { st := .safe }).modl (modNo 0 0)).st = .safe := by
  exact ⟨by rintro _ rfl; decide, by rintro _ rfl; decide, by rintro _ rfl; decide, by rintro _ rfl; decide, by decide⟩

/-! Local power stages, feedback, latches, compare units, steppers -/

theorem witness_PwmStagedUpdates : dev.has 10 = true ∧ (up 5 false).running = false ∧ dev.running = true ∧ dev.esc.t0 = 0 ∧
    (dev.pwm 0).moved = false ∧
    (∀ d, d = ((dev.setB (PWM_GRP_UPD_PENDING 0) true).setF (PWM_GRP_PER_PER 0) 10).setF (PWM_GRP_RISE_COARSE 0 0) 11 →
      d.b (PWM_GRP_UPD_PENDING 0) = true ∧ 8 * d.f (PWM_GRP_PER_PER 0) < edgeSteps d (PWM_GRP_RISE_COARSE 0 0) (PWM_GRP_RISE_FINE 0 0)) ∧
    (∀ d, d = (dev.setF (PWM_GRP_PER_PER 0) 10).setF (PWM_GRP_UPD_STALE_CNT 0) 2 → pwmDiff d 0 = true ∧ d.f (PWM_GRP_UPD_STALE_CNT 0) = 2) :=
  ⟨by decide, by decide, by decide, by decide, by decide, by rintro _ rfl; decide, by rintro _ rfl; decide⟩

theorem witness_PwmSafeStates : dev.has 10 = true ∧ dev.has 0 = true ∧ dev.running = true ∧ dev.b (PWM_TRIP_CFG_POL 0) = false ∧
    dev.b (PWM_TRIP_CFG_MODE 0) = false ∧
    (∀ d, d = (dev.setB (PWM_TRIP_CFG_MODE 0) true).setF (PWM_TRIP_CFG_FLT 0) 5 → d.b (PWM_TRIP_CFG_MODE 0) = true ∧ 4 < d.f (PWM_TRIP_CFG_FLT 0) ∧
      d.f (PWM_TRIP_CFG_FLT 0) ≤ 5) ∧
    (∀ x : Fin 8, dev.b (PWM_TRIP_CFG_LEVEL x) = false) ∧
    (∀ d, d = (dev.setF (PWM_GCFG_TRIP_MASK 3) 1).setB (PWM_TRIP_CFG_LEVEL 0) true → (d.f (PWM_GCFG_TRIP_MASK 3)).testBit (0 : Fin 8) = true ∧
      d.b (PWM_TRIP_CFG_LEVEL 0) = true) :=
  ⟨by decide, by decide, by decide, by decide, by decide, by rintro _ rfl; decide, by decide, by rintro _ rfl; decide⟩

theorem witness_LocalSamples : dev.has 10 = true ∧ dev.replaying = false ∧
    (∀ d, d = (dev.setB (SD_CFG_EN 4) true).setF (SD_CFG_GROUP 4) 6 → blockSds d 6 = [4] ∧ ∀ n ∈ d.axisList, axBlock d (d.acfg n) ≠ some (6 : Fin 16).val) ∧
    (∀ d, d = dev.setImg { run := some { im with axes := [(2, some ax2)] } } → blockSds d 0 = [] ∧
      d.axisList.filter (fun m => decide (axBlock d (d.acfg m) = some (0 : Fin 16).val)) = [2] ∧ axFrameMissing d (d.acfg 2) = false) ∧
    (dev.setImg { run := some { im with replay := true } }).replaying = true :=
  ⟨by decide, by decide, by rintro _ rfl; decide, by rintro _ rfl; decide, by decide⟩

theorem witness_EncodersCount : dev.has 10 = true ∧ (dev.setF (FB_CFG_MODE 3) 2).f (FB_CFG_MODE 3) = 2 ∧ (dev.fb 3).a = false ∧
    (∀ d, d = (((dev.setF (FB_CFG_MODE 3) 1).setB (FB_STAT_VALID 3) true).setF (FB_CFG_QERR_LIMIT 3) 1) → d.f (FB_CFG_MODE 3) = 1 ∧
      d.b (FB_STAT_VALID 3) = true ∧ (d.fb 3).stBad = false ∧ d.f (FB_CFG_QERR_LIMIT 3) ≠ 0 ∧ fbInvalidCause d 3 = 0 ∧
      d.f (FB_CFG_IDX_GATE 3) = 0 ∧ d.b (FB_CFG_IDX_POL 3) = false ∧ (d.fb 3).z = false) ∧
    (∀ d, d = ((dev.setB (FB_STAT_VALID 3) true).setF (FB_CFG_QERR_LIMIT 3) 1).setF (FB_STAT_QERR_CNT 3) 1 → fbInvalidCause d 3 ≠ 0) ∧
    (∀ d, d = (dev.setF (FB_CFG_MODE 17) 4).setF (FB_SER_BITS 1) 8 → d.f (FB_CFG_MODE 17) = 4 ∧ d.f (FB_SER_STATUS 1) = 0 ∧ d.b (FB_SER_PARITY 1) = false ∧
      d.b (FB_SER_GRAY 1) = false ∧ (List.replicate 8 true).length = d.f (FB_SER_SKIP 1) + d.f (FB_SER_BITS 1)) ∧
    (∀ d, d = dev.setF (FB_CFG_MODE 3) 1 → stillCycles d 3 ≤ stillCycles d 3 - (d.fb 3).since) ∧ dev.f (FB_CFG_MODE 3) = 0 :=
  ⟨by decide, by decide, by decide, by rintro _ rfl; decide, by rintro _ rfl; decide, by rintro _ rfl; decide, by rintro _ rfl; decide, by decide⟩

theorem witness_LatchesAndCompares : dev.has 10 = true ∧ dev.b (LAT_CFG_EN 2) = false ∧
    (∀ d, d = ((((dev.setB (LAT_CFG_EN 2) true).setF (LAT_CFG_EDGE 2) 1).setF (LAT_CFG_SRC 2) 3).setB (FB_STAT_VALID 3) true).setF (FB_CFG_MODE 3) 1 →
      d.b (LAT_CFG_EN 2) = true ∧ (d.f (LAT_CFG_EDGE 2)).testBit 0 = true ∧ d.b (LAT_CFG_KIND 2) = false ∧ d.b (FB_STAT_VALID (d.f (LAT_CFG_SRC 2))) = true ∧
      latchWaits d 2 0 = false ∧ d.f (FB_CFG_MODE (d.f (LAT_CFG_SRC 2))) ≠ 4 ∧
      latchWaits { d with rmt := { inputs := [{ input := .latch 2 0 0 true }] } } 2 0 = true) ∧
    (∀ d, d = (dev.setImg { run := some { im with regs := [(8, (CMP_CFG_CHAN 5).addr, 0)] } }).setB (FB_STAT_VALID 0) true →
      (st d).takes 0x0603 ∧ cmpConfigured d 5 = true ∧ d.f (CMP_CFG_MODE 5) ≠ 2 ∧ cmpOwned d 5 = false ∧ d.b (FB_STAT_VALID (d.f (CMP_CFG_CHAN 5))) = true) ∧
    cmpOwned (dev.setImg { run := some { im with trigs := [{ unit := 5 }] } }) 5 = true ∧ cmpDue dev 5 = none ∧
    (∀ d, d = (dev.setCmp 5 { armed := true, detect := some 9 }).setF (CMP_PIN_CFG_PW 0) 2 → cmpDue d 5 = some 9 ∧ d.forced = false ∧ d.replaying = false ∧
      d.f (CMP_PIN_CFG_PW ((0 : Fin 16).val)) ≠ 0 ∧ (0 : Fin 16).val = d.f (CMP_CFG_PIN 5)) := by
  unfold State.takes
  exact ⟨by decide, by decide, by rintro _ rfl; decide, by rintro _ rfl; decide, by decide, by decide, by rintro _ rfl; decide⟩

theorem witness_SteppersAct : dev.has 10 = true ∧ dev.running = true ∧ dev.esc.t0 = 0 ∧ (dev.pair 0).moved = false ∧ (up 5 false).running = false ∧
    (∀ x : Stepper, x = { decayA := 32, decayB := 32, still := 800 } → 32 ≤ x.decayA ∧ x.starvedA = false ∧ 32 ≤ x.decayB ∧ x.starvedB = false ∧
      (dev.stpCfg 0).holdFrames ≤ x.still) ∧ (dev.stp 0).decayA < 32 ∧ (dev.stp 0).still < (dev.stpCfg 0).holdFrames ∧ dev.b (STP_STAT_STRONG 0) = false :=
  ⟨by decide, by decide, by decide, by decide, by decide, by rintro _ rfl; decide, by decide, by decide, by decide⟩

/-! The safety channel -/

/-- An entry of a safety-parameter set. -/
def se (cls inst : Nat) (p : SParam) (v : Int) : SEntry := { ident := cls * 2 ^ 24 + inst * 65536, par := some p, val := v }

/-- A set: output 2 in group 1 with EDM, axis 5 in group 1, connection 0 inbound, connection 1 outbound status. -/
def set0 : SafeSet := { entries := [se 0x21 2 .outGroup 1, se 0x23 5 .axGroup 1, se 0x24 0 .kind 0, se 0x24 1 .kind 1] }

/-- The device beside two Badgers. -/
def sf (a b : Badger) : State := { blk := { dev := dev, saf := { a := a, b := b } } }

/-- A channel ACTIVE with that set, its group 1 as `y`. -/
def act (y : SGrp) : Badger := { st := .active, on := true, set := some set0, grp := [(1, y)], sw := 4 }

theorem witness_SafetyCycle : dev.alive = true ∧ (sf {} {}).blk.saf.staged = none ∧ ({} : Badger).on = false ∧ dev.running = true ∧ dev.has 1 = true ∧
    (act {}).talks ∧ (act {}).frame = (act {}).frame ∧ (act {}).frame ≠ { act {} with frame := 1 }.frame ∧ 1 ≤ { act {} with cmpMiss := 1 }.cmpMiss := by
  unfold Badger.talks; decide

theorem witness_SafeInputsAndOutputs : (act {}).set = some set0 ∧ set0.nat 0x20 0 .siFlt 200 ≤ 200 ∧ 199 < set0.nat 0x20 0 .siFlt 200 ∧
    (act {}).disc.testBit 0 = false ∧ (∀ x : Badger, x = { act {} with discRun := [(0, 50)] } → (dev.tm 0).cyclesOf (set0.nat 0x20 0 .discT 50) ≤ tget 0 x.discRun 0) ∧
    (act {}).sw.testBit 2 = true ∧ (act {}).sw.testBit 3 = false ∧ (act {}).pulse.testBit 2 = false ∧ { act {} with pulse := 4 }.pulse.testBit 2 = true ∧
    set0.nat 0x21 2 .outGroup 0xFF = 1 ∧
    (∀ x : Badger, x = { act {} with sw := 0, offAt := [(2, 1)] } → set0.nat 0x21 2 .edmEn 1 = 1 ∧ x.edm.testBit 2 = false ∧ x.sw.testBit 2 = false ∧
      (x.g 1).faults.edm = false ∧ tget 0 x.offAt 2 ≠ 0 ∧ tget 0 x.offAt 2 - 1 + set0.nat 0x21 2 .edmT 20 * 800000 ≤ 16000000) := by
  exact ⟨rfl, by decide, by decide, by decide, by rintro _ rfl; decide, by decide, by decide, by decide, by decide, by decide, by rintro _ rfl; decide⟩

theorem witness_SafetyMonitors : (act {}).set = some set0 ∧ (act {}).st = .active ∧
    (∀ y : SGrp, y = { st := .ss1, still := 2 } → y.ss1At + set0.nat 0x22 1 .ss1Tmax 2000 * 800000 ≤ 1600000000 ∧
      1599999999 < y.ss1At + set0.nat 0x22 1 .ss1Tmax 2000 * 800000 ∧ set0.nat 0x22 1 .stillFrames 2 ≤ y.still) ∧
    ({ st := .ss1, still := 1 } : SGrp).still < set0.nat 0x22 1 .stillFrames 2 ∧
    set0.nat 0x23 5 .axGroup 0 = 1 ∧ (∀ x : Badger, x = { act {} with ax := [(5, { miss := 2 })] } → (x.axis 5).stale = false ∧
      set0.nat 0x22 1 .sposMiss 2 ≤ (x.axis 5).miss) ∧ ({ slsWait := some (2, 9) } : SGrp).slsWait = some (2, 9) ∧
    (∀ x : Badger, x = { act {} with conn := [(0, { idle := 1 })] } → (x.cn 0).expired = false ∧ (dev.tm 0).cyclesOf (set0.nat 0x24 0 .wdT 20) ≤ (x.cn 0).idle) ∧
    ((act {}).cn 0).idle < (dev.tm 0).cyclesOf (set0.nat 0x24 0 .wdT 20) ∧
    (∀ y : SGrp, y = { zoneIn := .reduced, vcart := 251 } → set0.nat 0x22 1 .vRed 250 ≠ 0 ∧ y.redAt + set0.nat 0x22 1 .redDelay 100 * 800000 ≤ 80000000 ∧
      (set0.nat 0x22 1 .vRed 250 : Rat) < y.vcart ∧ y.own = .none) ∧
    (∀ y : SGrp, y = { zone := .stop, clr := 4 } → set0.nat 0x22 1 .sepClear 4 ≤ y.clr) ∧ ({ zone := .stop, clr := 3 } : SGrp).clr < set0.nat 0x22 1 .sepClear 4 :=
  ⟨rfl, by decide, by rintro _ rfl; decide, by decide, by decide, by rintro _ rfl; decide, by decide, by rintro _ rfl; decide, by decide,
    by rintro _ rfl; decide +kernel, by rintro _ rfl; decide, by decide⟩

theorem witness_SafetySets : dev.alive = true ∧ ({ on := true } : Badger).st = .init ∧ (act {}).st ≠ .fault ∧ (st dev).takes 0x0902 ∧ (st dev).takes 0x0903 ∧
    (st dev).takes 0x0901 ∧ dev.bad.owner = none ∧ dev.f HOST_STATUS_DEV_STATE ≠ 4 ∧
    (∀ d : Dev, d = { dev with bad := { owner := some 0, total := 8, bytes := [1, 2, 3, 4] } } → (st d).takes 0x0902 ∧ d.bad.owner = some (0 : Fin 32).val ∧
      (8 : Word).toNat = d.bad.total ∧ (4 : Word).toNat = d.bad.bytes.length) ∧
    (commitCheck (st dev).blk 0).isSome = true ∧
    (∀ r, commitCheck (st dev).blk 0 = some r → r.status ≠ 0 ∧ r.status ≠ 1) := by
  unfold State.takes
  refine ⟨by decide, by decide, by decide, by decide, by decide, by decide, by decide, by decide, by rintro _ rfl; decide, by decide, ?_⟩
  intro r h
  have : commitCheck (st dev).blk 0 = some { step := 1, status := 0x21, detail := 2, info := 0, chan := 0 } := by decide
  rw [this] at h
  cases h
  decide

/-- In CONFIG-WAIT with a set in flash; a safety frame of 250 µs, the shortest. -/
def devF : Dev := { (((up 4 false).setF ESC_CFG_MAJ_DIV 3).setF ESC_CFG_MINOR_PER 25000).setF ESC_CFG_SAFE_DIV 1 with
  bad := { flash := List.replicate 192 0 } }

theorem witness_SafetySets_delivery : devF.has 1 = true ∧ devF.f HOST_STATUS_DEV_STATE = 4 ∧ devF.bad.flash ≠ [] ∧
    rangesDetail (devF.tm 0) (parseSet devF.bad.flash) = none := by decide +kernel

/-- A set of 192 bytes, signed with the private key 1 and the nonce 1, its key in slot 0; both channels wait for a set. -/
def setHead : List Byte := le 4 0x4641534B ++ le 2 0x0100 ++ le 2 0 ++ le 4 192 ++ le 4 1 ++ le 16 0 ++ be 32 p256g.1 ++ be 32 p256g.2 ++ le 32 0
def setSig : List Byte := be 32 0x6b17d1f2e12c4247f8bce6e563a440f277037d812deb33a0f4a13945d898c296 ++
  be 32 0x602ad7a236eb0074c89784387c58da3c1bac25f31f77ed0c3abe8eb15ea03ce5
def setKeys : Tab (List Byte) := [(0, be 32 0xd875db7def232236aec738c6b0bb3e80142f5d0fd8f4df24fed6eef5cbb50d9f)]
def stagedSet : SafLink := { owner := some 0, total := 192, bytes := setHead ++ setSig }
def signedDev : Dev := { (devF.setF KEY_SLOTS_STATE 1).setF HOST_STATUS_DEV_STATE 5 with img := { keys := setKeys }, bad := stagedSet }
def signed : State := { blk := { dev := signedDev, saf := { a := { st := .waitSet }, b := { st := .waitSet } } } }

/-- The commit of a signed set passes all its checks: about 30 s, most of it the ECDSA verification. -/
theorem witness_SafetySets_commit : signed.takes 0x0903 ∧
    (commitCheck signed.blk (parseSet (setHead ++ setSig)).sig).isNone = true := by unfold State.takes; exact ⟨by decide, by decide +kernel⟩

theorem witness_SafeMessages : dev.alive = true ∧ (act {}).set = some set0 ∧ set0.outbound 1 = true ∧ 1 ∈ set0.conns ∧ ((act {}).cn 1).txCycle = 0 ∧
    set0.nat 0x24 1 .kind 0 = 1 ∧ (outPayload (sf (act {}) (act {})).blk.saf (act {}) 1).isSome = true ∧
    (outPayload (sf (act {}) (act { zone := .stop })).blk.saf (act { zone := .stop }) 1) ≠ none ∧ dev.has 8 = true ∧
    (dev.setB (ETH_CFG_EN 2) true).b (ETH_CFG_EN 2) = true ∧ etherType (List.replicate 12 0 ++ [0x88, 0xB5]) = (0x88B5, 14) ∧ dev.b (ETH_CFG_EN 2) = false ∧
    (dev.ethp 2).safe < 64 := by decide

/-! Network time, Ethernet ports, the cell link -/

theorem witness_NetworkTimeIsDisciplined : dev.has 8 = true ∧ (up 5 true).img.run = none ∧ dev.img.run.isSome = true ∧ dev.timeState = 0 ∧
    agree [65536000, 0, 0, 0] = true ∧ agree [65536001, 0, 0, 0] = false ∧
    (∀ d, d = ((dev.setF TIME_STATE_STATE 2).setF TIME_CFG_JUMP_THR 1) → d.timeState = 2 ∧ (65536 : Int).natAbs ≤ d.f TIME_CFG_JUMP_THR * 65536 ∧
      d.f TIME_CFG_JUMP_THR * 65536 < (65537 : Int).natAbs ∧ d.b TIME_STATE_PERMIT = false ∧ d.f TIME_STATE_REFUSALS ≠ 15 ∧ d.running = true ∧
      (d.setF TIME_STATE_REFUSALS 15).f TIME_STATE_REFUSALS = 15 ∧ d.net.lastMeas + 1000 * 800000 ≤ 800000000) ∧
    (st dev).takes 0x0702 ∧ permitOk dev = true ∧ permitOk (grp0 { st := .moving }) = false ∧
    (∀ d, d = (grp0 { st := .homing }).setB TIME_STATE_PERMIT true → d.b TIME_STATE_PERMIT = true ∧ anyGroupIn d [.moving, .homing] = true) ∧
    (∀ d : Dev, d = { dev.setB TIME_STATE_PERMIT true with esc := { maj := 8000 } } → d.img.run = some im ∧ d.net.permitFrom + im.permitFrames ≤ d.esc.maj) ∧
    (st dev).takes 0x0701 := by
  unfold State.takes
  exact ⟨by decide, by decide, by decide, by decide, by decide, by decide, by rintro _ rfl; decide, by decide, by decide, by decide,
    by rintro _ rfl; decide, by rintro _ rfl; exact ⟨rfl, by decide⟩, by decide⟩

theorem witness_EthernetPorts : dev.has 8 = true ∧ (up 5 true).img.run = none ∧ { im with ptpPorts := 1 }.ptpPorts.testBit 0 = true ∧
    dev.b (ETH_CFG_EN 1) = false ∧
    (∀ d, d = dev.setB (ETH_CFG_EN 1) true → d.b (ETH_CFG_EN 1) = true ∧ (etherType (List.replicate 12 0 ++ [8, 0])).1 ≠ 0x88B5 ∧
      (announceOf d (List.replicate 12 0 ++ [8, 0])).isSome = false ∧ (d.ethp 1).rx.length < 256 ∧ gclEntries d 1 = [] ∧ (d.ethp 1).gates.testBit 7 = true ∧
      d.netTime 0 < (9 : Rat) - 8 ∧ (9 : Rat) ≤ d.netTime 0 + 1000000000 ∧ (0 : Rat) < d.netTime 800 ∧ d.netTime 0 + 1000000000 < 1000000001 ∧
      d.b (ETH_Q_LATE_POLICY 1 7) = false ∧ (8 : Rat) - 8 ≤ d.netTime 0) ∧
    (∀ d, d = (dev.setF (ETH_GCL_LEN_LEN 1) 1).setF (ETH_GCL_CYCLE_CYCLE 1) 1000 → gclEntries d 1 ≠ [] ∧ (gclPhase d 1 (d.netTime 0)).isSome = true ∧
      (gclWalk (d.f (ETH_GCL_CYCLE_CYCLE 1)) (gclEntries d 1) 0 0 0).isSome = true) ∧
    ({ txts := [(1, 5)] } : EthPort).txts = [(1, 5)] :=
  ⟨by decide, by decide, by decide, by decide, by rintro _ rfl; decide +kernel, by rintro _ rfl; decide +kernel, rfl⟩

/-- The device as member 2 of a cell of 1 and 2, which follows master 1 (SYNC), and a frame of member 1 for it. -/
def devC (k : Nat) : Dev := { (((((dev.setF CL_STATUS_STATE k).setF CL_CFG_CELL_ID 2).setF CL_STATUS_MASTER 1).setF CL_STATUS_PRESENT 6).setF CL_CFG_MEMBERS 6).setF
  ESC_CFG_MAJ_DIV 1 with net := { cl := { tbase := 5 } } }
def frame1 (ty epoch tbase flags minor : Nat) : List Byte :=
  clFrame ((({} : Dev).setF CL_CFG_CELL_ID 1).setF CL_STATUS_EPOCH epoch) ty minor (le 4 tbase ++ le 2 0 ++ le 1 flags ++ le 1 0 ++ le 8 0)

theorem witness_CellLinkJoinsDevices : dev.has 9 = true ∧ dev.clState = 0 ∧ (devC 3).clState = 3 ∧ clValid [] = false ∧
    clValid (frame1 1 0 5 4 0) = true ∧ clSrc (frame1 1 0 5 4 0) = 1 ∧ (devC 3).cellId = 2 ∧ leAt (frame1 2 0 5 0 0) 0 1 = 2 ∧
    clTbase (frame1 1 0 6 0 0) ≠ (devC 3).cl.tbase ∧ clTbase (frame1 1 0 5 0 0) = (devC 3).cl.tbase ∧
    epochAbove (clEpoch (frame1 1 1 5 0 0)) ((devC 3).f CL_STATUS_EPOCH) = true ∧ clEpoch (frame1 1 0 5 0 0) = (devC 3).f CL_STATUS_EPOCH ∧
    (devC 3).f CL_STATUS_MASTER = 1 ∧ tickMiss (devC 3) 0 0 ≤ ((devC 3).f CL_CFG_TICK_WIN : Rat) ∧ (devC 3).b CL_STATUS_R_VALID = false ∧
    (leAt (frame1 1 0 5 4 0) 19 1).testBit 0 = false ∧ (leAt (frame1 1 0 5 4 0) 18 1).testBit 2 = true ∧ (devC 3).present.testBit 1 = true ∧
    clLate (devC 3) (frame1 3 0 5 0 0) = false ∧ clLate { devC 3 with esc := { maj := 2 } } (frame1 3 0 5 0 0) = true ∧ (devC 3).rmt.inputs = [] ∧
    ((devC 3).setF CL_STATUS_PRESENT 4).present.testBit 1 = false := by decide +kernel

theorem witness_CellLinkJoinsDevices_time : (devC 3).cl.tickSeen = false ∧ 1 ≤ clRank (devC 3) ∧ clRank (devC 3) ≤ 1 ∧
    (devC 3).b CL_STATUS_ISOLATED = false ∧ (devC 3).cl.missRun < clRank (devC 3) ∧
    (∀ d : Dev, d = { devC 3 with net := { cl := { missRun := 1, members := [(1, { missing := 2 })], silent := 2 } } } → clRank d ≤ d.cl.missRun ∧
      2 ≤ (d.member 1).missing ∧ d.present.testBit 1 = true ∧ 2 ≤ d.cl.silent) ∧
    ((maskIds ((devC 1).f CL_CFG_MEMBERS)).filter (fun x => decide (x < 2))).length = 1 ∧ (devC 1).cl.fullMask = none ∧
    (devC 1).cl.since + 1 * im.formTmo * 800000 + 8 * (devC 1).tMajor ≤ 2 ^ 40 ∧ (devC 2).clState = 2 ∧ (devC 2).minor = 0 ∧
    ({ devC 3 with regs := (devC 3).regs } : Dev).bad.relay = [] :=
  ⟨by decide, by decide, by decide, by decide, by decide, by rintro _ rfl; decide, by decide, by decide, by decide, by decide, by decide, by decide⟩

/-! CAN FD controllers, field inputs and outputs -/

theorem witness_CanReceivesAndSends : dev.has 8 = true ∧ dev.b (CAN_CTRL_INIT_ACK 0) = true ∧
    (∀ d, d = ((dev.setB (CAN_CTRL_INIT_ACK 0) false).setB (CAN_CTRL_INIT 0) false).setF (CAN_TXREQ_REQ 0) 9 → d.b (CAN_CTRL_INIT_ACK 0) = false ∧
      d.b (CAN_CTRL_LBK 0) = false ∧ d.f (CAN_ERR_STATE 0) ≠ 2 ∧ canPick d 0 = some 0 ∧ d.b (CAN_CTRL_INIT 0) = false ∧ d.b (CAN_CTRL_MON 0) = false ∧
      (d.can 0).started = none) ∧
    (∀ d, d = ((((dev.setB (FLT_CFG_EN 0 5) true).setF (FLT_CFG_ACTION 0 5) 2).setF (FLT_CFG_HP 0 5) 3)) →
      (List.range 128).find? (fun j => filterMatch d 0 j {}) = some 5 ∧ d.f (FLT_CFG_ACTION 0 5) = 2 ∧ d.f (FLT_CFG_HP 0 5) < 4) ∧
    (∀ x : CanCtl, x = { started := some 3, fifo := List.replicate 64 {} } → x.started = some 3 ∧ tget none x.after 3 = none ∧ 64 ≤ x.fifo.length) ∧
    canMay dev 0 .felade = true ∧ canMay dev 0 .bar2 = false ∧ (dev.f (CAN_TXREQ_REQ 0)).testBit (4 : Fin 32) = false ∧
    ((dev.setF (CAN_TXREQ_REQ 0) 16).f (CAN_TXREQ_REQ 0)).testBit (4 : Fin 32) = true ∧ ((dev.setF (CAN_TXCAN_CAN 0) 8).f (CAN_TXCAN_CAN 0)).testBit 3 = true :=
  ⟨by decide, by decide, by rintro _ rfl; decide, by rintro _ rfl; decide +kernel, by rintro _ rfl; decide, by decide, by decide, by decide, by decide, by decide⟩

theorem witness_CanErrorsAndObjects : dev.has 8 = true ∧ dev.b (CAN_CTRL_INIT_ACK 0) = true ∧
    (∀ d, d = ((dev.setB (CAN_CTRL_INIT_ACK 0) false).setB (CAN_CTRL_INIT 0) false).setCan 0 { started := some 3 } → d.b (CAN_CTRL_INIT_ACK 0) = false ∧
      d.b (CAN_CTRL_INIT 0) = false ∧ d.b (CAN_CTRL_MON 0) = false ∧ (d.can 0).started = some 3 ∧ tget none (d.can 0).after 3 = none ∧
      (d.f (CAN_TXCAN_CAN 0)).testBit 3 = false ∧ d.f (CAN_ERR_TEC 0) < 248 ∧ (d.setF (CAN_ERR_TEC 0) 248).f (CAN_ERR_TEC 0) = 248 ∧
      d.f (CAN_ERR_STATE 0) ≠ 2 ∧ (d.setF (CAN_ERR_STATE 0) 1).f (CAN_ERR_STATE 0) = 1 ∧ d.f (CAN_LIMITS_NOACK_CANCEL 0) = 0 ∧
      tget 0 (d.can 0).ackErr 3 + 1 = (d.setF (CAN_LIMITS_NOACK_CANCEL 0) 1).f (CAN_LIMITS_NOACK_CANCEL 0)) ∧
    (∀ d, d = (dev.setF (CAN_ERR_STATE 0) 2).setB (CAN_CTRL_INIT 0) false → d.f (CAN_ERR_STATE 0) = 2 ∧ d.b (CAN_CTRL_INIT 0) = false) ∧
    ({ boLeft := some 0 } : CanCtl).boLeft = some 0 ∧ canDelegated dev 0 = false ∧ (st dev).takes 0x0601 ∧ dlcLen true 9 = 12 ∧
    canWriteOk dev 0 2 8 = false ∧ (∀ d, d = dev.setImg { run := some { im with txObjs := [(0, [{ buffer := 2 }])] } } → (st d).takes 0x0601 ∧
      canWriteOk d 0 2 8 = true ∧ txObj d 0 2 = some { buffer := 2 }) ∧ (st dev).takes 0x0602 := by
  unfold State.takes
  exact ⟨by decide, by decide, by rintro _ rfl; decide, by rintro _ rfl; decide, by decide, by decide, by decide, by decide, by decide,
    by rintro _ rfl; decide, by decide⟩

theorem witness_FieldInputsAndOutputs : dev.has 0 = true ∧ dev.running = true ∧ dev.field.level.getLsbD 3 = false ∧
    (dev.setField { level := 8 }).field.level.getLsbD 3 = true ∧ dev.foPlain 0 ∧
    (∀ d, d = (dev.setB (FO_GRP_CFG_EN 0) true).setB (FO_GRP_WD_EXPIRED 0) false → d.foPlain 0 ∧ d.b (FO_GRP_CFG_EN 0) = true ∧ d.b (FO_GRP_WD_EXPIRED 0) = false ∧
      foMay d 0 .felade = true ∧ (d.fog 0).fedAt + d.f (FO_GRP_CFG_WD_T 0) * 784000 ≤ 2 ^ 40 ∧
      foDelegated d 0 = false) ∧ foMay dev 0 .bar2 = false ∧ dev.b (FO_GRP_CFG_EN 0) = false ∧ dev.field.hold = none ∧
    (∀ d, d = dev.setField { hold := some (1, 0) } → d.field.hold = some (1, 0) ∧ 0 + d.f FIELD_HOLD_CFG_HOLD_WIN * 784000 ≤ 2 ^ 40) ∧
    (st dev).takes 0x0601 ∧ (st dev).takes 0x0602 ∧ fieldReserved dev = [] ∧
    (∀ d, d = (dev.setB (FO_GRP_CFG_EN 0) true).setImg { run := some { im with axes := [(0, some { ax0 with brake := 4 })] } } →
      ∃ j ∈ fieldReserved d, (0x10 : Word).getLsbD j = true) := by
  unfold State.takes Dev.foPlain
  exact ⟨by decide, by decide, by decide, by decide, by decide, by rintro _ rfl; decide, by decide, by decide, by decide, by rintro _ rfl; decide,
    by decide, by decide, by decide, by rintro _ rfl; decide⟩

/-! Records, power, start-up -/

theorem witness_RecordsAreRead : (st dev).takes 0x0801 ∧ (st dev).takes 0x0802 ∧
    (∀ d : Dev, d = { dev with rec_ := { idx := 2, dram := [(1, {}), (0, {})] } } → (1 : Word).toNat < d.rec_.idx ∧
      (({ idx := 2, dram := [(1, {}), (0, {})] } : Rec).dram.reverse.dropWhile (fun e => decide (e.1 < max 1 0))).take 4096 ≠ []) := by
  unfold State.takes; exact ⟨by decide, by decide, by rintro _ rfl; decide⟩

theorem witness_FatalStopsAndDumps : dev.has 2 = true ∧ dev.running = true ∧ dev.rec_.fatal = none ∧ (up 5 false).running = false ∧ dev.has 1 = true ∧
    dev.has 0 = true ∧
    (∀ d : Dev, d = { dev with rec_ := { fatal := some (4, 0, 0), dumping := true } } → d.has 1 = true ∧ d.rec_.fatal.isSome = true ∧ d.rec_.dumpHeld = false ∧
      d.rec_.dumping = true) ∧
    (∀ d : Dev, d = { dev with rec_ := { fatal := some (4, 0, 0), dumpHeld := true } } → d.rec_.dumpHeld = true ∧ d.rec_.dumping = false) ∧
    (st dev).takes 0x0B02 ∧ (st dev).takes 0x0B03 := by
  unfold State.takes
  exact ⟨by decide, by decide, by decide, by decide, by decide, by decide, by rintro _ rfl; decide, by rintro _ rfl; decide, by decide, by decide⟩

theorem witness_PowerFaultsAndClocks : (st dev).takes 0x0A02 ∧ vcoreMin ≤ (850 : BitVec 16).toNat ∧ (649 : BitVec 16).toNat < vcoreMin ∧
    dev.b VCORE_STATUS_BUSY = false ∧ (dev.setB VCORE_STATUS_BUSY true).b VCORE_STATUS_BUSY = true ∧ dev.has 0 = true ∧ dev.pwr.waiting = none ∧
    dev.pwr.vstep = none ∧
    (∀ d, d = (dev.setPwr { vstep := some 800 }).setF VCORE_STATUS_TARGET 800 → d.pwr.vstep = some 800 ∧ d.pwr.rewriting = false ∧ 800 = d.f VCORE_STATUS_TARGET ∧
      d.pwr.waiting = none) ∧
    (dev.setPwr { vstep := some 800, rewriting := true }).pwr.rewriting = true ∧ dev.state = 5 ∧ dev.rec_.fatal = none ∧
    (∀ x ∈ (dev.setPwr { temps := [(0, 1149)] }).pwr.temps, x.2 < 1150) ∧ ((sf (act {}) {}).blk.saf.ch 0).on = true ∧ ((sf (act {}) {}).blk.saf.ch 0).st ≠ .fault := by
  unfold State.takes
  exact ⟨by decide, by simp only [vcoreMin]; change _ ≤ 850; omega, by simp only [vcoreMin]; change 649 < _; omega, by decide, by decide, by decide, by decide,
    by decide, by rintro _ rfl; decide, by decide, by decide, by decide, by decide, by decide, by decide⟩

theorem witness_PowerStatesChange : (st dev).takes 0x0A01 ∧ dev.state = 5 ∧ (up 6 true).state ≠ 5 ∧ (st (up 6 true)).takes 0x0A01 ∧
    dev.b VCORE_STATUS_BUSY = false ∧ (st (up 9 false)).takes 0x0A01 ∧ (up 9 false).state = 9 ∧ (dev.setPwr { gated := 1 }).pwr.gated ≠ 0 ∧
    anyGroupIn dev [.moving, .homing, .stopping] = false ∧ anyGroupIn (grp0 { st := .moving }) [.moving, .homing, .stopping] = true ∧ dev.has 0 = true ∧
    (dev.setPwr { ungate := some 0 }).pwr.ungate = some 0 ∧ (dev.setPwr { restart := some 0 }).pwr.restart.isSome = true ∧
    ((dev.setPwr { restart := some 0 }).has 0 = true ∧ (checkImage (dev.setPwr { restart := some 0 }) dev.img.runBytes).isSome = true) ∧
    (∀ d, d = (dev.setF PAD_HOLD_FIELD_HELD 4) → d.f PAD_HOLD_FIELD_HELD = 2 ^ 2) ∧ dev.pwr.held = false ∧
    (∀ d, d = ((up 9 false).setF WAKE_EN_EN 8) → d.state = 9 ∧ (d.f WAKE_EN_EN).testBit (3 : Fin 5) = true ∧ d.pwr.rail ≠ .deep) ∧
    (∀ d, d = ((up 9 false).setF WAKE_EN_EN 2).setPwr { rail := .deep } → (d.f WAKE_EN_EN).testBit (1 : Fin 5) = true ∧ d.pwr.rail = .deep) := by
  unfold State.takes
  exact ⟨by decide, by decide, by decide, by decide, by decide, by decide, by decide, by decide, by decide, by decide, by decide, by decide, by decide,
    by decide, by rintro _ rfl; decide, by decide, by rintro _ rfl; decide, by rintro _ rfl; decide⟩

theorem witness_StartUpAndSelftest : dev.pwr.held = false ∧ (dev.setPwr { held := true }).pwr.held = true ∧ dev.has 0 = true ∧ (up 1 false).state = 1 ∧
    (up 1 false).has 0 = true ∧ (up 1 false).pwr.minSec ≤ 0 ∧ (∀ z ∈ (some (0, 0, [])).toList ++ (none : Option (Nat × Nat × List Byte)).toList,
      z.2.1 < ((up 1 false).setPwr { minSec := 1 }).pwr.minSec) ∧
    (up 2 false).state = 2 ∧ (up 2 false).pwr.selftest = none ∧ (st dev).takes 0x0204 ∧ (∃ g ∈ dev.groupList, ((grp0 { st := .standstill }).group g).st ≠ .disabled) ∧
    ((∀ g ∈ dev.groupList, (dev.group g).st = .disabled) ∧ ∀ m ∈ dev.axisList, (dev.axis m).live = false ∧ (dev.axis m).outputsOn = false) ∧
    (dev.setPwr { selftest := some 5 }).pwr.selftest = some 5 ∧ (∀ d, d = (up 2 false).setPwr { selftest := some 4 } → d.pwr.selftest = some 4 ∧ d.running = false ∧ d.has 1 = true) ∧
    (st dev).takes 0x0B01 := by
  unfold State.takes
  exact ⟨by decide, by decide, by decide, by decide, by decide, by decide, by decide, by decide, by decide, by decide, by decide, by decide, by decide,
    by rintro _ rfl; decide, by decide⟩

theorem witness_BadgersStayQuiet : (sf {} {}).blk.saf.quiet ∧ (sf (act {}) (act {})).blk.saf.quiet ∧ ∃ t, step (sf {} {}) = .next t := by
  unfold Safety.quiet Badger.quiet; exact ⟨by decide, by decide, _, rfl⟩

/-! ### Single steps -/

/-- On an empty queue the block idles; a command at the front is taken, and the rest waits. -/
theorem test_queue : step State.reset = .next State.reset ∧ (match step { st dev with pending := [.escCfgLock, .rebind] } with
    | .next t => decide (t.pending = [.rebind]) && t.blk.dev.b ESC_CFG_LOCK | _ => false) = true := by
  exact ⟨rfl, by decide⟩

/-- ADD with S of 0x7FFFFF and 1 stays at 0x7FFFFF, sets SAT, and N and Z are 0 (R190). -/
theorem test_add_saturates : (match step { tl { main := { d := [(1, 0x7FFFFF), (2, 1)] } } with pending := [.add 0 0 true 1 2] } with
    | .next t => decide ((t.blk.tile 0).pipe = [{ due := 1, event := false, dest := .d 0, val := 0x7FFFFF }]) && (t.blk.tile 0).main.sat &&
      !(t.blk.tile 0).main.n && !(t.blk.tile 0).main.z | _ => false) = true := by decide

/-- The same without S wraps to 0x800000: N is 1, SAT stays 0 (R190). -/
theorem test_add_wraps : (match step { tl { main := { d := [(1, 0x7FFFFF), (2, 1)] } } with pending := [.add 0 0 false 1 2] } with
    | .next t => decide ((t.blk.tile 0).pipe = [{ due := 1, event := false, dest := .d 0, val := 0x800000 }]) && !(t.blk.tile 0).main.sat &&
      (t.blk.tile 0).main.n | _ => false) = true := by decide

/-- A trip input that becomes active trips the groups of its mask (R252), and no other. -/
theorem test_trip : (match step { st (dev.setF (PWM_GCFG_TRIP_MASK 3) 1) with pending := [.pwmTrip 0 true 0] } with
    | .next t => t.blk.dev.b (PWM_GCTL_TRIPPED 3) && !t.blk.dev.b (PWM_GCTL_TRIPPED 2) | _ => false) = true := by decide

/-- A write of 1 to a W1C bit clears it; a read-only field keeps its value (Table 0-4). -/
theorem test_w1c : (match step { st ((dev.setB (STEP_FLAGS_LATE_COMMIT 2) true)) with pending := [.registerWrite .felade (STEP_FLAGS_LATE_COMMIT 2).addr 4 3 0] } with
    | .next t => !t.blk.dev.b (STEP_FLAGS_LATE_COMMIT 2) | _ => false) = true := by decide

/-- `arm.override` above 200 % cannot be sent; at 0 it is taken (Table 5-9). -/
theorem test_override : (match step { st dev with pending := [.armOverride 0 0 0] } with
    | .next t => decide ((t.blk.dev.group 0).override_ = 0) && decide (t.blk.dev.ans = (0, {})) | _ => false) = true := by decide

end Sys2Proof.Tests
end

section
/-!
PROOF. Circular addressing (R195): what a post-modify computes, and that a load leaves it in the write pipeline.
-/
namespace Sys2Proof.Machine

/-! ### Writes in flight -/

/-- Queueing a write adds it and drops none. -/
@[simp] theorem mem_pipeIns (x w : TWrite) (l : List TWrite) : x ∈ pipeIns w l ↔ x = w ∨ x ∈ l := by
  induction l with
  | nil => simp [pipeIns]
  | cons y r ih =>
    unfold pipeIns
    split
    · rw [List.mem_cons, ih, List.mem_cons, or_left_comm]
    · rw [List.mem_cons]

/-- A result stands in the pipeline as the write that `Tile.write` names. -/
theorem write_mem_result (t : Tile) (lat : Nat) (d : TDest) (v : Acc) : t.write lat d v ∈ (t.result lat d v).pipe :=
  (mem_pipeIns _ _ _).2 (.inl rfl)

/-! ### The circular buffer of a pointer -/

theorem wrapCirc_eq_ofInt (b l : Nat) (x : Int) :
    wrapCirc b l x = BitVec.ofInt 15 (if l = 0 then x else if (b + l : Nat) ≤ x then x - l else if x < b then x + l else x) := by
  simp only [wrapCirc, apply_ite (BitVec.ofInt 15)]

/-- P6 has a buffer in the main context only, P7 in the event context only (Table 8-2). -/
theorem circ_length (t : Tile) (p : Fin 8) :
    (t.circ p).2 = if t.inEvent then (if p = 7 then t.l1.toNat else 0) else (if p = 6 then t.l0.toNat else 0) := by
  cases h : t.inEvent <;> simp [Tile.circ, h, apply_ite Prod.snd]

theorem circ_base (t : Tile) (p : Fin 8) (hl : (t.circ p).2 ≠ 0) :
    (t.circ p).1 = if t.inEvent then t.b1.toNat else t.b0.toNat := by
  cases h : t.inEvent <;> simp_all [Tile.circ, apply_ite Prod.snd]

/-- Without a buffer the base plays no part, so the context alone may name it. -/
theorem wrapCirc_circ (t : Tile) (p : Fin 8) (x : Int) :
    wrapCirc (t.circ p).1 (t.circ p).2 x = wrapCirc (if t.inEvent then t.b1.toNat else t.b0.toNat) (t.circ p).2 x := by
  by_cases hl : (t.circ p).2 = 0
  · simp only [wrapCirc, hl, if_true]
  · rw [circ_base t p hl]

/-! ### The post-modify -/

theorem post_eq_resultP (t : Tile) (p : Fin 8) (mode : PMode) (m : Fin 4) (step : Nat) (h : mode ≠ .none) :
    t.post p mode m step = t.resultP 1 p (t.stepped p mode m step) := if_neg h

theorem post_keeps (t : Tile) (p : Fin 8) (mode : PMode) (m : Fin 4) (step : Nat) :
    (t.post p mode m step).ctx = t.ctx ∧ (t.post p mode m step).inEvent = t.inEvent ∧
    (t.post p mode m step).heldTrig = t.heldTrig := by
  unfold Tile.post
  split <;> exact ⟨rfl, rfl, rfl⟩

theorem pipe_tick (t : Tile) (n : Nat) : (t.tick n).pipe = t.pipe := by
  obtain ⟨-, -, -, hpipe, -, -⟩ := tick_keeps t n
  exact hpipe

section
variable {s : State} {n : Fin 16} {o : MemOp} {u : Tile}
variable (hu : u = (s.blk.tile n).land) (hr : s.tileReady n) (hm : o.mode ≠ .none)
include hu hr hm

/-- An instruction that makes a result and has a post-modify leaves the new pointer in flight, due in the next cycle. -/
theorem issue_completes_modify {c : Instr} {k lat step : Nat} {op : Tile → TStep} {d : TDest} {v : Acc}
    (hc : exec c s = .next (s.issue n k op)) (hop : op u = ((u.result lat d v).post o.p o.mode o.m step, false)) :
    Completes c s (fun t => u.write 1 (.p o.p) ((u.stepped o.p o.mode o.m step).setWidth 56) ∈ (t.blk.tile n).pipe) := by
  obtain ⟨hpower, hready⟩ := hr
  obtain ⟨hctx, hevent, htrig⟩ := post_keeps (u.result lat d v) o.p o.mode o.m step
  have hdelay : u.ctx.delay = 0 := by
    obtain ⟨-, hnone, -⟩ := hready
    obtain ⟨-, -, hland⟩ := land_keeps (s.blk.tile n)
    rw [hu, hland, hnone]
  subst hu
  refine ⟨_, hc, ?_⟩
  rw [issue_state s n k op hpower hready (by rw [hop]) (by rw [hop, hctx]; exact hdelay) (by rw [hop, hevent]; rfl)
    (by rw [hop, htrig]; rfl)]
  simp only [tile_setTile_same, pipe_setCtx, pipe_tick, hop, post_eq_resultP _ _ _ _ _ hm]
  exact write_mem_result _ _ _ _

theorem ld_completes_modify (dd : Fin 8) (ha : mayLoad u.run (rdP u.ctx o.p).toNat = true) :
    Completes (.ld n dd o) s (fun t => u.write 1 (.p o.p) ((u.stepped o.p o.mode o.m 1).setWidth 56) ∈ (t.blk.tile n).pipe) :=
  issue_completes_modify hu hr hm (op := tLd dd o) rfl (by simp only [tLd, Tile.addr, ha]; rfl)

theorem ldda_completes_modify (ad : Fin 2) (ha : mayLoadD u.run (rdP u.ctx o.p).toNat = true) :
    Completes (.ldda n ad o) s (fun t => u.write 1 (.p o.p) ((u.stepped o.p o.mode o.m 2).setWidth 56) ∈ (t.blk.tile n).pipe) :=
  issue_completes_modify hu hr hm (op := tLdda ad o) rfl (by simp only [tLdda, Tile.addr, ha]; rfl)

end

end Sys2Proof.Machine

namespace Sys2Proof
open Machine

/-- Settles O32: LD and LDDA queue the stepped pointer, which is the sum of R195 brought back by one length. -/
theorem tileCircularAddressing : Obligations.TileCircularAddressing := by
  unfold Obligations.TileCircularAddressing
  intro s n dd ad o u step b l x hu hr hload hloadD _ hmode hb hl hx
  have hstepped : u.stepped o.p o.mode o.m step = wrapCirc (u.circ o.p).1 (u.circ o.p).2 x := by
    rw [hx]
    cases hm : o.mode with
    | none => exact absurd hm hmode
    | inc => rfl
    | dec => rfl
    | mod => rfl
  rw [wrapCirc_circ, circ_length, ← hb, ← hl, wrapCirc_eq_ofInt] at hstepped
  refine ⟨_, rfl, ?_, ?_⟩
  · rintro rfl
    rw [← hstepped]
    exact ld_completes_modify hu hr hmode dd hload
  · rintro rfl
    rw [← hstepped]
    exact ldda_completes_modify hu hr hmode ad hloadD

end Sys2Proof
end

section
/-!
PROOF. Staged PWM registers (R244 to R246): the fields that a step of the reload writes, the transfer edge by edge, the count of
reloads with a difference, and the writes to staging and to COMMIT.
-/
namespace Sys2Proof.Machine

open Fld

/-! ### Fields that an update leaves as they are -/

/-- The field lies within its register. -/
def Fld.ok (x : Fld) : Bool := decide (x.lo ≤ x.hi) && decide (x.hi < 32)

theorem Fld.ok_bounds {x : Fld} (h : x.ok = true) : x.lo ≤ x.hi ∧ x.hi < 32 := by
  simpa [Fld.ok] using h

theorem f_lt (d : Dev) (x : Fld) : d.f x < 2 ^ (x.hi - x.lo + 1) := Nat.mod_lt _ (Nat.two_pow_pos _)

theorem f_of_regs {d e : Dev} (h : e.regs = d.regs) (x : Fld) : e.f x = d.f x := by unfold Dev.f Dev.reg; rw [h]

theorem f_setF_same (d : Dev) {x : Fld} (v : Nat) (hx : x.ok = true) (hv : v < 2 ^ (x.hi - x.lo + 1)) : (d.setF x v).f x = v :=
  f_setF d x v (Fld.ok_bounds hx).1 (Fld.ok_bounds hx).2 hv

/-- A field takes the whole value of another field of its width. -/
theorem f_setF_copy (d e : Dev) {x y : Fld} (hx : x.ok = true) (hw : y.hi - y.lo = x.hi - x.lo) : (d.setF x (e.f y)).f x = e.f y :=
  f_setF_same d _ hx (hw ▸ f_lt e y)

theorem f_setF_other (d : Dev) {x y : Fld} (v : Nat) (hx : x.ok = true) (hy : y.ok = true) (h : x.apart y) : (d.setF x v).f y = d.f y :=
  f_setF_apart d x y v (Fld.ok_bounds hx).1 (Fld.ok_bounds hx).2 (Fld.ok_bounds hy).1 h

theorem b_setB_same (d : Dev) {x : Fld} (v : Bool) (hx : x.ok = true) : (d.setB x v).b x = v :=
  b_setB d x v (Fld.ok_bounds hx).1 (Fld.ok_bounds hx).2

/-- Every field that shares no bit with those listed reads as before. -/
def Dev.sameFieldsBut (d e : Dev) (l : List Fld) : Prop := ∀ y : Fld, y.ok = true → (∀ x ∈ l, x.apart y) → e.f y = d.f y

theorem Dev.sameFieldsBut.refl (d : Dev) (l : List Fld) : d.sameFieldsBut d l := fun _ _ _ => rfl

section
variable {d e : Dev} {l : List Fld} (h : d.sameFieldsBut e l)
include h

theorem Dev.sameFieldsBut.trans {e' : Dev} (h' : e.sameFieldsBut e' l) : d.sameFieldsBut e' l :=
  fun y hy ha => (h' y hy ha).trans (h y hy ha)

theorem Dev.sameFieldsBut.mono {l' : List Fld} (hl : l ⊆ l') : d.sameFieldsBut e l' :=
  fun y hy ha => h y hy fun x hx => ha x (hl hx)

theorem Dev.sameFieldsBut.setF {x : Fld} (v : Nat) (hm : x ∈ l) (hx : x.ok = true := by rfl) : d.sameFieldsBut (e.setF x v) l :=
  fun y hy ha => (f_setF_other e v hx hy (ha x hm)).trans (h y hy ha)

theorem Dev.sameFieldsBut.setB {x : Fld} (v : Bool) (hm : x ∈ l) (hx : x.ok = true := by rfl) : d.sameFieldsBut (e.setB x v) l :=
  h.setF v.toNat hm hx

/-- Work on other parts of the device touches no field. -/
theorem Dev.sameFieldsBut.regs_eq {e' : Dev} (hr : e'.regs = e.regs) : d.sameFieldsBut e' l := fun y hy ha =>
  (f_of_regs hr y).trans (h y hy ha)

end

theorem Dev.sameFieldsBut.ite {d e e' : Dev} {l : List Fld} {p : Prop} [Decidable p] (h : d.sameFieldsBut e l)
    (h' : d.sameFieldsBut e' l) : d.sameFieldsBut (if p then e else e') l := by
  split
  · exact h
  · exact h'

theorem sameFieldsBut_forEach {α : Type} {w : List Fld} (l : List α) (f : Dev → α → Dev) (h : ∀ (x : Dev) a, x.sameFieldsBut (f x a) w)
    (d : Dev) : d.sameFieldsBut (forEach l f d) w :=
  forEach_ind (fun x => d.sameFieldsBut x w) l f d (.refl d w) fun x a _ hx => hx.trans (h x a)

/-- A bit is the lowest bit of its field. -/
theorem b_eq_testBit_f (d : Dev) (x : Fld) : d.b x = (d.f x).testBit 0 := by rw [f_testBit]; simp [Dev.b]

theorem b_congr {d e : Dev} {x : Fld} (h : e.f x = d.f x) : e.b x = d.b x := by rw [b_eq_testBit_f, b_eq_testBit_f, h]

/-! ### The edges of a group, in the order of their registers -/

/-- Staged and live register of edge `k` of group `g`: the rise of channel `c` is edge `2c`, its fall `2c + 1`. -/
def stagedEdge (g k : Nat) : Nat := 0x200010 + 0x40 * g + 4 * k
def liveEdge (g k : Nat) : Nat := 0x200410 + 0x40 * g + 4 * k

/-- Both fields of an edge register. -/
def edgeCoarse (a : Nat) : Fld := ⟨a, 15, 0⟩
def edgeFine (a : Nat) : Fld := ⟨a, 18, 16⟩

theorem fine_apart_coarse (a : Nat) : (edgeFine a).apart (edgeCoarse a) := .inr (.inr (of_decide_eq_true rfl))

theorem rise_eq_edge (g c : Nat) :
    (PWM_GRP_RISE_COARSE g c, PWM_GRP_RISE_FINE g c, PWM_LIVE_RISE_COARSE g c, PWM_LIVE_RISE_FINE g c) =
      (edgeCoarse (stagedEdge g (2 * c)), edgeFine (stagedEdge g (2 * c)), edgeCoarse (liveEdge g (2 * c)), edgeFine (liveEdge g (2 * c))) := by
  simp only [PWM_GRP_RISE_COARSE, PWM_GRP_RISE_FINE, PWM_LIVE_RISE_COARSE, PWM_LIVE_RISE_FINE, edgeCoarse, edgeFine, stagedEdge,
    liveEdge, Prod.mk.injEq, Fld.mk.injEq, and_true]
  omega

theorem fall_eq_edge (g c : Nat) :
    (PWM_GRP_FALL_COARSE g c, PWM_GRP_FALL_FINE g c, PWM_LIVE_FALL_COARSE g c, PWM_LIVE_FALL_FINE g c) =
      (edgeCoarse (stagedEdge g (2 * c + 1)), edgeFine (stagedEdge g (2 * c + 1)), edgeCoarse (liveEdge g (2 * c + 1)),
        edgeFine (liveEdge g (2 * c + 1))) := by
  simp only [PWM_GRP_FALL_COARSE, PWM_GRP_FALL_FINE, PWM_LIVE_FALL_COARSE, PWM_LIVE_FALL_FINE, edgeCoarse, edgeFine, stagedEdge,
    liveEdge, Prod.mk.injEq, Fld.mk.injEq, and_true]
  omega

/-- Does staged edge `k` of the group lie above its staged period (R245)? -/
def edgeOver (d : Dev) (g k : Nat) : Bool :=
  decide (8 * d.f (PWM_GRP_PER_PER g) < edgeSteps d (edgeCoarse (stagedEdge g k)) (edgeFine (stagedEdge g k)))

theorem edgeOver_rise (d : Dev) (g c : Nat) : edgeOver d g (2 * c) =
    decide (8 * d.f (PWM_GRP_PER_PER g) < edgeSteps d (PWM_GRP_RISE_COARSE g c) (PWM_GRP_RISE_FINE g c)) := by
  obtain ⟨hc, hf, -⟩ := by simpa only [Prod.mk.injEq] using rise_eq_edge g c
  rw [edgeOver, hc, hf]

theorem edgeOver_fall (d : Dev) (g c : Nat) : edgeOver d g (2 * c + 1) =
    decide (8 * d.f (PWM_GRP_PER_PER g) < edgeSteps d (PWM_GRP_FALL_COARSE g c) (PWM_GRP_FALL_FINE g c)) := by
  obtain ⟨hc, hf, -⟩ := by simpa only [Prod.mk.injEq] using fall_eq_edge g c
  rw [edgeOver, hc, hf]

theorem any_range_two_mul (p : Nat → Bool) (n : Nat) :
    (List.range (2 * n)).any p = (List.range n).any (fun c => p (2 * c) || p (2 * c + 1)) := by
  induction n with
  | zero => rfl
  | succ n ih => simp [Nat.mul_succ, List.range_succ, ih]

/-- One of the twelve edges lies above PER exactly if a channel's rise or fall does. -/
theorem any_edgeOver (d : Dev) (g : Nat) : (List.range 12).any (edgeOver d g) = (List.range 6).any (fun c =>
    decide (8 * d.f (PWM_GRP_PER_PER g) < edgeSteps d (PWM_GRP_RISE_COARSE g c) (PWM_GRP_RISE_FINE g c)) ||
    decide (8 * d.f (PWM_GRP_PER_PER g) < edgeSteps d (PWM_GRP_FALL_COARSE g c) (PWM_GRP_FALL_FINE g c))) := by
  rw [any_range_two_mul (edgeOver d g) 6]
  simp only [edgeOver_rise, edgeOver_fall]

/-- Live edge `k` of `e` holds what R245 makes of the staging of `d`. -/
def edgeMoved (d e : Dev) (g k : Nat) : Prop :=
  if edgeOver d g k then e.f (edgeCoarse (liveEdge g k)) = d.f (PWM_GRP_PER_PER g) ∧ e.f (edgeFine (liveEdge g k)) = 0
  else e.f (edgeCoarse (liveEdge g k)) = d.f (edgeCoarse (stagedEdge g k)) ∧
    e.f (edgeFine (liveEdge g k)) = d.f (edgeFine (stagedEdge g k))

theorem edgeOver_congr {d d' : Dev} {g k : Nat} (hp : d'.f (PWM_GRP_PER_PER g) = d.f (PWM_GRP_PER_PER g))
    (hc : d'.f (edgeCoarse (stagedEdge g k)) = d.f (edgeCoarse (stagedEdge g k)))
    (hf : d'.f (edgeFine (stagedEdge g k)) = d.f (edgeFine (stagedEdge g k))) : edgeOver d' g k = edgeOver d g k := by
  rw [edgeOver, edgeOver, edgeSteps, edgeSteps, hp, hc, hf]

theorem edgeMoved_congr {d d' e e' : Dev} {g k : Nat} (hp : d'.f (PWM_GRP_PER_PER g) = d.f (PWM_GRP_PER_PER g))
    (hc : d'.f (edgeCoarse (stagedEdge g k)) = d.f (edgeCoarse (stagedEdge g k)))
    (hf : d'.f (edgeFine (stagedEdge g k)) = d.f (edgeFine (stagedEdge g k)))
    (hc' : e'.f (edgeCoarse (liveEdge g k)) = e.f (edgeCoarse (liveEdge g k)))
    (hf' : e'.f (edgeFine (liveEdge g k)) = e.f (edgeFine (liveEdge g k))) (h : edgeMoved d' e g k) : edgeMoved d e' g k := by
  simpa only [edgeMoved, edgeOver_congr hp hc hf, hp, hc, hf, hc', hf'] using h

/-! ### The transfer (R244, R245) -/

/-- Edge `k` moves to live. -/
def pwmMoveNth (g : Nat) (d : Dev) (k : Nat) : Dev :=
  pwmMoveEdge d g (k / 2) (edgeCoarse (stagedEdge g k)) (edgeFine (stagedEdge g k)) (edgeCoarse (liveEdge g k)) (edgeFine (liveEdge g k))

/-- PER and the dead times move to live. -/
def pwmMoveHead (d : Dev) (g : Nat) : Dev :=
  ((d.setF (PWM_LIVE_PER_PER g) (d.f (PWM_GRP_PER_PER g))).setF (PWM_LIVE_DT_DT_LH g) (d.f (PWM_GRP_DT_DT_LH g))).setF
    (PWM_LIVE_DT_DT_HL g) (d.f (PWM_GRP_DT_DT_HL g))

/-- Work in pairs, in order. -/
theorem forEach_range_two_mul {σ : Type} (f : σ → Nat → σ) (s : σ) (n : Nat) :
    forEach (List.range (2 * n)) f s = forEach (List.range n) (fun x c => f (f x (2 * c)) (2 * c + 1)) s := by
  induction n with
  | zero => rfl
  | succ n ih =>
    rw [Nat.mul_succ, List.range_succ, List.range_succ, List.range_succ]
    simp only [forEach, List.foldl_append, List.foldl_cons, List.foldl_nil] at ih ⊢
    rw [ih]

/-- The rise of channel `c` and then its fall move as edges `2c` and `2c + 1`. -/
theorem pwmMoveEdge_pair (d : Dev) (g c : Nat) :
    pwmMoveEdge (pwmMoveEdge d g c (PWM_GRP_RISE_COARSE g c) (PWM_GRP_RISE_FINE g c) (PWM_LIVE_RISE_COARSE g c) (PWM_LIVE_RISE_FINE g c))
      g c (PWM_GRP_FALL_COARSE g c) (PWM_GRP_FALL_FINE g c) (PWM_LIVE_FALL_COARSE g c) (PWM_LIVE_FALL_FINE g c) =
    pwmMoveNth g (pwmMoveNth g d (2 * c)) (2 * c + 1) := by
  obtain ⟨hr1, hr2, hr3, hr4⟩ := by simpa only [Prod.mk.injEq] using rise_eq_edge g c
  obtain ⟨hf1, hf2, hf3, hf4⟩ := by simpa only [Prod.mk.injEq] using fall_eq_edge g c
  have h0 : 2 * c / 2 = c := by omega
  have h1 : (2 * c + 1) / 2 = c := by omega
  simp only [pwmMoveNth, h0, h1, hr1, hr2, hr3, hr4, hf1, hf2, hf3, hf4]

/-- A transfer moves PER and the dead times, then the twelve edges in the order of their registers. -/
theorem pwmMove_eq (d : Dev) (g : Nat) : pwmMove d g = forEach (List.range 12) (pwmMoveNth g) (pwmMoveHead d g) := by
  rw [forEach_range_two_mul (pwmMoveNth g) _ 6]
  simp only [← pwmMoveEdge_pair]
  rfl

section
variable (d : Dev) (g k : Nat)

theorem pwmMoveNth_keeps :
    d.sameFieldsBut (pwmMoveNth g d k) [PWM_GRP_FLAGS_CLAMP g, edgeCoarse (liveEdge g k), edgeFine (liveEdge g k)] := by
  unfold pwmMoveNth pwmMoveEdge
  refine .ite (.regs_eq (.setB (.setF (.setF (.refl _ _) _ ?_) _ ?_) _ ?_) (setPwm_regs _ _ _)) (.setF (.setF (.refl _ _) _ ?_) _ ?_)
  all_goals simp

theorem pwmMoveNth_over (h : edgeOver d g k = true) : (pwmMoveNth g d k).regs =
    (((d.setF (edgeCoarse (liveEdge g k)) (d.f (PWM_GRP_PER_PER g))).setF (edgeFine (liveEdge g k)) 0).setB
      (PWM_GRP_FLAGS_CLAMP g) true).regs := by
  rw [edgeOver, decide_eq_true_eq, Nat.mul_comm] at h
  rw [pwmMoveNth, pwmMoveEdge, if_pos h, setPwm_regs]

theorem pwmMoveNth_fits (h : edgeOver d g k = false) : pwmMoveNth g d k =
    (d.setF (edgeCoarse (liveEdge g k)) (d.f (edgeCoarse (stagedEdge g k)))).setF (edgeFine (liveEdge g k))
      (d.f (edgeFine (stagedEdge g k))) := by
  rw [edgeOver, decide_eq_false_iff_not, Nat.mul_comm] at h
  rw [pwmMoveNth, pwmMoveEdge, if_neg h]

/-- FLAGS and the live edges are different registers. -/
theorem clamp_addr_ne_liveEdge : (PWM_GRP_FLAGS_CLAMP g).addr ≠ liveEdge g k := by
  simp only [PWM_GRP_FLAGS_CLAMP, liveEdge]; omega

theorem pwmMoveNth_moved : edgeMoved d (pwmMoveNth g d k) g k := by
  unfold edgeMoved
  cases h : edgeOver d g k with
  | true =>
    have hc : ∀ x : Fld, x.ok = true → x.addr = liveEdge g k → (pwmMoveNth g d k).f x =
        ((d.setF (edgeCoarse (liveEdge g k)) (d.f (PWM_GRP_PER_PER g))).setF (edgeFine (liveEdge g k)) 0).f x := fun x hx ha =>
      (f_of_regs (pwmMoveNth_over d g k h) x).trans
        (f_setF_other _ _ rfl hx (.inl (ha ▸ clamp_addr_ne_liveEdge g k)))
    refine ⟨(hc _ rfl rfl).trans ?_, (hc _ rfl rfl).trans (f_setF_same _ _ rfl (Nat.two_pow_pos _))⟩
    exact (f_setF_other _ _ rfl rfl (fine_apart_coarse _)).trans (f_setF_copy _ _ rfl rfl)
  | false =>
    rw [pwmMoveNth_fits d g k h]
    refine ⟨?_, f_setF_copy _ _ rfl rfl⟩
    exact (f_setF_other _ _ rfl rfl (fine_apart_coarse _)).trans (f_setF_copy _ _ rfl rfl)

theorem pwmMoveNth_clamp :
    (pwmMoveNth g d k).b (PWM_GRP_FLAGS_CLAMP g) = (d.b (PWM_GRP_FLAGS_CLAMP g) || edgeOver d g k) := by
  cases h : edgeOver d g k with
  | true => rw [b_congr (f_of_regs (pwmMoveNth_over d g k h) _), b_setB_same _ _ rfl, Bool.or_true]
  | false =>
    have hne := (clamp_addr_ne_liveEdge g k).symm
    rw [pwmMoveNth_fits d g k h, Bool.or_false]
    refine b_congr ?_
    rw [f_setF_other _ _ rfl rfl (.inl hne), f_setF_other _ _ rfl rfl (.inl hne)]

end

/-- `e` is `d` with PER, the dead times and the first `n` edges of group `g` moved to live: what the rest of a transfer may rely on. -/
structure MovedUpTo (d e : Dev) (g n : Nat) : Prop where
  keeps : ∀ y : Fld, y.ok = true → (PWM_GRP_FLAGS_CLAMP g).apart y → y.addr < (PWM_LIVE_PER_PER g).addr ∨ liveEdge g n ≤ y.addr →
    e.f y = d.f y
  per : e.f (PWM_LIVE_PER_PER g) = d.f (PWM_GRP_PER_PER g)
  clamp : e.b (PWM_GRP_FLAGS_CLAMP g) = (d.b (PWM_GRP_FLAGS_CLAMP g) || (List.range n).any (edgeOver d g))
  edge : ∀ k < n, edgeMoved d e g k

/-- The head of a transfer writes PER and the dead times of the live group. -/
theorem f_pwmMoveHead (d : Dev) (g : Nat) (y : Fld) (hy : y.ok = true) (ha : y.addr < (PWM_LIVE_PER_PER g).addr ∨ liveEdge g 0 ≤ y.addr) :
    (pwmMoveHead d g).f y = d.f y := by
  have hw : d.sameFieldsBut (pwmMoveHead d g) [PWM_LIVE_PER_PER g, PWM_LIVE_DT_DT_LH g, PWM_LIVE_DT_DT_HL g] :=
    .setF (.setF (.setF (.refl _ _) _ (by simp)) _ (by simp)) _ (by simp)
  refine hw y hy fun x hx => .inl ?_
  simp only [List.mem_cons, List.not_mem_nil, or_false] at hx
  rcases hx with rfl | rfl | rfl <;>
    simp only [PWM_LIVE_PER_PER, PWM_LIVE_DT_DT_LH, PWM_LIVE_DT_DT_HL, liveEdge] at ha ⊢ <;> omega

theorem per_pwmMoveHead (d : Dev) (g : Nat) : (pwmMoveHead d g).f (PWM_LIVE_PER_PER g) = d.f (PWM_GRP_PER_PER g) := by
  have hl : (PWM_LIVE_DT_DT_LH g).addr ≠ (PWM_LIVE_PER_PER g).addr := by simp only [PWM_LIVE_PER_PER, PWM_LIVE_DT_DT_LH]; omega
  have hh : (PWM_LIVE_DT_DT_HL g).addr ≠ (PWM_LIVE_PER_PER g).addr := hl
  exact ((f_setF_other _ _ rfl rfl (.inl hh)).trans (f_setF_other _ _ rfl rfl (.inl hl))).trans (f_setF_copy _ _ rfl rfl)

theorem movedUpTo_head (d : Dev) (g : Nat) : MovedUpTo d (pwmMoveHead d g) g 0 where
  keeps y hy _ ha := f_pwmMoveHead d g y hy ha
  per := per_pwmMoveHead d g
  clamp := by
    rw [List.range_zero, List.any_nil, Bool.or_false]
    exact b_congr (f_pwmMoveHead d g _ rfl (.inl (by simp only [PWM_GRP_FLAGS_CLAMP, PWM_LIVE_PER_PER]; omega)))
  edge k hk := absurd hk (Nat.not_lt_zero k)

section
variable {d e : Dev} {g n : Nat} (h : MovedUpTo d e g n)
include h

/-- The staging of the group is as it was. -/
theorem MovedUpTo.staged {y : Fld} (hy : y.ok = true) (ha : y.addr = (PWM_GRP_PER_PER g).addr ∨ ∃ k < 12, y.addr = stagedEdge g k) :
    e.f y = d.f y := by
  refine h.keeps y hy (.inl ?_) (.inl ?_) <;>
    simp only [PWM_GRP_FLAGS_CLAMP, PWM_GRP_PER_PER, PWM_LIVE_PER_PER, stagedEdge] at ha ⊢ <;> omega

theorem MovedUpTo.staged_per : e.f (PWM_GRP_PER_PER g) = d.f (PWM_GRP_PER_PER g) := h.staged rfl (.inl rfl)

theorem MovedUpTo.staged_edge {k : Nat} (hk : k < 12) : e.f (edgeCoarse (stagedEdge g k)) = d.f (edgeCoarse (stagedEdge g k)) ∧
    e.f (edgeFine (stagedEdge g k)) = d.f (edgeFine (stagedEdge g k)) :=
  ⟨h.staged rfl (.inr ⟨k, hk, rfl⟩), h.staged rfl (.inr ⟨k, hk, rfl⟩)⟩

theorem MovedUpTo.over {k : Nat} (hk : k < 12) : edgeOver e g k = edgeOver d g k :=
  edgeOver_congr h.staged_per (h.staged_edge hk).1 (h.staged_edge hk).2

/-- The next edge moves from the same staging. -/
theorem MovedUpTo.next (hn : n < 12) : MovedUpTo d (pwmMoveNth g e n) g (n + 1) where
  keeps y hy hc ha := by
    have hl : liveEdge g n ≠ y.addr ∧ (y.addr < (PWM_LIVE_PER_PER g).addr ∨ liveEdge g n ≤ y.addr) := by
      simp only [PWM_LIVE_PER_PER, liveEdge] at ha ⊢; omega
    refine (pwmMoveNth_keeps e g n y hy ?_).trans (h.keeps y hy hc hl.2)
    simpa using ⟨hc, .inl hl.1, .inl hl.1⟩
  per := by
    have hl : liveEdge g n ≠ (PWM_LIVE_PER_PER g).addr ∧ (PWM_GRP_FLAGS_CLAMP g).addr ≠ (PWM_LIVE_PER_PER g).addr := by
      simp only [PWM_LIVE_PER_PER, PWM_GRP_FLAGS_CLAMP, liveEdge]; omega
    refine (pwmMoveNth_keeps e g n _ rfl ?_).trans h.per
    simpa using ⟨.inl hl.2, .inl hl.1, .inl hl.1⟩
  clamp := by
    rw [pwmMoveNth_clamp, h.clamp, h.over hn, List.range_succ, List.any_append, List.any_cons, List.any_nil, Bool.or_false, Bool.or_assoc]
  edge k hk := by
    have hkn : k < 12 := by omega
    obtain rfl | hlt := Nat.eq_or_lt_of_le (Nat.le_of_lt_succ hk)
    · exact edgeMoved_congr h.staged_per (h.staged_edge hkn).1 (h.staged_edge hkn).2 rfl rfl (pwmMoveNth_moved e g k)
    · have hl : liveEdge g n ≠ liveEdge g k := by simp only [liveEdge]; omega
      have ha : ∀ y : Fld, y.ok = true → y.addr = liveEdge g k → (pwmMoveNth g e n).f y = e.f y := fun y hy ha => by
        refine pwmMoveNth_keeps e g n y hy ?_
        simpa [ha] using ⟨.inl (ha ▸ clamp_addr_ne_liveEdge g k), .inl (ha ▸ hl), .inl (ha ▸ hl)⟩
      exact edgeMoved_congr rfl rfl rfl (ha _ rfl rfl) (ha _ rfl rfl) (h.edge k hlt)

end

/-- A whole transfer (R244, R245). -/
theorem pwmMove_moved (d : Dev) (g : Nat) : MovedUpTo d (pwmMove d g) g 12 := by
  have h : ∀ n ≤ 12, MovedUpTo d (forEach (List.range n) (pwmMoveNth g) (pwmMoveHead d g)) g n := by
    intro n hn
    induction n with
    | zero => exact movedUpTo_head d g
    | succ n ih =>
      rw [List.range_succ, forEach, List.foldl_append]
      exact (ih (by omega)).next (by omega)
  rw [pwmMove_eq]
  exact h 12 (Nat.le_refl 12)

/-! ### Staging against live (R246) -/

/-- The fields that the comparison reads for channel `c`. -/
def diffFields (g c : Nat) : List Fld :=
  [PWM_GRP_PER_PER g, PWM_LIVE_PER_PER g, PWM_GRP_DT_DT_LH g, PWM_LIVE_DT_DT_LH g, PWM_GRP_DT_DT_HL g, PWM_LIVE_DT_DT_HL g,
    PWM_GRP_RISE_COARSE g c, PWM_GRP_RISE_FINE g c, PWM_LIVE_RISE_COARSE g c, PWM_LIVE_RISE_FINE g c,
    PWM_GRP_FALL_COARSE g c, PWM_GRP_FALL_FINE g c, PWM_LIVE_FALL_COARSE g c, PWM_LIVE_FALL_FINE g c]

/-- None of them lies in UPD or FLAGS. -/
theorem diffFields_apart (g c : Nat) : ∀ y ∈ diffFields g c,
    y.ok = true ∧ (PWM_GRP_UPD_DIFF g).addr ≠ y.addr ∧ (PWM_GRP_FLAGS_PER_MISMATCH g).addr ≠ y.addr := by
  simp only [diffFields, List.forall_mem_cons, List.not_mem_nil, false_implies, implies_true, Fld.ok, PWM_GRP_UPD_DIFF,
    PWM_GRP_FLAGS_PER_MISMATCH, PWM_GRP_PER_PER, PWM_LIVE_PER_PER, PWM_GRP_DT_DT_LH, PWM_LIVE_DT_DT_LH, PWM_GRP_DT_DT_HL,
    PWM_LIVE_DT_DT_HL, PWM_GRP_RISE_COARSE, PWM_GRP_RISE_FINE, PWM_LIVE_RISE_COARSE, PWM_LIVE_RISE_FINE, PWM_GRP_FALL_COARSE,
    PWM_GRP_FALL_FINE, PWM_LIVE_FALL_COARSE, PWM_LIVE_FALL_FINE, Bool.and_eq_true, decide_eq_true_eq, and_true]
  omega

/-- DIFF and PER_MISMATCH do not enter the comparison. -/
theorem pwmDiff_congr {d e : Dev} {g : Nat} (h : d.sameFieldsBut e [PWM_GRP_UPD_DIFF g, PWM_GRP_FLAGS_PER_MISMATCH g]) :
    pwmDiff e g = pwmDiff d g := by
  have hf : ∀ c, ∀ y ∈ diffFields g c, e.f y = d.f y := fun c y hy => by
    obtain ⟨hok, hd, hm⟩ := diffFields_apart g c y hy
    exact h y hok (by simpa using ⟨.inl hd, .inl hm⟩)
  simp only [diffFields, List.forall_mem_cons, List.not_mem_nil, false_implies, implies_true, and_true] at hf
  obtain ⟨hp, hlp, htl, hltl, hth, hlth, -⟩ := hf 0
  rw [pwmDiff, pwmDiff, hp, hlp, htl, hltl, hth, hlth]
  refine congrArg _ (List.any_congr rfl fun c => ?_)
  obtain ⟨-, -, -, -, -, -, hrc, hrf, hlrc, hlrf, hfc, hff, hlfc, hlff⟩ := hf c
  unfold edgeSteps
  rw [hrc, hrf, hlrc, hlrf, hfc, hff, hlfc, hlff]

/-! ### The steps of a reload (R240, R244 to R246, R249, R250) -/

/-- The period that ends was not the live one (R249). -/
def reloadMismatch (d : Dev) (g ended : Nat) : Dev :=
  if (d.pwm g).live && decide (d.f (PWM_LIVE_PER_PER g) ≠ ended) then d.setB (PWM_GRP_FLAGS_PER_MISMATCH g) true else d

/-- An armed transfer is made, and no other (R244). -/
def reloadTransfer (d : Dev) (g : Nat) : Dev :=
  if d.b (PWM_GRP_UPD_PENDING g) then (pwmMove d g).setB (PWM_GRP_UPD_PENDING g) false else d

/-- The count of R246 after a reload of `d`. -/
def staleCount (d : Dev) (g : Nat) : Nat :=
  if d.b (PWM_GRP_UPD_PENDING g) || !pwmDiff d g then 0 else min 3 (d.f (PWM_GRP_UPD_STALE_CNT g) + 1)

/-- The reload that brings the count to three. -/
def staleThird (d : Dev) (g : Nat) : Bool := decide (staleCount d g = 3 && d.f (PWM_GRP_UPD_STALE_CNT g) = 2)

/-- Transfer and count. -/
def reloadUpdate (d : Dev) (g : Nat) : Dev :=
  let d1 := (reloadTransfer d g).setF (PWM_GRP_UPD_STALE_CNT g) (staleCount d g)
  if staleThird d g then (d1.setB (PWM_GRP_FLAGS_STALE g) true).setPwm g { d1.pwm g with newStale := true } else d1

/-- The group opens its period: what runs, DIFF, and the pads of its channels (R241 to R243, R250). -/
def reloadOpen (d : Dev) (g : Nat) (pend : Bool) : Dev :=
  let p := d.pwm g
  let xfer := d.b (PWM_GCTL_RUN g) && (p.xfer || pend)
  let live := xfer && !d.b (PWM_GCTL_TRIPPED g) && !d.forced
  let d1 := pwmSetDiff (d.setPwm g { p with xfer := xfer, live := live, moved := pend }) g
  let chans := List.range (d1.f (PWM_GCFG_COUNT g))
  if live then forEach chans (fun x c => pwmShape x g c) (d1.setB (PWM_GCTL_SAFE g) false)
  else forEach chans (fun x c => pwmMissSafe x g c) (pwmSafe d1 g)

theorem pwmReload_eq (d : Dev) (g ended : Nat) : pwmReload d g ended =
    reloadOpen (reloadUpdate (reloadMismatch d g ended) g) g ((reloadMismatch d g ended).b (PWM_GRP_UPD_PENDING g)) := by
  unfold pwmReload reloadOpen reloadUpdate reloadTransfer staleThird staleCount reloadMismatch
  rfl

theorem reloadMismatch_keeps (d : Dev) (g ended : Nat) : d.sameFieldsBut (reloadMismatch d g ended) [PWM_GRP_FLAGS_PER_MISMATCH g] :=
  .ite (.setB (.refl _ _) _ (by simp)) (.refl _ _)

theorem reloadUpdate_keeps (d : Dev) (g : Nat) :
    (reloadTransfer d g).sameFieldsBut (reloadUpdate d g) [PWM_GRP_UPD_STALE_CNT g, PWM_GRP_FLAGS_STALE g] :=
  .ite (.regs_eq (.setB (.setF (.refl _ _) _ (by simp)) _ (by simp)) (setPwm_regs _ _ _)) (.setF (.refl _ _) _ (by simp))

/-- The fields that opening a period writes. -/
def openFields (g : Nat) : List Fld := [PWM_GRP_UPD_DIFF g, PWM_GCTL_SAFE g, PWM_GRP_FLAGS_MINP g, PWM_GRP_FLAGS_BOOT g]

theorem pwmShape_keeps (d : Dev) (g c : Nat) : d.sameFieldsBut (pwmShape d g c) (openFields g) := by
  have hw : ∀ n w, d.sameFieldsBut (d.setWave n w) (openFields g) := fun n w => .regs_eq (.refl _ _) (setWave_regs _ _ _)
  have hm : ∀ {e : Dev} (p : Bool), d.sameFieldsBut e (openFields g) →
      d.sameFieldsBut (if p then e.setB (PWM_GRP_FLAGS_MINP g) true else e) (openFields g) := fun p h =>
    .ite (h.setB _ (by simp [openFields])) h
  exact .regs_eq (.ite (.setB (hm _ (hw _ _)) _ (by simp [openFields])) (hm _ (hw _ _))) (setPwm_regs _ _ _)

theorem pwmSafe_keeps (d : Dev) (g : Nat) : d.sameFieldsBut (pwmSafe d g) (openFields g) :=
  (Dev.sameFieldsBut.refl d _).setB true (by simp [openFields]) |>.trans
    (sameFieldsBut_forEach _ _ (fun _ _ => .regs_eq (.refl _ _) (setWave_regs _ _ _)) _)

theorem reloadOpen_keeps (d : Dev) (g : Nat) (pend : Bool) : d.sameFieldsBut (reloadOpen d g pend) (openFields g) := by
  have hd : ∀ p, d.sameFieldsBut (pwmSetDiff (d.setPwm g p) g) (openFields g) := fun p =>
    .setB (.regs_eq (.refl _ _) (setPwm_regs _ _ _)) _ (by simp [openFields])
  refine .ite ?_ ?_
  · exact ((hd _).setB _ (by simp [openFields])).trans (sameFieldsBut_forEach _ _ (fun x c => pwmShape_keeps x g c) _)
  · exact ((hd _).trans (pwmSafe_keeps _ g)).trans
      (sameFieldsBut_forEach _ _ (fun x c => .regs_eq (.refl _ _) (setPwm_regs _ _ _)) _)

/-! ### What a reload makes of the staging -/

section
variable (d : Dev) (g : Nat)

theorem reloadTransfer_f {y : Fld} (hy : y.ok = true) (ha : (PWM_GRP_UPD_PENDING g).apart y) :
    (reloadTransfer d g).f y = if d.b (PWM_GRP_UPD_PENDING g) then (pwmMove d g).f y else d.f y := by
  unfold reloadTransfer
  split
  · exact f_setF_other _ _ rfl hy ha
  · rfl

theorem reloadTransfer_pending : (reloadTransfer d g).b (PWM_GRP_UPD_PENDING g) = false := by
  unfold reloadTransfer
  split
  · exact b_setB_same _ _ rfl
  · next h => simpa using h

/-- Outside PENDING and the count, a reload shows what the transfer made of the field, or the field. -/
theorem reloadUpdate_f {y : Fld} (hy : y.ok = true) (hp : (PWM_GRP_UPD_PENDING g).apart y) (hc : (PWM_GRP_UPD_STALE_CNT g).apart y)
    (hs : (PWM_GRP_FLAGS_STALE g).apart y) :
    (reloadUpdate d g).f y = if d.b (PWM_GRP_UPD_PENDING g) then (pwmMove d g).f y else d.f y :=
  (reloadUpdate_keeps d g y hy (by simpa using ⟨hc, hs⟩)).trans (reloadTransfer_f d g hy hp)

theorem staleCount_lt : staleCount d g < 4 := by unfold staleCount; split <;> omega

theorem staleThird_eq : staleThird d g =
    (!d.b (PWM_GRP_UPD_PENDING g) && pwmDiff d g && decide (d.f (PWM_GRP_UPD_STALE_CNT g) = 2)) := by
  cases hp : d.b (PWM_GRP_UPD_PENDING g) with
  | true => simp [staleThird, staleCount, hp]
  | false =>
    cases hd : pwmDiff d g with
    | false => simp [staleThird, staleCount, hp, hd]
    | true =>
      have h3 : min 3 (d.f (PWM_GRP_UPD_STALE_CNT g) + 1) = 3 ∧ d.f (PWM_GRP_UPD_STALE_CNT g) = 2 ↔ d.f (PWM_GRP_UPD_STALE_CNT g) = 2 := by
        omega
      simpa [staleThird, staleCount, hp, hd] using h3

theorem stale_apart_count : (PWM_GRP_FLAGS_STALE g).apart (PWM_GRP_UPD_STALE_CNT g) := by
  simp only [Fld.apart, PWM_GRP_FLAGS_STALE, PWM_GRP_UPD_STALE_CNT]; omega

theorem reloadUpdate_count : (reloadUpdate d g).f (PWM_GRP_UPD_STALE_CNT g) = staleCount d g := by
  have hc : ((reloadTransfer d g).setF (PWM_GRP_UPD_STALE_CNT g) (staleCount d g)).f (PWM_GRP_UPD_STALE_CNT g) = staleCount d g :=
    f_setF_same _ _ rfl (staleCount_lt d g)
  unfold reloadUpdate
  dsimp only
  split
  · exact ((f_of_regs (setPwm_regs _ _ _) _).trans (f_setF_other _ _ rfl rfl (stale_apart_count g))).trans hc
  · exact hc

/-- A transfer keeps STALE. -/
theorem pwmMove_stale : (pwmMove d g).f (PWM_GRP_FLAGS_STALE g) = d.f (PWM_GRP_FLAGS_STALE g) :=
  (pwmMove_moved d g).keeps _ rfl (.inr (.inl (of_decide_eq_true rfl)))
    (.inl (by simp only [PWM_GRP_FLAGS_STALE, PWM_LIVE_PER_PER]; omega))

theorem reloadTransfer_stale : (reloadTransfer d g).b (PWM_GRP_FLAGS_STALE g) = d.b (PWM_GRP_FLAGS_STALE g) := by
  refine b_congr ((reloadTransfer_f d g rfl (.inl ?_)).trans ?_)
  · simp only [PWM_GRP_FLAGS_STALE, PWM_GRP_UPD_PENDING]; omega
  · rw [pwmMove_stale, ite_self]

theorem reloadUpdate_stale :
    (reloadUpdate d g).b (PWM_GRP_FLAGS_STALE g) = (d.b (PWM_GRP_FLAGS_STALE g) || staleThird d g) := by
  unfold reloadUpdate
  cases staleThird d g with
  | true => exact (b_congr (f_of_regs (setPwm_regs _ _ _) _)).trans ((b_setB_same _ _ rfl).trans (Bool.or_true _).symm)
  | false =>
    have ha : (PWM_GRP_UPD_STALE_CNT g).addr ≠ (PWM_GRP_FLAGS_STALE g).addr := by
      simp only [PWM_GRP_FLAGS_STALE, PWM_GRP_UPD_STALE_CNT]; omega
    exact (b_congr (f_setF_other _ _ rfl rfl (.inl ha))).trans ((reloadTransfer_stale d g).trans (Bool.or_false _).symm)

end

/-- What R244 to R246 say of a reload from `d` to `e`, edge by edge. -/
structure Reloaded (d e : Dev) (g : Nat) : Prop where
  pending : e.b (PWM_GRP_UPD_PENDING g) = false
  per : e.f (PWM_GRP_PER_PER g) = d.f (PWM_GRP_PER_PER g)
  livePer : e.f (PWM_LIVE_PER_PER g) = if d.b (PWM_GRP_UPD_PENDING g) then d.f (PWM_GRP_PER_PER g) else d.f (PWM_LIVE_PER_PER g)
  count : e.f (PWM_GRP_UPD_STALE_CNT g) = staleCount d g
  stale : e.b (PWM_GRP_FLAGS_STALE g) = (d.b (PWM_GRP_FLAGS_STALE g) || staleThird d g)
  clamp : e.b (PWM_GRP_FLAGS_CLAMP g) =
    (d.b (PWM_GRP_FLAGS_CLAMP g) || (d.b (PWM_GRP_UPD_PENDING g) && (List.range 12).any (edgeOver d g)))
  staging : ∀ k < 12, e.f (edgeCoarse (stagedEdge g k)) = d.f (edgeCoarse (stagedEdge g k)) ∧
    e.f (edgeFine (stagedEdge g k)) = d.f (edgeFine (stagedEdge g k))
  edge : d.b (PWM_GRP_UPD_PENDING g) = true → ∀ k < 12, edgeMoved d e g k

/-- The fields that `Reloaded` leaves to the transfer, edge `k` for the edges. -/
def transferFields (g k : Nat) : List Fld :=
  [PWM_GRP_FLAGS_CLAMP g, PWM_GRP_PER_PER g, PWM_LIVE_PER_PER g, edgeCoarse (stagedEdge g k), edgeFine (stagedEdge g k),
    edgeCoarse (liveEdge g k), edgeFine (liveEdge g k)]

/-- All fields that `Reloaded` speaks of. -/
def updateFields (g k : Nat) : List Fld :=
  PWM_GRP_UPD_PENDING g :: PWM_GRP_UPD_STALE_CNT g :: PWM_GRP_FLAGS_STALE g :: transferFields g k

theorem updateFields_apart {g k : Nat} (hg : g < 16) (hk : k < 12) : ∀ y ∈ updateFields g k,
    y.ok = true ∧ ∀ x ∈ PWM_GRP_FLAGS_PER_MISMATCH g :: openFields g, x.apart y := by
  simp only [updateFields, transferFields, openFields, List.forall_mem_cons, List.not_mem_nil, false_implies, implies_true, and_true,
    Fld.ok, Fld.apart, PWM_GRP_UPD_PENDING, PWM_GRP_UPD_STALE_CNT, PWM_GRP_FLAGS_STALE, PWM_GRP_FLAGS_CLAMP, PWM_GRP_PER_PER, PWM_LIVE_PER_PER,
    PWM_GRP_FLAGS_PER_MISMATCH, PWM_GRP_UPD_DIFF, PWM_GCTL_SAFE, PWM_GRP_FLAGS_MINP, PWM_GRP_FLAGS_BOOT, edgeCoarse, edgeFine,
    stagedEdge, liveEdge, Bool.and_eq_true, decide_eq_true_eq]
  omega

/-- `Reloaded` speaks of no other field. -/
theorem Reloaded.congr {d d' e e' : Dev} {g : Nat} (hd : ∀ k < 12, ∀ y ∈ updateFields g k, d'.f y = d.f y)
    (he : ∀ k < 12, ∀ y ∈ updateFields g k, e'.f y = e.f y) (hdiff : pwmDiff d' g = pwmDiff d g) (h : Reloaded d' e g) :
    Reloaded d e' g := by
  simp only [updateFields, transferFields, List.forall_mem_cons, List.not_mem_nil, false_implies, implies_true, and_true] at hd he
  obtain ⟨hp, hc, hs, hcl, hper, hlp, -⟩ := hd 0 (by decide)
  obtain ⟨hp', hc', hs', hcl', hper', hlp', -⟩ := he 0 (by decide)
  have hover : ∀ k ∈ List.range 12, edgeOver d' g k = edgeOver d g k := fun k hk => by
    obtain ⟨-, -, -, -, -, -, hsc, hsf, -⟩ := hd k (List.mem_range.1 hk)
    exact edgeOver_congr hper hsc hsf
  have hcount : staleCount d' g = staleCount d g := by rw [staleCount, staleCount, b_congr hp, hdiff, hc]
  refine ⟨(b_congr hp').trans h.pending, ?_, ?_, ?_, ?_, ?_, fun k hk => ?_, fun hpend k hk => ?_⟩
  · rw [hper', h.per, hper]
  · rw [hlp', h.livePer, b_congr hp, hper, hlp]
  · rw [hc', h.count, hcount]
  · rw [b_congr hs', h.stale, b_congr hs, staleThird, staleThird, hcount, hc]
  · rw [b_congr hcl', h.clamp, b_congr hcl, b_congr hp]
    have hany : (List.range 12).any (edgeOver d' g) = (List.range 12).any (edgeOver d g) := by
      simpa only [List.any_map, Function.id_comp] using congrArg (List.any · id) (List.map_congr_left hover)
    rw [hany]
  · obtain ⟨-, -, -, -, -, -, hsc, hsf, -⟩ := hd k hk
    obtain ⟨-, -, -, -, -, -, hsc', hsf', -⟩ := he k hk
    obtain ⟨hkc, hkf⟩ := h.staging k hk
    exact ⟨hsc'.trans (hkc.trans hsc), hsf'.trans (hkf.trans hsf)⟩
  · obtain ⟨-, -, -, -, -, -, hsc, hsf, -⟩ := hd k hk
    obtain ⟨-, -, -, -, -, -, -, -, hlc', hlf'⟩ := he k hk
    exact edgeMoved_congr hper hsc hsf hlc' hlf' (h.edge ((b_congr hp).trans hpend) k hk)

/-- One edge: its staging stays, and an armed transfer moves it. -/
theorem Reloaded.edge_spec {d e : Dev} {g k : Nat} (h : Reloaded d e g) (hk : k < 12) :
    e.f (edgeCoarse (stagedEdge g k)) = d.f (edgeCoarse (stagedEdge g k)) ∧
    e.f (edgeFine (stagedEdge g k)) = d.f (edgeFine (stagedEdge g k)) ∧
    (d.b (PWM_GRP_UPD_PENDING g) = true →
      if 8 * d.f (PWM_GRP_PER_PER g) < edgeSteps d (edgeCoarse (stagedEdge g k)) (edgeFine (stagedEdge g k)) then
        e.f (edgeCoarse (liveEdge g k)) = d.f (PWM_GRP_PER_PER g) ∧ e.f (edgeFine (liveEdge g k)) = 0
      else e.f (edgeCoarse (liveEdge g k)) = d.f (edgeCoarse (stagedEdge g k)) ∧
        e.f (edgeFine (liveEdge g k)) = d.f (edgeFine (stagedEdge g k))) := by
  obtain ⟨hc, hf⟩ := h.staging k hk
  refine ⟨hc, hf, fun hpend => ?_⟩
  simpa only [edgeMoved, edgeOver, decide_eq_true_eq] using h.edge hpend k hk

/-- PENDING and the count share no bit with them. -/
theorem transferFields_apart {g k : Nat} (hk : k < 12) : ∀ y ∈ transferFields g k,
    y.ok = true ∧ (PWM_GRP_UPD_PENDING g).apart y ∧ (PWM_GRP_UPD_STALE_CNT g).apart y ∧ (PWM_GRP_FLAGS_STALE g).apart y := by
  simp only [transferFields, List.forall_mem_cons, List.not_mem_nil, false_implies, implies_true, and_true, Fld.ok, Fld.apart,
    PWM_GRP_UPD_PENDING, PWM_GRP_UPD_STALE_CNT, PWM_GRP_FLAGS_STALE, PWM_GRP_FLAGS_CLAMP, PWM_GRP_PER_PER, PWM_LIVE_PER_PER,
    edgeCoarse, edgeFine, stagedEdge, liveEdge, Bool.and_eq_true, decide_eq_true_eq]
  omega

theorem reloadUpdate_reloaded (d : Dev) (g : Nat) : Reloaded d (reloadUpdate d g) g := by
  have hm := pwmMove_moved d g
  have hf : ∀ k < 12, ∀ y ∈ transferFields g k,
      (reloadUpdate d g).f y = if d.b (PWM_GRP_UPD_PENDING g) then (pwmMove d g).f y else d.f y := fun k hk y hy => by
    obtain ⟨hok, hp, hc, hs⟩ := transferFields_apart (g := g) hk y hy
    exact reloadUpdate_f d g hok hp hc hs
  simp only [transferFields, List.forall_mem_cons, List.not_mem_nil, false_implies, implies_true, and_true] at hf
  obtain ⟨hcl, hper, hlp, -⟩ := hf 0 (by decide)
  refine ⟨?_, ?_, ?_, reloadUpdate_count d g, reloadUpdate_stale d g, ?_, fun k hk => ?_, fun hpend k hk => ?_⟩
  · have ha : (PWM_GRP_UPD_STALE_CNT g).apart (PWM_GRP_UPD_PENDING g) ∧ (PWM_GRP_FLAGS_STALE g).apart (PWM_GRP_UPD_PENDING g) := by
      simp only [Fld.apart, PWM_GRP_UPD_STALE_CNT, PWM_GRP_FLAGS_STALE, PWM_GRP_UPD_PENDING]; omega
    exact (b_congr (reloadUpdate_keeps d g _ rfl (by simpa using ha))).trans (reloadTransfer_pending d g)
  · rw [hper, hm.staged_per, ite_self]
  · rw [hlp, hm.per]
  · cases hpend : d.b (PWM_GRP_UPD_PENDING g) with
    | true => rw [hpend, if_pos rfl] at hcl; rw [b_congr hcl, hm.clamp, Bool.true_and]
    | false => rw [hpend] at hcl; rw [b_congr hcl, Bool.false_and, Bool.or_false]
  · obtain ⟨-, -, -, hsc, hsf, -⟩ := hf k hk
    obtain ⟨hmc, hmf⟩ := hm.staged_edge hk
    rw [hsc, hsf, hmc, hmf, ite_self, ite_self]
    exact ⟨rfl, rfl⟩
  · obtain ⟨-, -, -, -, -, hlc, hlf⟩ := hf k hk
    rw [if_pos hpend] at hlc hlf
    exact edgeMoved_congr rfl rfl rfl hlc hlf (hm.edge k hk)

/-- A reload does to group `g` what R244 to R246 say. -/
theorem pwmReload_reloaded (d : Dev) (g : Fin 16) (ended : Nat) : Reloaded d (pwmReload d g ended) g := by
  rw [pwmReload_eq]
  refine .congr (fun k hk y hy => ?_) (fun k hk y hy => ?_) ?_ (reloadUpdate_reloaded (reloadMismatch d g ended) g)
  · obtain ⟨hok, ha⟩ := updateFields_apart g.isLt hk y hy
    exact reloadMismatch_keeps d g ended y hok (by simpa using ha _ List.mem_cons_self)
  · obtain ⟨hok, ha⟩ := updateFields_apart g.isLt hk y hy
    exact reloadOpen_keeps _ g _ y hok fun x hx => ha x (List.mem_cons_of_mem _ hx)
  · exact pwmDiff_congr ((reloadMismatch_keeps d g ended).mono (by simp))

/-! ### Writes to staging and to COMMIT (R244, Table 10-2) -/

/-- A staged register holds RW fields and no others. -/
theorem stagedReg_fields (g : Fin 16) (r : StagedReg) :
    (regDesc (0x200000 + 64 * g + r.offset)).all (fun x => x.fields.all (fun f => decide (f.acc = .rw))) = true := by
  cases r with
  | per => revert g; decide
  | dt => revert g; decide
  | rise c => revert g c; decide
  | fall c => revert g c; decide

theorem accMask_stagedReg (g : Fin 16) (r : StagedReg) (p : Access → Bool) (hp : p .rw = false) :
    accMask (0x200000 + 64 * g + r.offset) p = 0 := by
  have h := stagedReg_fields g r
  unfold accMask
  cases hr : regDesc (0x200000 + 64 * g + r.offset) with
  | none => rfl
  | some x =>
    have hrw : ∀ f ∈ x.fields, f.acc = .rw := by simpa [hr] using h
    have hx : x.fields.filter (fun f => p f.acc) = [] := List.filter_eq_nil_iff.2 fun f hf => by simp [hrw f hf, hp]
    simp [hx]

/-- A register without W1C and RWL fields takes its RW fields. -/
theorem regPut_rw (d : Dev) (a : Nat) (v : Word) (hc : accMask a (fun c => decide (c = .w1c)) = 0)
    (hl : accMask a (fun c => decide (c = .rwl)) = 0) : regPut d a v =
      d.setReg a ((d.reg a &&& ~~~accMask a (fun c => decide (c = .rw))) ||| (v &&& accMask a (fun c => decide (c = .rw)))) := by
  have h0 : (0 : Word) = 0#32 := rfl
  simp only [regPut, hc, hl, h0, BitVec.and_zero, BitVec.not_zero, BitVec.and_allOnes, BitVec.or_zero, ite_self, ne_eq,
    not_true_eq_false, decide_false, Bool.and_false, Bool.false_and, Bool.false_eq_true, if_false]

/-- Offsets of staged registers: within the group, not UPD and not FLAGS. -/
theorem StagedReg.offset_bounds (r : StagedReg) : r.offset < 64 ∧ r.offset ≠ 8 ∧ r.offset ≠ 12 := by
  cases r <;> simp only [StagedReg.offset] <;> omega

/-- A staging write sets the RW fields of its register, disarms the transfer and compares again. -/
theorem stageWrite_eq (d : Dev) (g : Fin 16) (r : StagedReg) (v : Word) {a : Nat} {m : Word} (ha : a = 0x200000 + 64 * g + r.offset)
    (hm : m = accMask a (fun c => decide (c = .rw))) : stageWrite d g r v =
      pwmSetDiff ((d.setReg a ((d.reg a &&& ~~~m) ||| (v &&& m))).setB (PWM_GRP_UPD_PENDING g) false) g := by
  obtain ⟨hlt, h8, h12⟩ := r.offset_bounds
  have hg := g.isLt
  have ho : a % 64 = r.offset := by omega
  have hd : (a - 0x200000) / 64 = g := by omega
  have hput : regPut d a v = d.setReg a ((d.reg a &&& ~~~m) ||| (v &&& m)) := by
    rw [hm, ha, regPut_rw _ _ _ (accMask_stagedReg g r _ rfl) (accMask_stagedReg g r _ rfl)]
  rw [stageWrite, ← ha, pwmRegWrite, if_pos (by omega), ← hput]
  simp only [ho, hd, if_neg h8, if_neg h12]

/-- UPD is not a staged register. -/
theorem stagedReg_ne_upd (g : Fin 16) (r : StagedReg) : 0x200000 + 64 * g + r.offset ≠ (PWM_GRP_UPD_PENDING g).addr := by
  obtain ⟨-, h8, -⟩ := r.offset_bounds
  simp only [PWM_GRP_UPD_PENDING]; omega

theorem pwmDiff_setDiff (d : Dev) (g : Nat) : pwmDiff (pwmSetDiff d g) g = pwmDiff d g :=
  pwmDiff_congr (.setB (.refl _ _) _ (by simp))

theorem onDev_has {s : State} {k : Nat} (h : s.blk.dev.has k = true) (f : Dev → Dev) : s.onDev k f = s.withDev (f s.blk.dev) := by
  rw [State.onDev, State.act, if_pos h]; rfl

/-- What a staging write does: its register and UPD, and nothing else (R244). -/
theorem stageWrite_spec (d : Dev) (g : Fin 16) (r : StagedReg) (v : Word) {a : Nat} {m : Word} (ha : a = 0x200000 + 64 * g + r.offset)
    (hm : m = accMask a (fun c => decide (c = .rw))) :
    (stageWrite d g r v).reg a = ((d.reg a &&& ~~~m) ||| (v &&& m)) ∧
    (stageWrite d g r v).b (PWM_GRP_UPD_PENDING g) = false ∧
    (stageWrite d g r v).b (PWM_GRP_UPD_DIFF g) = pwmDiff (stageWrite d g r v) g ∧
    d.sameRegsBut (stageWrite d g r v) [a, (PWM_GRP_UPD_PENDING g).addr] ∧
    stageWrite d g r v = { d with regs := (stageWrite d g r v).regs } := by
  have hupd : a ≠ (PWM_GRP_UPD_PENDING g).addr := ha ▸ stagedReg_ne_upd g r
  have hne : ∀ b, b ≠ (PWM_GRP_UPD_PENDING g).addr →
      (stageWrite d g r v).reg b = (d.setReg a ((d.reg a &&& ~~~m) ||| (v &&& m))).reg b := fun b hb => by
    rw [stageWrite_eq d g r v ha hm]
    exact (reg_setF_ne _ (PWM_GRP_UPD_DIFF g) _ hb).trans (reg_setF_ne _ (PWM_GRP_UPD_PENDING g) _ hb)
  refine ⟨(hne a hupd).trans (reg_setReg_same _ _ _), ?_, ?_, fun b hb => ?_, ?_⟩
  · rw [stageWrite_eq d g r v ha hm]
    exact (b_congr (f_setF_other _ _ rfl rfl (.inr (.inr (of_decide_eq_true rfl))))).trans (b_setB_same _ _ rfl)
  · rw [stageWrite_eq d g r v ha hm, pwmDiff_setDiff]
    exact b_setB_same _ _ rfl
  · obtain ⟨hba, hbu⟩ : b ≠ a ∧ b ≠ (PWM_GRP_UPD_PENDING g).addr := by
      simpa only [List.mem_cons, List.not_mem_nil, or_false, not_or] using hb
    exact (hne b hbu).trans (reg_setReg_ne _ _ hba)
  · rw [stageWrite_eq d g r v ha hm]
    rfl

/-- What is late: a COMMIT in the reload cycle of a reload that made no transfer (Table 10-2). -/
theorem pwmCommit_eq (d : Dev) (g at_ : Nat) : pwmCommit d g at_ =
    if d.running = true ∧ at_ = d.esc.t0 ∧ (d.pwm g).moved = false then
      ((d.setB (PWM_GRP_UPD_PENDING g) true).setB (PWM_GRP_FLAGS_LATE_COMMIT g) true).setPwm g { d.pwm g with newLate := true }
    else d.setB (PWM_GRP_UPD_PENDING g) true := by
  have hlate : (decide (at_ = d.esc.t0) && !(d.pwm g).moved && d.running) = true ↔
      d.running = true ∧ at_ = d.esc.t0 ∧ (d.pwm g).moved = false := by
    simp only [Bool.and_eq_true, decide_eq_true_eq, Bool.not_eq_true']
    exact and_comm
  unfold pwmCommit
  dsimp only
  by_cases h : d.running = true ∧ at_ = d.esc.t0 ∧ (d.pwm g).moved = false
  · rw [if_pos h, if_pos (hlate.2 h)]
    rfl
  · rw [if_neg h, if_neg (mt hlate.1 h)]

end Sys2Proof.Machine

namespace Sys2Proof
open Machine Fld

/-- Settles O36: the writes set one register and UPD, and a reload is the transfer edge by edge, the count, and work on other fields. -/
theorem pwmStagedUpdates : Obligations.PwmStagedUpdates := by
  unfold Obligations.PwmStagedUpdates
  intro s g reg v at_ ended d a m hd ha hm hhas
  subst hd
  refine ⟨⟨stageWrite s.blk.dev g reg v, congrArg Host.Outcome.next (onDev_has hhas _), stageWrite_spec _ g reg v ha hm⟩,
    fun hno => ?_, fun hrun hat hmoved => ?_, ?_⟩
  · refine congrArg Host.Outcome.next ((onDev_has hhas _).trans ?_)
    rw [pwmCommit_eq, if_neg]
    rintro ⟨hrun, hat, hmoved⟩
    simp [hrun, hat, hmoved] at hno
  · refine congrArg Host.Outcome.next ((onDev_has hhas _).trans ?_)
    rw [pwmCommit_eq, if_pos ⟨hrun, hat, hmoved⟩]
  · rintro e rfl
    have h := pwmReload_reloaded s.blk.dev g ended
    refine ⟨h.pending, h.per, h.livePer, h.count, ?_, ?_, fun c hc x hx => ?_⟩
    · rw [h.stale, staleThird_eq]
    · rw [h.clamp, any_edgeOver]
    · simp only [rise_eq_edge, fall_eq_edge, List.mem_cons, List.not_mem_nil, or_false] at hx
      rcases hx with rfl | rfl
      · exact h.edge_spec (by omega)
      · exact h.edge_spec (by omega)

end Sys2Proof
end
